-- ==== Sys2Proof/Word.lean ====
section
/-! DEFINITION. The word types of the DK62 and the fixed-size tables its blocks hold. -/

namespace Sys2Proof

/-- One byte of a link frame (R1). -/
abbrev Byte := BitVec 8

/-- A 16-bit field: a set of points (point n is bit n), a measured value, an alert's detail. -/
abbrev Word16 := BitVec 16

/-- A traffic counter: "a 32-bit unsigned count from 0 to 4294967295" (R165). -/
abbrev Word32 := BitVec 32

/-- Row `i` of a table becomes `x`. -/
def Tab.put {α : Type} {n : Nat} (t : Vector α n) (i : Fin n) (x : α) : Vector α n :=
  t.set i.val x i.isLt

/-- Row `i` of a table is changed by `f`. -/
def Tab.upd {α : Type} {n : Nat} (t : Vector α n) (i : Fin n) (f : α → α) : Vector α n :=
  Tab.put t i (f (t.get i))

/-- The table whose row `i` is `f i`. -/
def Tab.of {α : Type} {n : Nat} (f : Fin n → α) : Vector α n :=
  ⟨⟨(List.finRange n).map f⟩, by simp⟩

end Sys2Proof
end

