-- ==== Sys2Proof/Syntax.lean ====
section
/-! DEFINITION. The commands the DK62 takes (one constructor of `Instr` per row of spec/opcode_table.json) with their
operands: the items of the tables, the fields of the table writes as the console writes them, the management requests. -/

namespace Sys2Proof

/-! ## Names of the hardware's units -/

/-- The three serial ports. -/
inductive Port where
  | deckA
  | deckB
  | bridge
deriving DecidableEq, Repr

/-- The two deck lines. -/
inductive Deck where
  | a
  | b
deriving DecidableEq, Repr

/-- The four counter sets (R165). -/
inductive CounterSet where
  | deckA
  | deckB
  | bridge
  | global
deriving DecidableEq, Repr

/-- Zones 0..7. -/
abbrev ZoneId := Fin 8
/-- Ramps 0..3. -/
abbrev RampId := Fin 4
/-- Doors 0..23. -/
abbrev DoorId := Fin 24
/-- Direct lines 0..15. -/
abbrev LineId := Fin 16
/-- Timer channels 0..7. -/
abbrev ChannelId := Fin 8
/-- Event codes 0..63. -/
abbrev Code := Fin 64
/-- Message indexes 0..255. -/
abbrev MsgId := Fin 256
/-- Counters 0..12 of a set (R165). -/
abbrev CounterId := Fin 13
/-- Station addresses 1..254: the index `a` is the station of address `a + 1`. -/
abbrev Addr := Fin 254

/-! ## The values of record fields -/

/-- A station's role (R18). -/
inductive Role where
  | door | detector | rampDrive | amplifier | callPanel | general | unused
deriving DecidableEq, Repr

/-- The deck lines a station hangs on (R18). -/
inductive Attachment where
  | a | b | both
deriving DecidableEq, Repr

/-- A station's forwarding policy (R24). -/
inductive Policy where
  | forward | mirrorOnly | drop
deriving DecidableEq, Repr

/-- The mode of a timer channel (R63). -/
inductive TimerMode where
  | interval | oneShot | count | width
deriving DecidableEq, Repr

/-- The tick of a timer channel (R63): 1 ms, 10 ms, 100 ms, 1 s. -/
inductive TimerTick where
  | ms1 | ms10 | ms100 | s1
deriving DecidableEq, Repr

/-- What the Alert Vector Table does with a code (R69). -/
inductive Gate where
  | hold | pass | dispatch
deriving DecidableEq, Repr

/-- Whether a code is latched by an edge or held by a condition (R69). -/
inductive Sense where
  | edge | level
deriving DecidableEq, Repr

/-- The cause of a zone close request (R111). -/
inductive CloseCause where
  | routine | fire
deriving DecidableEq, Repr

/-! ## Table writes as the console writes them

A field that the manual clamps or range-tests is a `Nat` (or, for a list of names, an `Option` whose `none` is a value
outside the list); the record it is stored as is in Machine/Types.lean. -/

/-- One event map as written (R18). -/
structure MapFields where
  point : Nat
  activeHigh : Bool
  code : Nat
deriving DecidableEq, Repr

/-- The fields of a STATION write (R18). -/
structure StationFields where
  role : Option Role
  zone : Option Nat
  attachment : Option Attachment
  rxEnable : Bool
  policy : Option Policy
  mirrorAllowed : Bool
  freshness : Nat
  checkTime : Nat
  silenceLimit : Nat
  silenceCode : Option Nat
  maps : List MapFields
deriving DecidableEq, Repr

/-- The fields of a ZONE write (R98). -/
structure ZoneFields where
  amplifier : Option Nat
  warningMsg : Nat
  fireMsg : Nat
  openMsg : Nat
  routineWarn : Nat
  fireWarn : Nat
  clearRequired : Bool
  callWait : Nat
  doorHold : Option Nat
  fireCode : Option Nat
  closedCode : Option Nat
  partialCode : Option Nat
  routinePriority : Nat
  firePriority : Nat
deriving DecidableEq, Repr

/-- The fields of a DOOR write (R99). -/
structure DoorFields where
  station : Option Nat
  zone : Nat
  closeLimit : Nat
  retryLimit : Nat
  retryInterval : Nat
deriving DecidableEq, Repr

/-- The fields of a RAMP write (R143). -/
structure RampFields where
  drive : Option Nat
  guardZone : Nat
  enableLine : Option Nat
  pmax : Nat
  window : Nat
  approach : Nat
  vmax : Nat
  vcreep : Nat
  astep : Nat
  period : Nat
  vtol : Nat
  stallPeriods : Nat
  clearanceMsg : Nat
  clearancePriority : Nat
  overtravel : Nat
  arrivedCode : Option Nat
  landedCode : Option Nat
  heldCode : Option Nat
  faultCode : Option Nat
deriving DecidableEq, Repr

/-- The function of a direct line as written (R54). -/
inductive LineFnFields where
  | generalIn
  | encoderA (r : Nat)
  | encoderB (r : Nat)
  | stopLoop
  | alarmButton
  | rampEnable (r : Nat)
  | doorHold (z : Nat)
  | unassigned
  | outside
deriving DecidableEq, Repr

/-- The fields of a LINE write (R54). -/
structure LineFields where
  fn : LineFnFields
  enable : Bool
  activeHigh : Bool
  checkTime : Nat
  code : Option Nat
deriving DecidableEq, Repr

/-- The source of a timer channel as written (R63). -/
inductive TimerSourceFields where
  | absent
  | line (n : Nat)
  | station (s : Nat) (point : Nat)
deriving DecidableEq, Repr

/-- The fields of a TIMER write (R63). -/
structure TimerFields where
  mode : Option TimerMode
  tick : Option TimerTick
  reload : Nat
  source : TimerSourceFields
  code : Option Nat
deriving DecidableEq, Repr

/-- A dispatch target as written (R69); `rampHold none` is "all". -/
inductive TargetFields where
  | zoneCloseRoutine (z : Nat)
  | zoneCloseFire (z : Nat)
  | zoneOpen (z : Nat)
  | rampHold (r : Option Nat)
  | call (message : Nat) (zones : List Nat) (priority : Nat) (repeats : Nat)
  | outside
deriving DecidableEq, Repr

/-- The fields of a VECTOR write (R69). -/
structure VectorFields where
  present : Bool
  gate : Option Gate
  level : Nat
  sense : Option Sense
  notify : Bool
  authority : Nat
  target : TargetFields
deriving DecidableEq, Repr

/-- The fields of a MESSAGE write (R124). -/
structure MessageFields where
  inUse : Bool
  durationLimit : Nat
  chime : Bool
  repeatGap : Nat
deriving DecidableEq, Repr

/-- One field of the Device Record with its new value (R176); a counter set of `none` is outside the four. -/
inductive DeviceField where
  | bridgeLossTime (v : Nat)
  | ackLimit (v : Nat)
  | lineFaultCode (c : Option Nat)
  | counterCode (set : Option CounterSet) (c : Option Nat)
  | markMask (set : Option CounterSet) (counter : Nat) (halfMasked fullMasked : Bool)
  | windowLength (d : Deck) (v : Nat)
  | threshold (d : Deck) (v : Nat)
  | qualityCode (d : Deck) (c : Option Nat)
deriving DecidableEq, Repr

/-! ## Management requests -/

/-- What every management request carries besides its own parameters: the source and tag of its MGMT frame, which
address the reply (R2), and the request's authority (R173). -/
structure Header where
  source : Byte
  tag : Byte
  authority : Nat
deriving DecidableEq, Repr

/-- The tables of TABLE READ (R175). -/
inductive TableName where
  | station | zone | door | ramp | line | timer | vector | message | device
deriving DecidableEq, Repr

/-- The sections of STATUS READ (R182). -/
inductive Section where
  | device | pending | stack | pass | zones | doors | ramps | calls | lines
deriving DecidableEq, Repr

/-- The scope of MIRROR PURGE with its parameter (R51); `outside` is a scope outside the list. -/
inductive PurgeScope where
  | all
  | address (s : Nat)
  | index (i : Nat)
  | outside
deriving DecidableEq, Repr

/-- A management request with its parameters, in the order its rule gives them (R173). An `Option` parameter is `none`
where the value written lies outside its list. -/
inductive Request where
  | tableRead (table : Option TableName) (index : Nat)
  | stationWrite (s : Nat) (f : StationFields)
  | zoneWrite (z : Nat) (f : ZoneFields)
  | doorWrite (d : Nat) (f : DoorFields)
  | rampWrite (r : Nat) (f : RampFields)
  | lineWrite (n : Nat) (f : LineFields)
  | timerWrite (ch : Nat) (f : TimerFields)
  | vectorWrite (c : Nat) (f : VectorFields)
  | messageWrite (m : Nat) (f : MessageFields)
  | deviceWrite (f : DeviceField)
  | statusRead (part : Option Section) (first : Nat)
  | counterRead (set : Option CounterSet) (first : Nat) (clear : Bool)
  | mirrorRead (i : Nat)
  | mirrorPurge (scope : PurgeScope)
  | start
  | stop
  | restart
  | resume
  | generalAlarm
  | generalAlarmClear
  | testRaise (c : Nat)
  | withdraw (c : Nat)
  | timerStart (ch : Nat)
  | timerStop (ch : Nat)
  | zoneClose (z : Nat) (cause : CloseCause)
  | zoneOpen (z : Nat)
  | closeNow (z : Nat)
  | zoneClear (z : Nat)
  | fireDeclare (z : Nat)
  | fireClear (z : Nat)
  | fireOverride (z : Nat) (on : Bool)
  | call (message : Nat) (zones : List Nat) (priority : Nat) (repeats : Nat)
  | callCancel (message : Nat)
  | rampMove (r : Nat) (target : Int)
  | rampHome (r : Nat)
  | rampStop (r : Nat)
  | rampRelease (r : Nat)
deriving DecidableEq, Repr

/-! ## Commands -/

/-- One command: a step of the part, whole and indivisible (spec/95), one constructor per row of the opcode table.
Expiry and sample commands name the item whose timer expires; the request commands carry the request as the Classifier
hands it to the Management Unit. -/
inductive Instr where
  /-- POWER_ON: power-on or release of RESET, with the levels the two strap pins are read at (true: tied low). -/
  | powerOn (strap1Low strap2Low : Bool)
  /-- SIGNAL_REPORT of a port's line receiver. -/
  | signalReport (p : Port)
  /-- LOSS_OF_SIGNAL of a port's line receiver; `receiving`: a frame was being received. -/
  | lossOfSignal (p : Port) (receiving : Bool)
  /-- BRIDGE_LOSS_EXPIRY. -/
  | bridgeLossExpiry
  /-- FRAME_END: the line falls idle after the given bytes since the last idle, the start delimiter among them. -/
  | frameEnd (p : Port) (bytes : List Byte)
  /-- TRANSMISSION_END of a port's transmitter. -/
  | transmissionEnd (p : Port)
  /-- DECK_FRAME_TAKEN from the head of a deck line's receive queue. -/
  | deckFrameTaken (d : Deck)
  /-- BRIDGE_FRAME_TAKEN from the head of the Bridge receive queue. -/
  | bridgeFrameTaken
  /-- SUPERVISION_EXPIRY of the 100 ms clock. -/
  | supervisionExpiry
  /-- PIN_CHANGE: a direct line's pin takes the level given. -/
  | pinChange (n : LineId) (high : Bool)
  /-- DIRECT_LINE_SAMPLE: an input line's sample countdown reaches 0. -/
  | directLineSample (n : LineId)
  /-- ENCODER_EDGE: an encoder pin changes to the level given. -/
  | encoderEdge (n : LineId) (high : Bool)
  /-- TIMER_TICK of a channel. -/
  | timerTick (ch : ChannelId)
  /-- ACK_TIMER_EXPIRY of the record of a code (0 is the general-alarm record). -/
  | ackTimerExpiry (c : Code)
  /-- ESCALATION_TIMER_EXPIRY. -/
  | escalationTimerExpiry
  /-- CLOSE_LIMIT_EXPIRY of a door. -/
  | closeLimitExpiry (d : DoorId)
  /-- RETRY_TIMER_EXPIRY of a door. -/
  | retryTimerExpiry (d : DoorId)
  /-- COUNTDOWN_EXPIRY of a zone. -/
  | countdownExpiry (z : ZoneId)
  /-- CALL_WAIT_EXPIRY of a zone. -/
  | callWaitExpiry (z : ZoneId)
  /-- START_TIMER_EXPIRY of a zone line. -/
  | startTimerExpiry (z : ZoneId)
  /-- DURATION_TIMER_EXPIRY of a zone line. -/
  | durationTimerExpiry (z : ZoneId)
  /-- STOP_TIMER_EXPIRY of a zone line. -/
  | stopTimerExpiry (z : ZoneId)
  /-- GAP_TIMER_EXPIRY of the call with the arrival stamp given. -/
  | gapTimerExpiry (stamp : Nat)
  /-- CONTROL_PERIOD_EXPIRY of a ramp. -/
  | controlPeriodExpiry (r : RampId)
  /-- CLEARANCE_WAIT_EXPIRY of a ramp. -/
  | clearanceWaitExpiry (r : RampId)
  /-- QUALITY_WINDOW_END of a deck line. -/
  | qualityWindowEnd (d : Deck)
  | tableRead (h : Header) (table : Option TableName) (index : Nat)
  | stationWrite (h : Header) (s : Nat) (f : StationFields)
  | zoneWrite (h : Header) (z : Nat) (f : ZoneFields)
  | doorWrite (h : Header) (d : Nat) (f : DoorFields)
  | rampWrite (h : Header) (r : Nat) (f : RampFields)
  | lineWrite (h : Header) (n : Nat) (f : LineFields)
  | timerWrite (h : Header) (ch : Nat) (f : TimerFields)
  | vectorWrite (h : Header) (c : Nat) (f : VectorFields)
  | messageWrite (h : Header) (m : Nat) (f : MessageFields)
  | deviceWrite (h : Header) (f : DeviceField)
  | statusRead (h : Header) (part : Option Section) (first : Nat)
  | counterRead (h : Header) (set : Option CounterSet) (first : Nat) (clear : Bool)
  | mirrorRead (h : Header) (i : Nat)
  | mirrorPurge (h : Header) (scope : PurgeScope)
  | start (h : Header)
  | stop (h : Header)
  | restart (h : Header)
  | resume (h : Header)
  | generalAlarm (h : Header)
  | generalAlarmClear (h : Header)
  | testRaise (h : Header) (c : Nat)
  | withdraw (h : Header) (c : Nat)
  | timerStart (h : Header) (ch : Nat)
  | timerStop (h : Header) (ch : Nat)
  | zoneClose (h : Header) (z : Nat) (cause : CloseCause)
  | zoneOpen (h : Header) (z : Nat)
  | closeNow (h : Header) (z : Nat)
  | zoneClear (h : Header) (z : Nat)
  | fireDeclare (h : Header) (z : Nat)
  | fireClear (h : Header) (z : Nat)
  | fireOverride (h : Header) (z : Nat) (on : Bool)
  | call (h : Header) (message : Nat) (zones : List Nat) (priority : Nat) (repeats : Nat)
  | callCancel (h : Header) (message : Nat)
  | rampMove (h : Header) (r : Nat) (target : Int)
  | rampHome (h : Header) (r : Nat)
  | rampStop (h : Header) (r : Nat)
  | rampRelease (h : Header) (r : Nat)
  /-- RESET_ASSERTION of the active-low RESET pin. -/
  | resetAssertion
deriving DecidableEq, Repr

end Sys2Proof
end

