-- ==== Sys2Proof/Machine/Types.lean ====
section
/-! DEFINITION. The records and dynamic items the DK62's blocks keep, each as the rule named in its docstring lists it. -/

namespace Sys2Proof.Machine

/-! ## Small types shared by the blocks -/

/-- One value for each port. -/
structure ByPort (α : Type) where
  deckA : α
  deckB : α
  bridge : α
deriving DecidableEq, Repr

/-- One value for each deck line. -/
structure ByDeck (α : Type) where
  a : α
  b : α
deriving DecidableEq, Repr

/-- A timer: STOPPED, or RUNNING with the instant of the time base (in ticks of 10 µs) at which it is due. -/
inductive Timer where
  | stopped
  | running (due : Nat)
deriving DecidableEq, Repr

/-- The device state (R177). -/
inductive DeviceState where
  | config | run | autonomous
deriving DecidableEq, Repr

/-- The owner of a station (R32). -/
inductive Owner where
  | free
  | zone (z : ZoneId)
  | ramp (r : RampId)
  | line (z : ZoneId)
deriving DecidableEq, Repr

/-- A station's condition (R5). -/
inductive Condition where
  | ok | warn | fault
deriving DecidableEq, Repr

/-- The supervision status of a station (R20). -/
inductive Supervision where
  | heard | silent
deriving DecidableEq, Repr

/-- The origin of an activation (R8). -/
inductive Origin where
  | frame | internal | request
deriving DecidableEq, Repr

/-- The attributes of an event code (R72). -/
structure Attributes where
  origin : Origin
  station : Option Addr
  zone : Option ZoneId
  detail : Word16
deriving DecidableEq, Repr

/-! ## Station Table (R18, R20) -/

/-- One event map of a station (R18). -/
structure EventMap where
  point : Fin 16
  activeHigh : Bool
  code : Code
deriving DecidableEq, Repr

/-- A Station Table record (R18). -/
structure StationRecord where
  role : Role
  zone : Option ZoneId
  attachment : Attachment
  rxEnable : Bool
  policy : Policy
  mirrorAllowed : Bool
  freshness : Nat
  checkTime : Nat
  silenceLimit : Nat
  silenceCode : Option Code
  maps : List EventMap
deriving DecidableEq, Repr

/-- The dynamic state of a station but for its owner (R20). `candidates` has bit n set while point n has a filter
candidate; a candidate's value is then the opposite of the filtered value (R34, log entry 11). -/
structure StationDyn where
  raw : Word16
  filtered : Word16
  candidates : Word16
  countdown : Nat
  condition : Condition
  value : Option Word16
  silence : Nat
  status : Supervision
deriving DecidableEq, Repr

/-! ## Query Mirror (R43) -/

/-- What a mirror line was filled from (R43). -/
inductive FillSource where
  | state | reply
deriving DecidableEq, Repr

/-- One line of the Query Mirror (R43). -/
structure MirrorLine where
  valid : Bool
  tag : Fin 4
  inputs : Word16
  condition : Condition
  value : Option Word16
  age : Nat
  source : FillSource
deriving DecidableEq, Repr

/-! ## Direct lines (R54 to R60) -/

/-- The function of a direct line (R54). -/
inductive LineFn where
  | generalIn
  | encoderA (r : RampId)
  | encoderB (r : RampId)
  | stopLoop
  | alarmButton
  | rampEnable (r : RampId)
  | doorHold (z : ZoneId)
  | unassigned
deriving DecidableEq, Repr

/-- A Direct Line Table entry (R54). -/
structure LineEntry where
  fn : LineFn
  enable : Bool
  activeHigh : Bool
  checkTime : Nat
  code : Option Code
deriving DecidableEq, Repr

/-- The filter of an input line (R55, R56): true is active. -/
structure LineDyn where
  reading : Bool
  filtered : Bool
  candidate : Option Bool
  countdown : Nat
deriving DecidableEq, Repr

/-! ## Timer Bank (R63) -/

/-- The source of a timer channel (R63). -/
inductive TimerSource where
  | line (n : LineId)
  | station (s : Addr) (point : Fin 16)
deriving DecidableEq, Repr

/-- A timer channel's record (R63). -/
structure TimerRecord where
  mode : TimerMode
  tick : TimerTick
  reload : Nat
  source : Option TimerSource
  code : Option Code
deriving DecidableEq, Repr

/-- The phase of a RUNNING WIDTH channel (R67). -/
inductive WidthPhase where
  | waiting | timing | tripped
deriving DecidableEq, Repr

/-- A timer channel's dynamic state (R63). `nextTick` is the instant of the channel's next tick (R64). -/
structure TimerDyn where
  running : Bool
  count : Nat
  phase : Option WidthPhase
  nextTick : Nat
deriving DecidableEq, Repr

/-! ## Event Controller (R69 to R97) -/

/-- A dispatch target (R69); `rampHold none` is "all". -/
inductive Target where
  | zoneCloseRoutine (z : ZoneId)
  | zoneCloseFire (z : ZoneId)
  | zoneOpen (z : ZoneId)
  | rampHold (r : Option RampId)
  | call (message : MsgId) (zones : List ZoneId) (priority : Nat) (repeats : Nat)
deriving DecidableEq, Repr

/-- An Alert Vector Table entry (R69). -/
structure VectorEntry where
  present : Bool
  gate : Gate
  level : Nat
  sense : Sense
  notify : Bool
  authority : Nat
  target : Target
deriving DecidableEq, Repr

/-- A target's answer to a DISPATCH offer (R79). -/
inductive Answer where
  | taken | busy | refused
deriving DecidableEq, Repr

/-- What the Event Controller keeps for an event code (R72). `answer` is the model's own item: the answer the latest
offer of the code got since its latch was last set, none when it has not been offered; a code answered busy is offered
again at the next supervision expiry (R79). -/
structure CodeState where
  latch : Bool
  mapCond : Bool
  lineCond : Bool
  attrs : Attributes
  answer : Option Answer
deriving DecidableEq, Repr

/-- An alert record (R76, R84, R86). -/
structure AlertRecord where
  code : Code
  level : Nat
  gate : Gate
  attrs : Attributes
  ackTimer : Timer
  overdue : Bool
deriving DecidableEq, Repr

/-- The Alert Stack (bottom first), the Pass List (oldest first), the attention level and the two slots (R76, R84, R86);
a slot of `none` is EMPTY. -/
structure Alerts where
  stack : List AlertRecord
  pass : List AlertRecord
  al : Nat
  gaSlot : Option AlertRecord
  escalation : Option AlertRecord
deriving DecidableEq, Repr

/-- GA state (true: ACTIVE) and remembered, with the origin and detail it holds (R86). -/
structure GeneralAlarm where
  active : Bool
  remembered : Option (Origin × Word16)
deriving DecidableEq, Repr

/-! ## Zone Controller (R98 to R104) -/

/-- A zone record (R98). -/
structure ZoneRecord where
  amplifier : Option Addr
  warningMsg : MsgId
  fireMsg : MsgId
  openMsg : MsgId
  routineWarn : Nat
  fireWarn : Nat
  clearRequired : Bool
  callWait : Nat
  doorHold : Option LineId
  fireCode : Option Code
  closedCode : Option Code
  partialCode : Option Code
  routinePriority : Nat
  firePriority : Nat
deriving DecidableEq, Repr

/-- A door record (R99). -/
structure DoorRecord where
  station : Option Addr
  zone : ZoneId
  closeLimit : Nat
  retryLimit : Nat
  retryInterval : Nat
deriving DecidableEq, Repr

/-- The state of a door (R100). -/
inductive DoorState where
  | unknown | opened | closed | between | closing | opening | obstructed | failed
deriving DecidableEq, Repr

/-- The command in force at a door (R100). -/
inductive DoorCommand where
  | none | close | open
deriving DecidableEq, Repr

/-- Why a door is skipped by a procedure (R100). -/
inductive Skipped where
  | no | localControl | claim
deriving DecidableEq, Repr

/-- The dynamic items of a door (R100). `held` tells a FAILED door that is held FAILED from one whose FAILED state is
derived from its FAULT point. -/
structure DoorDyn where
  state : DoorState
  command : DoorCommand
  closeTimer : Timer
  retryTimer : Timer
  obstructions : Nat
  warned : Bool
  skipped : Skipped
  held : Bool
deriving DecidableEq, Repr

/-- The state of a zone (R104): three rest states and four procedure states. -/
inductive ZoneStatus where
  | opened | partly | closed | calling | countdown | closing | opening
deriving DecidableEq, Repr

/-- The cause of a zone's procedure (R104). -/
inductive Cause where
  | none | routine | fire
deriving DecidableEq, Repr

/-- A call reference: the message and arrival stamp of the call awaited; its origin is the party that holds the
reference (R126). -/
structure CallRef where
  message : MsgId
  stamp : Nat
deriving DecidableEq, Repr

/-- The dynamic items of a zone (R104). `secondDue` is the instant at which the countdown next falls by 1 (R114). -/
structure ZoneDyn where
  state : ZoneStatus
  cause : Cause
  fire : Bool
  override : Bool
  clear : Bool
  remaining : Nat
  secondDue : Nat
  awaitingClear : Bool
  callRef : Option CallRef
  callWait : Timer
deriving DecidableEq, Repr

/-! ## Call Arbiter (R124 to R128) -/

/-- A Message Table record (R124). -/
structure MessageRecord where
  inUse : Bool
  durationLimit : Nat
  chime : Bool
  repeatGap : Nat
deriving DecidableEq, Repr

/-- The party that requested a call (R125). -/
inductive CallOrigin where
  | bridge
  | zone (z : ZoneId)
  | ramp (r : RampId)
  | event (c : Code)
  | alarm
deriving DecidableEq, Repr

/-- The state of a call (R125). -/
inductive CallState where
  | waiting | starting | playing | gap | stopping
deriving DecidableEq, Repr

/-- A call record (R125). The zone set is a list in rising order without repeats. `sent` says whether PLAY has been
sent for the present repetition, which tells the two halves of STARTING apart (R125, R134). -/
structure CallRecord where
  origin : CallOrigin
  message : MsgId
  zones : List ZoneId
  priority : Nat
  repeats : Nat
  left : Nat
  stamp : Nat
  state : CallState
  incomplete : Bool
  preempted : Bool
  sent : Bool
  gapTimer : Timer
deriving DecidableEq, Repr

/-- The state of a zone loudspeaker line (R128). -/
inductive ZoneLineState where
  | free | starting | playing | stopping | fault
deriving DecidableEq, Repr

/-- A zone line (R128); `carried` is the arrival stamp of the carried call, which names it. -/
structure ZoneLine where
  state : ZoneLineState
  carried : Option Nat
  startTimer : Timer
  durationTimer : Timer
  stopTimer : Timer
deriving DecidableEq, Repr

/-! ## Ramp Controller (R143, R144) -/

/-- A ramp record (R143). -/
structure RampRecord where
  drive : Option Addr
  guardZone : ZoneId
  enableLine : Option LineId
  pmax : Nat
  window : Nat
  approach : Nat
  vmax : Nat
  vcreep : Nat
  astep : Nat
  period : Nat
  vtol : Nat
  stallPeriods : Nat
  clearanceMsg : MsgId
  clearancePriority : Nat
  overtravel : Nat
  arrivedCode : Option Code
  landedCode : Option Code
  heldCode : Option Code
  faultCode : Option Code
deriving DecidableEq, Repr

/-- The state of a ramp (R144). -/
inductive RampState where
  | unreferenced | homing | idle | clearing | moving | held | fault
deriving DecidableEq, Repr

/-- The reason of a ramp fault (R144). -/
inductive FaultReason where
  | overspeed | direction | stall | travel | driveFault | driveSilent
deriving DecidableEq, Repr

/-- The dynamic items of a ramp (R144); `lastUp` is the last edge direction (true: +1), `bHigh` the B level. -/
structure RampDyn where
  state : RampState
  referenced : Bool
  p : Int
  t : Option Int
  vset : Int
  bHigh : Bool
  meter : Nat
  lastPeriod : Nat
  lastUp : Bool
  edgeSeen : Bool
  overspeed : Nat
  direction : Nat
  stall : Nat
  fault : Option FaultReason
  callRef : Option CallRef
  clearance : Timer
  control : Timer
deriving DecidableEq, Repr

/-! ## Counters and line quality (R165 to R171) -/

/-- The mark mask of a counter (R166). -/
structure MarkMask where
  half : Bool
  full : Bool
deriving DecidableEq, Repr

/-- One value for each counter set. -/
structure BySet (α : Type) where
  deckA : α
  deckB : α
  bridge : α
  global : α
deriving DecidableEq, Repr

/-- The grade of a deck line (R169). -/
inductive Grade where
  | good | degraded
deriving DecidableEq, Repr

/-- A line quality window (R169): STOPPED, or RUNNING with the instant it ends and the threshold read at its start. -/
inductive Window where
  | stopped
  | running (due : Nat) (threshold : Nat)
deriving DecidableEq, Repr

/-- A line quality monitor (R169). -/
structure Monitor where
  grade : Grade
  window : Window
  count : Nat
  cleanRun : Nat
deriving DecidableEq, Repr

/-- The Device Record's quality fields of a deck line (R176). -/
structure QualityFields where
  windowLength : Nat
  threshold : Nat
  code : Option Code
deriving DecidableEq, Repr

/-- The Device Record (R176). -/
structure DeviceRecord where
  bridgeLossTime : Nat
  ackLimit : Nat
  lineFaultCode : Option Code
  counterCode : BySet (Option Code)
  markMasks : BySet (Vector MarkMask 13)
  quality : ByDeck QualityFields
deriving DecidableEq, Repr

/-! ## Management replies (R173) -/

/-- The name a reply carries. -/
inductive ReqName where
  | unknown
  | tableRead | stationWrite | zoneWrite | doorWrite | rampWrite | lineWrite | timerWrite | vectorWrite | messageWrite
  | deviceWrite | statusRead | counterRead | mirrorRead | mirrorPurge | start | stop | restart | resume | generalAlarm
  | generalAlarmClear | testRaise | withdraw | timerStart | timerStop | zoneClose | zoneOpen | closeNow | zoneClear
  | fireDeclare | fireClear | fireOverride | call | callCancel | rampMove | rampHome | rampStop | rampRelease
deriving DecidableEq, Repr

/-- The reasons of a refusal (R173). -/
inductive Reason where
  | unknown | authority | state | range | busy | full | table
deriving DecidableEq, Repr

/-- A failed consistency test: table, index and test number (R179). -/
structure CheckFailure where
  table : TableName
  index : Nat
  test : Nat
deriving DecidableEq, Repr

/-- The dynamic state of a direct line as TABLE READ shows it (R54). -/
inductive LineView where
  | input (reading filtered : Bool)
  | output (energised : Bool)
  | encoder (pinHigh : Bool)
deriving DecidableEq, Repr

/-- The state of a code after a TEST RAISE (R94). DESIGN CHOICE, log entry 37: `vectorFault`, for an absent code, is
the model's own. -/
inductive RaiseState where
  | masked | vectorFault | pending | held | offered (a : Answer)
deriving DecidableEq, Repr

/-- The outcome of an accepted CALL request (R140). DESIGN CHOICE, log entry 38: `evicted` carries the new record's
place too. -/
inductive CallOutcome where
  | queued (place : Nat)
  | merged (place : Nat) (repeats : Nat) (zones : List ZoneId)
  | evicted (place : Nat) (origin : CallOrigin) (message : MsgId)
deriving DecidableEq, Repr

/-- The note of an accepted RAMP MOVE or RAMP HOME (R149, R154). -/
inductive RampNote where
  | clearing | targetReplaced | retargeted | stowed | homing
deriving DecidableEq, Repr

/-- Section DEVICE of STATUS READ (R182). -/
structure DeviceStatus where
  device : DeviceState
  al : Nat
  gaActive : Bool
  gaSlot : Bool
  remembered : Bool
  escalation : Bool
  up : ByPort Bool
  grade : ByDeck Grade
  bridgeLoss : Timer
  pending : Nat
  stack : Nat
  pass : Nat
  calls : Nat
deriving DecidableEq, Repr

/-- An alert record as STATUS READ shows it (R182). -/
structure RecordView where
  code : Code
  level : Nat
  attrs : Attributes
  overdue : Bool
deriving DecidableEq, Repr

/-- A zone as STATUS READ shows it (R182). -/
structure ZoneView where
  state : ZoneStatus
  cause : Cause
  fire : Bool
  override : Bool
  clear : Bool
  awaitingClear : Bool
  remaining : Nat
deriving DecidableEq, Repr

/-- A door as STATUS READ shows it (R182). -/
structure DoorView where
  state : DoorState
  command : DoorCommand
  obstructions : Nat
deriving DecidableEq, Repr

/-- A ramp as STATUS READ shows it (R182). -/
structure RampView where
  state : RampState
  referenced : Bool
  p : Int
  t : Option Int
  vset : Int
  vmeas : Int
  fault : Option FaultReason
deriving DecidableEq, Repr

/-- A call as STATUS READ shows it (R125, R182). -/
structure CallView where
  origin : CallOrigin
  message : MsgId
  zones : List ZoneId
  priority : Nat
  repeats : Nat
  left : Nat
  state : CallState
  incomplete : Bool
  preempted : Bool
deriving DecidableEq, Repr

/-- The data of a DONE reply, as the request's rule names them. -/
inductive Data where
  | none
  | stationRow (record : StationRecord) (dyn : StationDyn) (owner : Owner)
  | zoneRow (record : ZoneRecord) (dyn : ZoneDyn)
  | doorRow (record : DoorRecord) (dyn : DoorDyn)
  | rampRow (record : RampRecord) (dyn : RampDyn) (vmeas : Int)
  | lineRow (entry : LineEntry) (view : LineView)
  | timerRow (record : TimerRecord) (dyn : TimerDyn)
  | vectorRow (entry : VectorEntry) (latch condition pending held : Bool)
  | messageRow (record : MessageRecord) (queued : Nat)
  | deviceRow (record : DeviceRecord)
  | stationStored (record : StationRecord)
  | zoneStored (record : ZoneRecord)
  | doorStored (record : DoorRecord)
  | rampStored (record : RampRecord)
  | lineStored (entry : LineEntry)
  | timerStored (record : TimerRecord)
  | vectorStored (entry : VectorEntry)
  | messageStored (record : MessageRecord)
  | deviceStored (record : DeviceRecord)
  | statusDevice (v : DeviceStatus)
  | statusPending (codes : List Code)
  | statusStack (stack : List RecordView) (gaSlot escalation : Option RecordView)
  | statusPass (records : List RecordView)
  | statusZones (zones : List ZoneView)
  | statusDoors (doors : List DoorView)
  | statusRamp (ramp : RampView)
  | statusCalls (calls : List CallView)
  | statusLines (lines : List (ZoneLineState × Option Nat))
  | counters (set : CounterSet) (first : Nat) (values : List Word32)
  | mirrorLine (line : MirrorLine) (station : Nat)
  | purged (n : Nat)
  | restarted (device : DeviceState) (failure : Option CheckFailure)
  | alarm (active slot : Bool) (remembered : Bool) (lost : Bool)
  | testRaise (state : RaiseState)
  | withdraw (wasSet pendingAfter : Bool)
  | timerCount (count : Nat)
  | zone (state : ZoneStatus) (cause : Cause) (noEffect : Bool)
  | fire (flag : Bool) (alreadySet : Bool)
  | fireOverride (flag override : Bool)
  | call (outcome : CallOutcome)
  | callCancel (noEffect : Bool)
  | rampNote (note : RampNote) (clamped : Bool)
  | rampState (state : RampState) (noEffect : Bool)
deriving DecidableEq, Repr

/-- The result a reply carries (R173): DONE with data, or REFUSED with a reason and, for TABLE, the failing test. -/
inductive Result where
  | done (data : Data)
  | refused (reason : Reason) (failure : Option CheckFailure)
deriving DecidableEq, Repr

/-- What a MGMT_REPLY carries: the request name and the result (R173). -/
structure Reply where
  name : ReqName
  result : Result
deriving DecidableEq, Repr

/-! ## Frames and port units (R1, R10 to R16) -/

/-- A link frame whose framing is sound (R1): its length byte is the payload's length and its check is the CRC of its
header and payload, so neither is held. -/
structure Frame where
  destination : Byte
  source : Byte
  kind : Byte
  tag : Byte
  payload : List Byte
deriving DecidableEq, Repr

/-- What a frame to be sent carries: bytes, or the named fields of a MGMT_REPLY, for which the manual gives no byte
layout (R173, log entry 1). -/
inductive Content where
  | bytes (payload : List Byte)
  | reply (r : Reply)
deriving DecidableEq, Repr

/-- A frame to be sent. -/
structure TxFrame where
  destination : Byte
  source : Byte
  kind : Byte
  tag : Byte
  content : Content
deriving DecidableEq, Repr

/-- The classes of a transmit queue (R12). -/
inductive TxClass where
  | urgent | normal
deriving DecidableEq, Repr

/-- A waiting frame with its class (R12). -/
structure TxEntry where
  cls : TxClass
  frame : TxFrame
deriving DecidableEq, Repr

/-- A port unit: its line state, receive queue, transmit queue and the frame in transmission (R11 to R15). -/
structure PortUnit where
  up : Bool
  rx : List Frame
  tx : List TxEntry
  sending : Option TxFrame
deriving DecidableEq, Repr

/-- The levels of the two strap pins (R176); true: tied low. -/
structure Straps where
  firstLow : Bool
  secondLow : Bool
deriving DecidableEq, Repr

end Sys2Proof.Machine
end

