-- ==== Sys2Proof/Config.lean ====
section
/-! DEFINITION. What the manual leaves open: the free values. None has a body, so no proof can see what it is. -/

namespace Sys2Proof

/-- DESIGN CHOICE, log entry 1. The request, with its authority, that a string of bytes spells when its last byte is
the last byte of the last parameter; `none` for a string that spells no complete request. The manual gives MGMT
payloads by their named fields only (R173) and no byte layout, so this reading is free. How a payload is read with it
is `Machine.readRequest`. -/
opaque Config.mgmtRequest : List Byte → Option (Nat × Request)

/-- DESIGN CHOICE, log entry 1. The request name that a string of bytes spells when its last byte is the last byte of
the name field; `none` for a string in which no name of the table of requests is complete. Free, as
`Config.mgmtRequest`. -/
opaque Config.mgmtName : List Byte → Option Machine.ReqName

/-- DESIGN CHOICE, log entry 1. The payload bytes of a MGMT_REPLY. The manual names the reply's fields (R173) and gives
no byte layout, so the bytes are free; of them a frame carries at most 32 (R1). -/
opaque Config.replyPayload : Machine.Reply → List Byte

/-- DESIGN CHOICE, log entry 2. Which of the stations with an active map of a code a condition report names when the
count of active maps is recomputed after STOP or RESTART (R42): the manual says only that the condition is reported
anew. The value chooses among those stations, for the instant of the reset and the code. -/
opaque Config.reportedStation : Nat → Code → Nat

end Sys2Proof
end

