-- ==== Sys2Proof/Machine/PowerOn.lean ====
section
/-! DEFINITION. The power-on value of every record and dynamic item, as the last columns of the rules' tables give them. -/

namespace Sys2Proof.Machine

/-- R18, last column. -/
def StationRecord.powerOn : StationRecord where
  role := .unused
  zone := none
  attachment := .a
  rxEnable := true
  policy := .forward
  mirrorAllowed := false
  freshness := 10
  checkTime := 0
  silenceLimit := 0
  silenceCode := none
  maps := []

/-- R20, last column, for a station of the given check time. -/
def StationDyn.powerOn (checkTime : Nat) : StationDyn where
  raw := 0
  filtered := 0
  candidates := 0
  countdown := checkTime / 100
  condition := .ok
  value := none
  silence := 0
  status := .heard

/-- R43, last column. -/
def MirrorLine.powerOn : MirrorLine where
  valid := false
  tag := 0
  inputs := 0
  condition := .ok
  value := none
  age := 0
  source := .state

/-- R54, last column. -/
def LineEntry.powerOn : LineEntry where
  fn := .unassigned
  enable := true
  activeHigh := true
  checkTime := 0
  code := none

/-- R62: after power-on every line is an enabled, active-high input with check time 0, so that its reading and its
filtered value follow the pin at once. -/
def LineDyn.powerOn (pinHigh : Bool) : LineDyn where
  reading := pinHigh
  filtered := pinHigh
  candidate := none
  countdown := 0

/-- R63, last column. -/
def TimerRecord.powerOn : TimerRecord where
  mode := .interval
  tick := .s1
  reload := 1
  source := none
  code := none

/-- R68: STOPPED with count 0. -/
def TimerDyn.powerOn : TimerDyn where
  running := false
  count := 0
  phase := none
  nextTick := 0

/-- R69, last column. -/
def VectorEntry.powerOn : VectorEntry where
  present := false
  gate := .hold
  level := 0
  sense := .edge
  notify := false
  authority := 3
  target := .zoneCloseRoutine 0

/-- R70: the fixed entries of codes 0, 1 and 2; every other entry as R69's last column. DESIGN CHOICE, log entry 31: the
notify, authority and dispatch target of codes 0, 1 and 2 and the sense of code 0, which R70 does not give and nothing
uses, are those of R69's last column, which is for codes 3 to 63. -/
def VectorEntry.powerOnOf (c : Code) : VectorEntry :=
  if c.val = 0 then { VectorEntry.powerOn with present := true, level := 16 }
  else if c.val ≤ 2 then { VectorEntry.powerOn with present := true, level := 15 }
  else VectorEntry.powerOn

/-- R72, last column. -/
def Attributes.powerOn : Attributes where
  origin := .internal
  station := none
  zone := none
  detail := 0

/-- R72, last column. -/
def CodeState.powerOn : CodeState where
  latch := false
  mapCond := false
  lineCond := false
  attrs := Attributes.powerOn
  answer := none

/-- R96: the stack, the list and both slots empty, AL 0. -/
def Alerts.empty : Alerts where
  stack := []
  pass := []
  al := 0
  gaSlot := none
  escalation := none

/-- R86, last column. -/
def GeneralAlarm.powerOn : GeneralAlarm where
  active := false
  remembered := none

/-- R98, last column. -/
def ZoneRecord.powerOn : ZoneRecord where
  amplifier := none
  warningMsg := 0
  fireMsg := 0
  openMsg := 0
  routineWarn := 30
  fireWarn := 10
  clearRequired := false
  callWait := 60
  doorHold := none
  fireCode := none
  closedCode := none
  partialCode := none
  routinePriority := 4
  firePriority := 12

/-- R104, last column. -/
def ZoneDyn.powerOn : ZoneDyn where
  state := .opened
  cause := .none
  fire := false
  override := false
  clear := false
  remaining := 0
  secondDue := 0
  awaitingClear := false
  callRef := none
  callWait := .stopped

/-- R99, last column. -/
def DoorRecord.powerOn : DoorRecord where
  station := none
  zone := 0
  closeLimit := 30
  retryLimit := 2
  retryInterval := 5

/-- R100, last column. -/
def DoorDyn.powerOn : DoorDyn where
  state := .unknown
  command := .none
  closeTimer := .stopped
  retryTimer := .stopped
  obstructions := 0
  warned := false
  skipped := .no
  held := false

/-- R124, last column. -/
def MessageRecord.powerOn : MessageRecord where
  inUse := false
  durationLimit := 60
  chime := false
  repeatGap := 5

/-- R142: every zone line is FAULT after power-on, carrying no call, its timers stopped. -/
def ZoneLine.powerOn : ZoneLine where
  state := .fault
  carried := none
  startTimer := .stopped
  durationTimer := .stopped
  stopTimer := .stopped

/-- R143, last column. -/
def RampRecord.powerOn : RampRecord where
  drive := none
  guardZone := 0
  enableLine := none
  pmax := 20000
  window := 8
  approach := 1000
  vmax := 400
  vcreep := 40
  astep := 20
  period := 20
  vtol := 60
  stallPeriods := 10
  clearanceMsg := 0
  clearancePriority := 6
  overtravel := 50
  arrivedCode := none
  landedCode := none
  heldCode := none
  faultCode := none

/-- R144, last column. -/
def RampDyn.powerOn : RampDyn where
  state := .unreferenced
  referenced := false
  p := 0
  t := none
  vset := 0
  bHigh := false
  meter := 65535
  lastPeriod := 65535
  lastUp := true
  edgeSeen := false
  overspeed := 0
  direction := 0
  stall := 0
  fault := none
  callRef := none
  clearance := .stopped
  control := .stopped

/-- R169, last column. -/
def Monitor.powerOn : Monitor where
  grade := .good
  window := .stopped
  count := 0
  cleanRun := 0

/-- R169: window length 1000 ms, threshold 16, no code. -/
def QualityFields.powerOn : QualityFields where
  windowLength := 1000
  threshold := 16
  code := none

/-- R176: the bridge-loss time, in seconds, that the strap pins select. -/
def strapBridgeLoss (st : Straps) : Nat :=
  match st.firstLow, st.secondLow with
  | false, false => 10
  | true, false => 5
  | false, true => 20
  | true, true => 40

/-- R176, last column; both marks of every counter masked and every code absent (R166). -/
def DeviceRecord.powerOn (st : Straps) : DeviceRecord where
  bridgeLossTime := strapBridgeLoss st
  ackLimit := 20
  lineFaultCode := none
  counterCode := ⟨none, none, none, none⟩
  markMasks :=
    let masked := Vector.replicate 13 (MarkMask.mk true true)
    ⟨masked, masked, masked, masked⟩
  quality := ⟨QualityFields.powerOn, QualityFields.powerOn⟩

/-- R17: DOWN, both queues empty, nothing in transmission. -/
def PortUnit.powerOn : PortUnit where
  up := false
  rx := []
  tx := []
  sending := none

/-- The period of the supervision clock in ticks of the time base: 100 ms (R36). -/
def supervisionPeriod : Nat := 10000

end Sys2Proof.Machine
end

