-- ==== Sys2Proof/Machine/State.lean ====
section
/-! DEFINITION. The state of the DK62 as plain data, its reset value, and the ways a step can stop. INVENTORY.md lists
the fields with the rule that names each. -/

namespace Sys2Proof.Machine

/-- The whole state of the part. `pending`, `now` and `resetHeld` are the model's own: the commands waiting, first in
first out; the instant of the time base since the end of power-on, in ticks of 10 µs; whether RESET is asserted. -/
structure State where
  pending : List Instr
  now : Nat
  resetHeld : Bool
  straps : Straps
  pins : Vector Bool 16
  device : DeviceState
  record : DeviceRecord
  ports : ByPort PortUnit
  bridgeLoss : Timer
  stations : Vector StationRecord 254
  stationDyn : Vector StationDyn 254
  owners : Vector Owner 254
  mapCounts : Vector Nat 64
  supervisionDue : Nat
  mirror : Vector MirrorLine 64
  lines : Vector LineEntry 16
  lineDyn : Vector LineDyn 16
  outputs : Vector Bool 16
  lineCounts : Vector Nat 64
  timers : Vector TimerRecord 8
  timerDyn : Vector TimerDyn 8
  vectors : Vector VectorEntry 64
  codes : Vector CodeState 64
  alerts : Alerts
  ga : GeneralAlarm
  zones : Vector ZoneRecord 8
  zoneDyn : Vector ZoneDyn 8
  doors : Vector DoorRecord 24
  doorDyn : Vector DoorDyn 24
  messages : Vector MessageRecord 256
  calls : List CallRecord
  nextStamp : Nat
  zoneLines : Vector ZoneLine 8
  ramps : Vector RampRecord 4
  rampDyn : Vector RampDyn 4
  counters : BySet (Vector Word32 13)
  quality : ByDeck Monitor
deriving DecidableEq, Repr

/-- The faults of a step: none. The manual gives every command an effect in every state, so no meaning stops. -/
inductive Fault where
deriving DecidableEq, Repr

/-- Why a step is refused. -/
inductive Refusal where
  /-- Raised by `exec` alone, for a command whose meaning is not written; safe, since nothing is then claimed of it.
  No arm of `exec` answers with it. -/
  | notModelled (mnemonic : String)
deriving DecidableEq, Repr

/-- The power-on state (R177 and each block's power-on rule), for the pin levels and strap levels that stand outside
the part. -/
def State.powerOn (straps : Straps) (pins : Vector Bool 16) (held : Bool) (pending : List Instr) : State where
  pending := pending
  now := 0
  resetHeld := held
  straps := straps
  pins := pins
  device := .config
  record := DeviceRecord.powerOn straps
  ports := ⟨PortUnit.powerOn, PortUnit.powerOn, PortUnit.powerOn⟩
  bridgeLoss := .stopped
  stations := Vector.replicate 254 StationRecord.powerOn
  stationDyn := Vector.replicate 254 (StationDyn.powerOn 0)
  owners := Vector.replicate 254 .free
  mapCounts := Vector.replicate 64 0
  supervisionDue := supervisionPeriod
  mirror := Vector.replicate 64 MirrorLine.powerOn
  lines := Vector.replicate 16 LineEntry.powerOn
  lineDyn := Tab.of fun n => LineDyn.powerOn (pins.get n)
  outputs := Vector.replicate 16 false
  lineCounts := Vector.replicate 64 0
  timers := Vector.replicate 8 TimerRecord.powerOn
  timerDyn := Vector.replicate 8 TimerDyn.powerOn
  vectors := Tab.of VectorEntry.powerOnOf
  codes := Vector.replicate 64 CodeState.powerOn
  alerts := Alerts.empty
  ga := GeneralAlarm.powerOn
  zones := Vector.replicate 8 ZoneRecord.powerOn
  zoneDyn := Vector.replicate 8 ZoneDyn.powerOn
  doors := Vector.replicate 24 DoorRecord.powerOn
  doorDyn := Vector.replicate 24 DoorDyn.powerOn
  messages := Vector.replicate 256 MessageRecord.powerOn
  calls := []
  nextStamp := 0
  zoneLines := Vector.replicate 8 ZoneLine.powerOn
  ramps := Vector.replicate 4 RampRecord.powerOn
  rampDyn := Vector.replicate 4 RampDyn.powerOn
  counters :=
    let zero := Vector.replicate 13 0
    ⟨zero, zero, zero, zero⟩
  quality := ⟨Monitor.powerOn, Monitor.powerOn⟩

/-- The machine right after the release of RESET, with both strap pins open and every direct-line pin low (log entry
3), no command waiting. -/
def State.reset : State :=
  State.powerOn ⟨false, false⟩ (Vector.replicate 16 false) false []

end Sys2Proof.Machine
end

