-- ==== Sys2Proof/Machine/Update.lean ====
section
/-! DEFINITION. The updates of the state's items, one per table: every operation of the model changes the state through
these or through a plain record update. -/

namespace Sys2Proof.Machine

/-- The port of a deck line. -/
def deckPort : Deck → Port
  | .a => .deckA
  | .b => .deckB

/-- The counter set of a port (R165). -/
def portSet : Port → CounterSet
  | .deckA => .deckA
  | .deckB => .deckB
  | .bridge => .bridge

/-- The entry of a port. -/
def ByPort.at {α : Type} (b : ByPort α) : Port → α
  | .deckA => b.deckA
  | .deckB => b.deckB
  | .bridge => b.bridge

/-- The entry of a port becomes `x`. -/
def ByPort.put {α : Type} (b : ByPort α) (p : Port) (x : α) : ByPort α :=
  match p with
  | .deckA => { b with deckA := x }
  | .deckB => { b with deckB := x }
  | .bridge => { b with bridge := x }

/-- The entry of a deck line. -/
def ByDeck.at {α : Type} (b : ByDeck α) : Deck → α
  | .a => b.a
  | .b => b.b

/-- The entry of a deck line becomes `x`. -/
def ByDeck.put {α : Type} (b : ByDeck α) (d : Deck) (x : α) : ByDeck α :=
  match d with
  | .a => { b with a := x }
  | .b => { b with b := x }

/-- The entry of a counter set. -/
def BySet.at {α : Type} (b : BySet α) : CounterSet → α
  | .deckA => b.deckA
  | .deckB => b.deckB
  | .bridge => b.bridge
  | .global => b.global

/-- The entry of a counter set becomes `x`. -/
def BySet.put {α : Type} (b : BySet α) (c : CounterSet) (x : α) : BySet α :=
  match c with
  | .deckA => { b with deckA := x }
  | .deckB => { b with deckB := x }
  | .bridge => { b with bridge := x }
  | .global => { b with global := x }

/-- A port unit. -/
def State.port (s : State) (p : Port) : PortUnit := s.ports.at p

/-- A port unit is changed. -/
def State.modPort (s : State) (p : Port) (f : PortUnit → PortUnit) : State :=
  { s with ports := s.ports.put p (f (s.ports.at p)) }

/-- A line quality monitor is changed. -/
def State.modQuality (s : State) (d : Deck) (f : Monitor → Monitor) : State :=
  { s with quality := s.quality.put d (f (s.quality.at d)) }

/-- A station's dynamic items are changed. -/
def State.modStation (s : State) (a : Addr) (f : StationDyn → StationDyn) : State :=
  { s with stationDyn := Tab.upd s.stationDyn a f }

/-- A station's owner becomes `o`. -/
def State.setOwner (s : State) (a : Addr) (o : Owner) : State :=
  { s with owners := Tab.put s.owners a o }

/-- A mirror line is changed. -/
def State.modMirror (s : State) (i : Fin 64) (f : MirrorLine → MirrorLine) : State :=
  { s with mirror := Tab.upd s.mirror i f }

/-- A direct line's filter items are changed. -/
def State.modLine (s : State) (n : LineId) (f : LineDyn → LineDyn) : State :=
  { s with lineDyn := Tab.upd s.lineDyn n f }

/-- An output line becomes ENERGISED or DE-ENERGISED. -/
def State.setOutput (s : State) (n : LineId) (on : Bool) : State :=
  { s with outputs := Tab.put s.outputs n on }

/-- A timer channel's dynamic items are changed. -/
def State.modTimer (s : State) (ch : ChannelId) (f : TimerDyn → TimerDyn) : State :=
  { s with timerDyn := Tab.upd s.timerDyn ch f }

/-- What the Event Controller keeps for a code is changed. -/
def State.modCode (s : State) (c : Code) (f : CodeState → CodeState) : State :=
  { s with codes := Tab.upd s.codes c f }

/-- A zone's dynamic items are changed. -/
def State.modZone (s : State) (z : ZoneId) (f : ZoneDyn → ZoneDyn) : State :=
  { s with zoneDyn := Tab.upd s.zoneDyn z f }

/-- A door's dynamic items are changed. -/
def State.modDoor (s : State) (d : DoorId) (f : DoorDyn → DoorDyn) : State :=
  { s with doorDyn := Tab.upd s.doorDyn d f }

/-- A ramp's dynamic items are changed. -/
def State.modRamp (s : State) (r : RampId) (f : RampDyn → RampDyn) : State :=
  { s with rampDyn := Tab.upd s.rampDyn r f }

/-- A zone loudspeaker line is changed. -/
def State.modZoneLine (s : State) (z : ZoneId) (f : ZoneLine → ZoneLine) : State :=
  { s with zoneLines := Tab.upd s.zoneLines z f }

/-- The call of an arrival stamp is changed. -/
def State.modCall (s : State) (k : Nat) (f : CallRecord → CallRecord) : State :=
  { s with calls := s.calls.map fun c => if c.stamp = k then f c else c }

/-- The call of an arrival stamp, when it is in the queue. -/
def State.call? (s : State) (k : Nat) : Option CallRecord := s.calls.find? (·.stamp == k)

/-- The instant `n` milliseconds from now. -/
def State.inMs (s : State) (n : Nat) : Nat := s.now + 100 * n

/-- The instant `n` seconds from now. -/
def State.inSec (s : State) (n : Nat) : Nat := s.now + 100000 * n

/-- A timer is RUNNING. -/
def Timer.isRunning : Timer → Bool
  | .stopped => false
  | .running _ => true

/-- A window is RUNNING. -/
def Window.isRunning : Window → Bool
  | .stopped => false
  | .running _ _ => true

end Sys2Proof.Machine
end

