-- ==== Sys2Proof/Machine/Bits.lean ====
section
/-! DEFINITION. Bytes, two's complement and the frame check. -/

namespace Sys2Proof.Machine

/-- The more significant byte of a 16-bit field. -/
def hiByte (w : Word16) : Byte := w.extractLsb' 8 8

/-- The less significant byte of a 16-bit field. -/
def loByte (w : Word16) : Byte := w.extractLsb' 0 8

/-- Multi-byte fields are sent most significant byte first (R5). -/
def word16 (hi lo : Byte) : Word16 := hi ++ lo

/-- A signed value as a 16-bit two's complement field (R7, R146). -/
def twos16 (x : Int) : Word16 := BitVec.ofInt 16 x

/-- A small number as one byte. -/
def byte (n : Nat) : Byte := BitVec.ofNat 8 n

/-- The byte of a station's address: index `a` is the station of address `a + 1`. -/
def addrByte (a : Addr) : Byte := byte (a.val + 1)

/-- The station an address byte or number names, when it is 1..254. -/
def addr? (n : Nat) : Option Addr :=
  if h : 1 ≤ n ∧ n ≤ 254 then some ⟨n - 1, by omega⟩ else none

/-- One bit, most significant first, through the CRC register of generator x^16 + x^12 + x^5 + 1 (R3). -/
def crcBit (crc : Word16) (bit : Bool) : Word16 :=
  let shifted := crc <<< 1
  if Bool.xor crc.msb bit then shifted ^^^ 0x1021#16 else shifted

/-- One byte through the CRC register, most significant bit first (R3). -/
def crcByte (crc : Word16) (b : Byte) : Word16 :=
  [7, 6, 5, 4, 3, 2, 1, 0].foldl (fun c i => crcBit c (b.getLsbD i)) crc

/-- The check of R3: the register starts at FFFF hex, no final inversion. -/
def crc16 (bytes : List Byte) : Word16 := bytes.foldl crcByte 0xFFFF#16

end Sys2Proof.Machine
end

