-- ==== Sys2Proof/Machine/Frames.lean ====
section
/-! DEFINITION. Link frames: the frame body, the kinds, and the payloads the part reads and builds (R1 to R9). -/

namespace Sys2Proof.Machine

/-- The start delimiter (R1). -/
def delimiter : Byte := 0xA7#8

/-! ## Kinds (R4) and verbs (R7) -/

def kindState : Byte := 0x01#8
def kindCommand : Byte := 0x02#8
def kindQuery : Byte := 0x03#8
def kindReply : Byte := 0x04#8
def kindAlert : Byte := 0x05#8
def kindAck : Byte := 0x06#8
def kindMgmt : Byte := 0x07#8
def kindMgmtReply : Byte := 0x08#8
def kindReject : Byte := 0x09#8

def verbClose : Byte := 0x10#8
def verbOpen : Byte := 0x11#8
def verbStop : Byte := 0x12#8
def verbPlay : Byte := 0x20#8
def verbSpeed : Byte := 0x30#8
def verbEnable : Byte := 0x31#8
def verbDisable : Byte := 0x32#8

/-! ## The frame body (R1, R3, R10) -/

/-- The header and payload of a frame: the bytes the check is computed over (R1, R3). -/
def Frame.checked (f : Frame) : List Byte :=
  [f.destination, f.source, f.kind, f.tag, byte f.payload.length] ++ f.payload

/-- The frame body as sent: header, payload, check most significant byte first (R1). -/
def Frame.body (f : Frame) : List Byte :=
  let check := crc16 f.checked
  f.checked ++ [hiByte check, loByte check]

/-- The payload bytes of a frame to be sent: a MGMT_REPLY's are a free value of at most 32 bytes (log entry 1). -/
def Content.payload : Content → List Byte
  | .bytes p => p
  | .reply r => (Config.replyPayload r).take 32

/-- A frame to be sent as the link carries it: its header and payload. Its length byte and its check are then those of
`Frame.body`, computed by the sending port unit over what it sends (R2). -/
def TxFrame.onLink (f : TxFrame) : Frame where
  destination := f.destination
  source := f.source
  kind := f.kind
  tag := f.tag
  payload := f.content.payload

/-- The bytes that a frame puts on the line, until it falls idle: the start delimiter, then the body (R1, R3). -/
def TxFrame.wire (f : TxFrame) : List Byte := delimiter :: f.onLink.body

/-- The bytes of the frame that a port's transmitter is sending; none while it is free (R1, R12). -/
def PortUnit.wire (u : PortUnit) : List Byte :=
  match u.sending with
  | none => []
  | some f => f.wire

/-- The body of the bytes heard between two idles: what follows the first A7 hex, which is the start delimiter (R1). -/
def bodyAfterDelimiter : List Byte → Option (List Byte)
  | [] => none
  | b :: rest => if b = delimiter then some rest else bodyAfterDelimiter rest

/-- The frame a body holds when it passes R10's tests: length byte at most 32, 7 + length bytes, a good check. -/
def parseBody : List Byte → Option Frame
  | d :: src :: k :: t :: len :: rest =>
    let n := len.toNat
    if n ≤ 32 ∧ rest.length = n + 2 then
      let payload := rest.take n
      let check := crc16 ([d, src, k, t, len] ++ payload)
      if rest.drop n = [hiByte check, loByte check] then
        some { destination := d, source := src, kind := k, tag := t, payload := payload }
      else none
    else none
  | _ => none

/-- A received frame as it is forwarded: unchanged (R2). -/
def Frame.forward (f : Frame) : TxFrame where
  destination := f.destination
  source := f.source
  kind := f.kind
  tag := f.tag
  content := .bytes f.payload

/-! ## What a STATE or REPLY carries (R5, R6) -/

/-- The inputs, condition and value a station's report carries. -/
structure Report where
  inputs : Word16
  condition : Condition
  value : Option Word16
deriving DecidableEq, Repr

/-- A condition byte above 02 hex reads as FAULT (R5). -/
def conditionOf (b : Byte) : Condition :=
  match b.toNat with
  | 0 => .ok
  | 1 => .warn
  | _ => .fault

/-- The condition byte (R5). -/
def conditionByte : Condition → Byte
  | .ok => 0
  | .warn => 1
  | .fault => 2

/-- A STATE payload, 3 or 5 bytes long (R5). -/
def stateReport : List Byte → Option Report
  | [hi, lo, c] => some ⟨word16 hi lo, conditionOf c, none⟩
  | [hi, lo, c, vh, vl] => some ⟨word16 hi lo, conditionOf c, some (word16 vh vl)⟩
  | _ => none

/-- A REPLY payload, 5 or 7 bytes long; its source and age fields are not read (R6, R45). -/
def replyReport : List Byte → Option Report
  | [hi, lo, c, _, _] => some ⟨word16 hi lo, conditionOf c, none⟩
  | [hi, lo, c, _, _, vh, vl] => some ⟨word16 hi lo, conditionOf c, some (word16 vh vl)⟩
  | _ => none

/-- The payload of a REPLY answered from a mirror line: source MIRROR and the line's age (R6, R47). -/
def mirrorReplyPayload (l : MirrorLine) : List Byte :=
  [hiByte l.inputs, loByte l.inputs, conditionByte l.condition, 0x01#8, byte l.age] ++
    match l.value with
    | none => []
    | some v => [hiByte v, loByte v]

/-! ## Frames the part originates (R2) -/

/-- The reasons of a REJECT (R9). -/
inductive RejectReason where
  | owned | full | unknown | line
deriving DecidableEq, Repr

/-- The code of a REJECT reason (R9). -/
def rejectByte : RejectReason → Byte
  | .owned => 0x01#8
  | .full => 0x02#8
  | .unknown => 0x03#8
  | .line => 0x04#8

/-- The REJECT that refuses a bridge frame (R2, R9). -/
def rejectFrame (reason : RejectReason) (f : Frame) : TxFrame where
  destination := f.source
  source := 0
  kind := kindReject
  tag := f.tag
  content := .bytes [rejectByte reason, f.destination, f.tag]

/-- The gate byte of an ALERT (R8). -/
def gateByte : Gate → Byte
  | .hold => 0x00#8
  | .pass => 0x01#8
  | .dispatch => 0x02#8

/-- The origin byte of an ALERT (R8). -/
def originByte : Origin → Byte
  | .frame => 0x00#8
  | .internal => 0x01#8
  | .request => 0x02#8

/-- The ALERT of a code with its level, gate and attributes (R2, R8). -/
def alertFrame (c : Code) (level : Nat) (gate : Gate) (a : Attributes) : TxFrame where
  destination := 0xFF#8
  source := 0
  kind := kindAlert
  tag := 0
  content := .bytes
    [byte c.val, byte level, gateByte gate, originByte a.origin,
      match a.station with
      | none => 0x00#8
      | some st => addrByte st,
      match a.zone with
      | none => 0xFF#8
      | some z => byte z.val,
      hiByte a.detail, loByte a.detail]

/-- A COMMAND built by a job (R2, R7). -/
def jobFrame (a : Addr) (payload : List Byte) : TxFrame where
  destination := addrByte a
  source := 0
  kind := kindCommand
  tag := 0
  content := .bytes payload

/-- The SPEED payload: two operand bytes in two's complement (R7). -/
def speedPayload (out : Int) : List Byte :=
  let w := twos16 out
  [verbSpeed, hiByte w, loByte w]

/-- The PLAY payload: message index and chime (R7). -/
def playPayload (m : MsgId) (chime : Bool) : List Byte :=
  [verbPlay, byte m.val, if chime then 0x01#8 else 0x00#8]

/-- The REPLY answered from the Query Mirror (R2, R47). -/
def mirrorReply (query : Frame) (l : MirrorLine) : TxFrame where
  destination := query.source
  source := query.destination
  kind := kindReply
  tag := query.tag
  content := .bytes (mirrorReplyPayload l)

/-- The MGMT_REPLY of a request (R2, R173). -/
def replyFrame (h : Header) (r : Reply) : TxFrame where
  destination := h.source
  source := 0
  kind := kindMgmtReply
  tag := h.tag
  content := .reply r

/-- The frame is a SPEED COMMAND to a station (R14). -/
def TxFrame.isSpeed (f : TxFrame) : Bool :=
  f.kind == kindCommand &&
    (addr? f.destination.toNat).isSome &&
    match f.content with
    | .bytes (v :: _) => v == verbSpeed
    | _ => false

end Sys2Proof.Machine
end

