-- ==== Sys2Proof/Machine/Flags.lean ====
section
/-! DEFINITION. Everything the blocks compute from the state: pending and held codes, door and zone states, the stop
loop, a ramp's permissive and measured speed, steering. Nothing here changes the state. -/

namespace Sys2Proof.Machine

/-! ## Stations and lines -/

/-- The station's filtered point is active (R19). -/
def pointOn (s : State) (a : Addr) (p : Nat) : Bool := (s.stationDyn.get a).filtered.getLsbD p

/-- The station is HEARD. -/
def isHeard (s : State) (a : Addr) : Bool := (s.stationDyn.get a).status = .heard

/-- The record is in use (R18). -/
def inUse (s : State) (a : Addr) : Bool := (s.stations.get a).role ≠ .unused

/-- R36: in use, receive-enabled, with a silence limit above 0. -/
def isSupervised (s : State) (a : Addr) : Bool :=
  inUse s a && (s.stations.get a).rxEnable && decide (0 < (s.stations.get a).silenceLimit)

/-- The map is active for the given filtered points (R35). -/
def mapActive (m : EventMap) (points : Word16) : Bool := points.getLsbD m.point.val == m.activeHigh

/-- The active maps of a record for the given filtered points; a record not in use has none (R35). -/
def activeMaps (r : StationRecord) (points : Word16) : List EventMap :=
  if r.role = .unused then [] else r.maps.filter (mapActive · points)

/-- The number of active maps that name the code, of one station. -/
def mapCountOf (r : StationRecord) (points : Word16) (c : Code) : Nat :=
  (activeMaps r points).countP (·.code = c)

/-- A deck line is impaired when it is DOWN or DEGRADED (R30). -/
def isImpaired (s : State) (d : Deck) : Bool :=
  !(s.port (deckPort d)).up || (s.quality.at d).grade = .degraded

/-- R30: the deck line chosen for a frame to a station of the given attachment. -/
def steerBy (att : Attachment) (s : State) : Option Deck :=
  let upA := (s.port .deckA).up
  let upB := (s.port .deckB).up
  match att with
  | .a => if upA then some .a else none
  | .b => if upB then some .b else none
  | .both =>
    if isImpaired s .a && !isImpaired s .b then some .b
    else if upA then some .a
    else if upB then some .b
    else none

/-- R30: the deck line chosen for a frame to a station. -/
def steer (a : Addr) (s : State) : Option Deck := steerBy (s.stations.get a).attachment s

/-- The function makes the line an input line (R55). -/
def LineFn.isInput : LineFn → Bool
  | .generalIn | .stopLoop | .alarmButton | .unassigned => true
  | _ => false

/-- The function makes the line an output line (R60). -/
def LineFn.isOutput : LineFn → Bool
  | .rampEnable _ | .doorHold _ => true
  | _ => false

/-- The function is that of a ramp enable output. -/
def LineFn.isRampEnable : LineFn → Bool
  | .rampEnable _ => true
  | _ => false

/-- What a user of the line sees: the filtered value of an input line, inactive for every other line (R55). -/
def lineActive (s : State) (n : LineId) : Bool := (s.lines.get n).fn.isInput && (s.lineDyn.get n).filtered

/-- The reading of an input line for the given pin level (R55). -/
def readingOf (e : LineEntry) (pinHigh : Bool) : Bool := e.enable && (pinHigh == e.activeHigh)

/-- R60: an ENERGISED line drives its pin to the active level of its polarity, a DE-ENERGISED line to the inactive
level; a line that is no output line drives nothing. -/
def drivenLevel (s : State) (n : LineId) : Option Bool :=
  if (s.lines.get n).fn.isOutput then some (s.outputs.get n == (s.lines.get n).activeHigh) else none

/-- R58: the stop loop is open while some STOP_LOOP line has an inactive filtered value. -/
def stopLoopOpen (s : State) : Bool :=
  (List.finRange 16).any fun n => (s.lines.get n).fn = .stopLoop && !(s.lineDyn.get n).filtered

/-- The source of a timer channel is active (R63). -/
def sourceActive (s : State) : Option TimerSource → Bool
  | none => false
  | some (.line n) => lineActive s n
  | some (.station a p) => pointOn s a p.val

/-! ## Event codes -/

/-- The condition of a code holds (R72). -/
def condHolds (k : CodeState) : Bool := k.mapCond || k.lineCond

/-- A record for the code is outstanding (R75). -/
def isHeld (s : State) (c : Code) : Bool :=
  if c.val = 2 then s.alerts.escalation.isSome
  else s.alerts.stack.any (·.code = c) || s.alerts.pass.any (·.code = c)

/-- The jobs and the Event Controller are in service: RUN or AUTONOMOUS. -/
def inService (s : State) : Bool := s.device ≠ .config

/-- R75: the code is pending. -/
def isPending (s : State) (c : Code) : Bool :=
  let e := s.vectors.get c
  let k := s.codes.get c
  inService s &&
    (c.val = 1 || c.val = 2 || (decide (3 ≤ c.val) && e.present && decide (0 < e.level))) &&
    (k.latch || (decide (e.gate ≠ .dispatch) && decide (e.sense = .level) && condHolds k)) &&
    !isHeld s c

/-- The pending codes, lowest first. -/
def pendingCodes (s : State) : List Code :=
  if inService s then (List.finRange 64).filter (isPending s) else []

/-- The level of the topmost record, 0 for an empty stack (R76); the stack is kept bottom first. -/
def topLevel (stack : List AlertRecord) : Nat :=
  match stack.getLast? with
  | none => 0
  | some r => r.level

/-- Of two codes, the one of higher entry level, and among equal levels the lower code (R77, R79). -/
def higher (s : State) (a b : Code) : Bool :=
  let la := (s.vectors.get a).level
  let lb := (s.vectors.get b).level
  decide (lb < la) || (decide (la = lb) && decide (a.val < b.val))

/-- The first code of a list in the order of R77 and R79. -/
def bestCode (s : State) : List Code → Option Code
  | [] => none
  | c :: rest =>
    match bestCode s rest with
    | none => some c
    | some d => if higher s c d then some c else some d

/-- R77: the candidate among the pending codes of gate HOLD or PASS; code 2 has a slot of its own (R70). -/
def candidate (s : State) : Option Code :=
  bestCode s ((pendingCodes s).filter fun c => (s.vectors.get c).gate ≠ .dispatch && c.val ≠ 2)

/-- The DISPATCH code to be offered next: pending, of gate DISPATCH, and not waiting for the next supervision expiry
after a busy answer (R79). -/
def nextOffer (s : State) : Option Code :=
  bestCode s ((pendingCodes s).filter fun c =>
    (s.vectors.get c).gate = .dispatch && (s.codes.get c).answer ≠ some .busy)

/-- An URGENT place is free on the Bridge Port, which is UP (R77). -/
def bridgeHasPlace (s : State) : Bool := (s.port .bridge).up && decide ((s.port .bridge).tx.length < 32)

/-! ## Doors and zones -/

/-- The members of a zone, in order of door index (R99). -/
def members (s : State) (z : ZoneId) : List DoorId :=
  (List.finRange 24).filter fun d => (s.doors.get d).station.isSome && (s.doors.get d).zone = z

/-- R100: a door's state derived from its station's supervision status and filtered points. -/
def derivedDoor (s : State) (a : Addr) : DoorState :=
  if !isHeard s a then .unknown
  else if pointOn s a 4 then .failed
  else if pointOn s a 0 && !pointOn s a 1 then .closed
  else if pointOn s a 1 && !pointOn s a 0 then .opened
  else .between

/-- R104: the rest state of a zone, from its members' states. -/
def restState (s : State) (z : ZoneId) : ZoneStatus :=
  let ms := members s z
  if ms.all fun d => (s.doorDyn.get d).state = .opened then .opened
  else if ms.all fun d => (s.doorDyn.get d).state = .closed then .closed
  else .partly

/-- The zone is in a rest state: no procedure is active (R104). -/
def ZoneStatus.isRest : ZoneStatus → Bool
  | .opened | .partly | .closed => true
  | _ => false

/-- A DETECTOR station of the zone whose filtered ALARM point is active (R107, R121). DESIGN CHOICE, log entry 32: of
several it is the one of lowest address, since R121 does not say which of them the fire code names. -/
def burningDetector (s : State) (z : ZoneId) : Option Addr :=
  (List.finRange 254).find? fun a =>
    (s.stations.get a).role = .detector && (s.stations.get a).zone = some z && pointOn s a 0

/-! ## Calls -/

/-- The zones whose lines carry the call, in order of zone. -/
def carriedBy (s : State) (k : Nat) : List ZoneId :=
  (List.finRange 8).filter fun z => (s.zoneLines.get z).carried = some k

/-- The amplifier station of a zone's line (R98). -/
def amplifier (s : State) (z : ZoneId) : Option Addr := (s.zones.get z).amplifier

/-- The union of two zone sets, in rising order. -/
def zoneUnion (a b : List ZoneId) : List ZoneId :=
  (List.finRange 8).filter fun z => a.contains z || b.contains z

/-- The number of Call Queue records that name the message (R124). -/
def queuedCount (s : State) (m : MsgId) : Nat := s.calls.countP (·.message = m)

/-- The place of a call in the queue, the front being place 0 (R140). -/
def placeOf (s : State) (k : Nat) : Nat := s.calls.findIdx (·.stamp == k)

/-! ## Ramps -/

/-- The ramp is in CLEARING, MOVING or HOMING. -/
def RampState.isActive : RampState → Bool
  | .clearing | .moving | .homing => true
  | _ => false

/-- R148: the measured speed in cps. -/
def vmeas (d : RampDyn) : Int :=
  if d.meter ≥ 65535 ∨ d.lastPeriod = 65535 then 0
  else
    let m := min 10000 (100000 / d.lastPeriod)
    if d.lastUp then (m : Int) else -(m : Int)

/-- R151, the fire term: the guard zone's fire flag is set without its fire override. -/
def guardBurns (s : State) (r : RampId) : Bool :=
  let z := s.zoneDyn.get (s.ramps.get r).guardZone
  z.fire && !z.override

/-- R151, the drive term: HEARD, READY active, LOCAL and FAULT inactive. -/
def driveReady (s : State) (r : RampId) : Bool :=
  match (s.ramps.get r).drive with
  | none => false
  | some a => isHeard s a && pointOn s a 0 && !pointOn s a 4 && !pointOn s a 3

/-- R151: the permissive of a ramp. -/
def permissive (s : State) (r : RampId) : Bool :=
  !s.ga.active && !stopLoopOpen s && s.device = .run && !guardBurns s r && driveReady s r

/-- R157 step 4: the target speed for the distance `d`. -/
def targetSpeed (rec : RampRecord) (d : Int) : Int :=
  d.sign * (min rec.vmax (max rec.vcreep (rec.vmax * d.natAbs / rec.approach)) : Nat)

/-- R157 step 5: the setpoint moves toward the target speed by at most Astep. -/
def slew (astep : Nat) (vtarget vset : Int) : Int :=
  if vtarget > vset then min vtarget (vset + astep)
  else if vtarget < vset then max vtarget (vset - astep)
  else vset

/-- R157 step 6: the speed command in per-mille of Vmax. -/
def speedOut (vmax : Nat) (vset : Int) : Int :=
  vset.sign * ((1000 * vset.natAbs + vmax / 2) / vmax : Nat)

/-- R160: the condition of a fault reason has gone. -/
def conditionGone (s : State) (r : RampId) : FaultReason → Bool
  | .overspeed | .direction | .stall | .travel => vmeas (s.rampDyn.get r) = 0
  | .driveFault =>
    match (s.ramps.get r).drive with
    | none => true
    | some a => isHeard s a && !pointOn s a 3
  | .driveSilent =>
    match (s.ramps.get r).drive with
    | none => true
    | some a => isHeard s a

end Sys2Proof.Machine
end

