-- ==== Sys2Proof/Machine/Operands.lean ====
section
/-! DEFINITION. The operand forms of the management requests: index ranges (refused RANGE) and clamped settings, which
turn the fields of a write into the record that is stored. `none` is a refusal RANGE throughout. -/

namespace Sys2Proof.Machine

/-- An index below `n`. -/
def index? (n : Nat) (i : Nat) : Option (Fin n) := if h : i < n then some ⟨i, h⟩ else none

/-- An index below `n`, or absent: the outer `none` is a value out of range. -/
def maybeIndex? (n : Nat) : Option Nat → Option (Option (Fin n))
  | none => some none
  | some i => (index? n i).map some

/-- A station address 1..254, or none. -/
def maybeAddr? : Option Nat → Option (Option Addr)
  | none => some none
  | some a => (addr? a).map some

/-- The nearest value in `lo..hi` (R174). -/
def clamp (lo hi v : Nat) : Nat := min hi (max lo v)

/-- The least listed value not below `v`, the last one for a greater `v`. -/
def leastListed : List Nat → Nat → Nat
  | [], v => v
  | [last], _ => last
  | x :: rest, v => if v ≤ x then x else leastListed rest v

/-- All elements of a list converted, or none when one is out of range. -/
def allOf {α β : Type} (f : α → Option β) : List α → Option (List β)
  | [] => some []
  | x :: rest =>
    match f x, allOf f rest with
    | some y, some ys => some (y :: ys)
    | _, _ => none

/-- R18: a point above 15 is taken as 15. -/
def clampPoint (p : Nat) : Fin 16 := ⟨min p 15, by omega⟩

/-- R18: an event map; its code is range-tested. -/
def mapOf (m : MapFields) : Option EventMap :=
  (index? 64 m.code).map fun c => { point := clampPoint m.point, activeHigh := m.activeHigh, code := c }

/-- R18: the check times of a station, in ms. -/
def stationCheckTimes : List Nat := [0, 100, 200, 400, 800]

/-- R54: the check times of a direct line, in ms. -/
def lineCheckTimes : List Nat := [0, 1, 2, 4, 8, 16, 32, 64]

/-- R18: the event maps of a STATION write, 0 to 4 of them. DESIGN CHOICE, log entry 29: a write of more is refused
RANGE, since the manual gives no other answer to it. -/
def mapsOf (l : List MapFields) : Option (List EventMap) := if l.length ≤ 4 then allOf mapOf l else none

/-- R18: the record a STATION write stores. -/
def stationOf (f : StationFields) : Option StationRecord := do
  let role ← f.role
  let zone ← maybeIndex? 8 f.zone
  let attachment ← f.attachment
  let policy ← f.policy
  let code ← maybeIndex? 64 f.silenceCode
  let maps ← mapsOf f.maps
  return {
    role := role
    zone := zone
    attachment := attachment
    rxEnable := f.rxEnable
    policy := policy
    mirrorAllowed := f.mirrorAllowed
    freshness := clamp 1 255 f.freshness
    checkTime := leastListed stationCheckTimes f.checkTime
    silenceLimit := clamp 0 255 f.silenceLimit
    silenceCode := code
    maps := maps }

/-- R98: the record a ZONE write stores. -/
def zoneOf (f : ZoneFields) : Option ZoneRecord := do
  let amplifier ← maybeAddr? f.amplifier
  let warning ← index? 256 f.warningMsg
  let fire ← index? 256 f.fireMsg
  let opened ← index? 256 f.openMsg
  let doorHold ← maybeIndex? 16 f.doorHold
  let fireCode ← maybeIndex? 64 f.fireCode
  let closedCode ← maybeIndex? 64 f.closedCode
  let partialCode ← maybeIndex? 64 f.partialCode
  return {
    amplifier := amplifier
    warningMsg := warning
    fireMsg := fire
    openMsg := opened
    routineWarn := clamp 5 600 f.routineWarn
    fireWarn := clamp 0 60 f.fireWarn
    clearRequired := f.clearRequired
    callWait := clamp 10 300 f.callWait
    doorHold := doorHold
    fireCode := fireCode
    closedCode := closedCode
    partialCode := partialCode
    routinePriority := clamp 0 15 f.routinePriority
    firePriority := clamp 0 15 f.firePriority }

/-- R99: the record a DOOR write stores. -/
def doorOf (f : DoorFields) : Option DoorRecord := do
  let station ← maybeAddr? f.station
  let zone ← index? 8 f.zone
  return {
    station := station
    zone := zone
    closeLimit := clamp 5 120 f.closeLimit
    retryLimit := clamp 0 7 f.retryLimit
    retryInterval := clamp 2 30 f.retryInterval }

/-- R143: the control period, in steps of 10 from 10 to 100 ms: the least step not below the value written. -/
def periodOf (v : Nat) : Nat := clamp 10 100 ((v + 9) / 10 * 10)

/-- R143: the record a RAMP write stores. -/
def rampOf (f : RampFields) : Option RampRecord := do
  let drive ← maybeAddr? f.drive
  let guardZone ← index? 8 f.guardZone
  let enableLine ← maybeIndex? 16 f.enableLine
  let clearance ← index? 256 f.clearanceMsg
  let arrived ← maybeIndex? 64 f.arrivedCode
  let landed ← maybeIndex? 64 f.landedCode
  let held ← maybeIndex? 64 f.heldCode
  let fault ← maybeIndex? 64 f.faultCode
  return {
    drive := drive
    guardZone := guardZone
    enableLine := enableLine
    pmax := clamp 1 30000 f.pmax
    window := clamp 1 255 f.window
    approach := clamp 1 30000 f.approach
    vmax := clamp 1 2000 f.vmax
    vcreep := clamp 1 2000 f.vcreep
    astep := clamp 1 2000 f.astep
    period := periodOf f.period
    vtol := clamp 1 2000 f.vtol
    stallPeriods := clamp 1 50 f.stallPeriods
    clearanceMsg := clearance
    clearancePriority := clamp 0 15 f.clearancePriority
    overtravel := clamp 0 255 f.overtravel
    arrivedCode := arrived
    landedCode := landed
    heldCode := held
    faultCode := fault }

/-- R54: the function of a direct line. -/
def lineFnOf : LineFnFields → Option LineFn
  | .generalIn => some .generalIn
  | .encoderA r => (index? 4 r).map .encoderA
  | .encoderB r => (index? 4 r).map .encoderB
  | .stopLoop => some .stopLoop
  | .alarmButton => some .alarmButton
  | .rampEnable r => (index? 4 r).map .rampEnable
  | .doorHold z => (index? 8 z).map .doorHold
  | .unassigned => some .unassigned
  | .outside => none

/-- R54: the entry a LINE write stores. -/
def lineOf (f : LineFields) : Option LineEntry := do
  let fn ← lineFnOf f.fn
  let code ← maybeIndex? 64 f.code
  return {
    fn := fn
    enable := f.enable
    activeHigh := f.activeHigh
    checkTime := leastListed lineCheckTimes f.checkTime
    code := code }

/-- R63: the source of a timer channel; the outer `none` is a source out of range. -/
def timerSourceOf : TimerSourceFields → Option (Option TimerSource)
  | .absent => some none
  | .line n => (index? 16 n).map fun i => some (.line i)
  | .station a p => (addr? a).map fun i => some (.station i (clampPoint p))

/-- R63: the record a TIMER write stores; a COUNT or WIDTH record without a source is out of range. -/
def timerOf (f : TimerFields) : Option TimerRecord := do
  let mode ← f.mode
  let tick ← f.tick
  let source ← timerSourceOf f.source
  let code ← maybeIndex? 64 f.code
  if (mode = .count ∨ mode = .width) ∧ source = none then none
  else return {
    mode := mode
    tick := tick
    reload := clamp 1 65535 f.reload
    source := source
    code := code }

/-- A set of zones: each 0..7, in rising order; `none` when it is empty or names a zone above 7 (R69, R140). -/
def zoneSetOf (zones : List Nat) : Option (List ZoneId) :=
  if zones = [] ∨ zones.any (fun z => decide (8 ≤ z)) then none
  else some ((List.finRange 8).filter fun z => zones.contains z.val)

/-- R69: the dispatch target of a VECTOR write. -/
def targetOf : TargetFields → Option Target
  | .zoneCloseRoutine z => (index? 8 z).map .zoneCloseRoutine
  | .zoneCloseFire z => (index? 8 z).map .zoneCloseFire
  | .zoneOpen z => (index? 8 z).map .zoneOpen
  | .rampHold r => (maybeIndex? 4 r).map .rampHold
  | .call m zones priority repeats =>
    match index? 256 m, zoneSetOf zones with
    | some msg, some zs => some (.call msg zs (clamp 0 15 priority) (clamp 0 8 repeats))
    | _, _ => none
  | .outside => none

/-- R69: the entry a VECTOR write stores. -/
def vectorOf (f : VectorFields) : Option VectorEntry := do
  let gate ← f.gate
  let sense ← f.sense
  let target ← targetOf f.target
  return {
    present := f.present
    gate := gate
    level := clamp 0 15 f.level
    sense := sense
    notify := f.notify
    authority := clamp 0 3 f.authority
    target := target }

/-- R124: the record a MESSAGE write stores. -/
def messageOf (f : MessageFields) : MessageRecord where
  inUse := f.inUse
  durationLimit := clamp 1 600 f.durationLimit
  chime := f.chime
  repeatGap := clamp 0 30 f.repeatGap

/-- R176: the Device Record with one field written. -/
def deviceOf (rec : DeviceRecord) : DeviceField → Option DeviceRecord
  | .bridgeLossTime v => some { rec with bridgeLossTime := clamp 1 60 v }
  | .ackLimit v => some { rec with ackLimit := clamp 2 120 v }
  | .lineFaultCode c => (maybeIndex? 64 c).map fun c' => { rec with lineFaultCode := c' }
  | .counterCode set c =>
    match set, maybeIndex? 64 c with
    | some st, some c' => some { rec with counterCode := rec.counterCode.put st c' }
    | _, _ => none
  | .markMask set i half full =>
    match set, index? 13 i with
    | some st, some j =>
      some { rec with markMasks := rec.markMasks.put st (Tab.put (rec.markMasks.at st) j ⟨half, full⟩) }
    | _, _ => none
  | .windowLength d v =>
    some { rec with quality := rec.quality.put d { rec.quality.at d with windowLength := clamp 100 10000 v } }
  | .threshold d v =>
    some { rec with quality := rec.quality.put d { rec.quality.at d with threshold := clamp 1 65535 v } }
  | .qualityCode d c =>
    (maybeIndex? 64 c).map fun c' =>
      { rec with quality := rec.quality.put d { rec.quality.at d with code := c' } }

/-- R175: the two Device Record fields that are also taken outside CONFIG. -/
def openInService : DeviceField → Bool
  | .bridgeLossTime _ | .ackLimit _ => true
  | _ => false

/-- R173: an authority above 3 is taken as 3. -/
def authorityOf (h : Header) : Nat := min 3 h.authority

/-- R154: a target below 0 is taken as 0, one above Pmax as Pmax. -/
def clampTarget (pmax : Nat) (t : Int) : Int := max 0 (min (pmax : Int) t)

/-- The length of a tick in ticks of the time base (R63). -/
def tickLength : TimerTick → Nat
  | .ms1 => 100
  | .ms10 => 1000
  | .ms100 => 10000
  | .s1 => 100000

/-- The next instant after `now` that is a multiple of `len`, counted from the end of power-on (R36, R64). -/
def nextMultiple (len now : Nat) : Nat := (now / len + 1) * len

end Sys2Proof.Machine
end

