-- ==== Sys2Proof/Machine/Ops.lean ====
section
/-! DEFINITION. The shared operations of the blocks: raising a code, reporting a condition, counting, the receive and
transmit queues, job commands, claims and releases, output orders. -/

namespace Sys2Proof.Machine

/-! ## Raising codes (R72 to R74) -/

/-- An activation: its code and attributes, and whether its block also reports a condition for the code (a station
event map or a GENERAL_IN line, R73). -/
structure Activation where
  code : Code
  attrs : Attributes
  withCondition : Bool
deriving DecidableEq, Repr

/-- The latch of a code is set with the attributes given. A code whose latch was clear has not been offered yet. -/
def setLatch (c : Code) (a : Attributes) (s : State) : State :=
  s.modCode c fun k =>
    { k with latch := true, attrs := a, answer := if k.latch then k.answer else none }

/-- The latch of a code is cleared. -/
def clearLatch (c : Code) (s : State) : State :=
  s.modCode c fun k => { k with latch := false, answer := none }

/-- R73: a vector fault sets the latch of code 1, with the raise's attributes except that the detail is the code. -/
def vectorFault (c : Code) (a : Attributes) (s : State) : State :=
  setLatch 1 { a with detail := BitVec.ofNat 16 c.val } s

/-- R73: an activation is taken. -/
def raiseCode (x : Activation) (s : State) : State :=
  let e := s.vectors.get x.code
  if s.device = .config then s
  else if x.code.val ≤ 2 then vectorFault x.code x.attrs s
  else if !e.present then vectorFault x.code x.attrs s
  else if e.level = 0 then s
  else if e.sense = .edge ∨ x.withCondition = false then setLatch x.code x.attrs s
  else s.modCode x.code fun k => { k with attrs := x.attrs }

/-- An activation of origin INTERNAL by a block that reports no condition, when the code is present in its record. -/
def raiseInternal (c : Option Code) (station : Option Addr) (zone : Option ZoneId) (detail : Word16) (s : State) :
    State :=
  match c with
  | none => s
  | some code => raiseCode ⟨code, ⟨.internal, station, zone, detail⟩, false⟩ s

/-- The two blocks that report conditions (R72). -/
inductive CondSource where
  | map | line
deriving DecidableEq, Repr

/-- The condition that a block reports is recorded. -/
def CodeState.withCond (k : CodeState) (src : CondSource) (holds : Bool) : CodeState :=
  match src with
  | .map => { k with mapCond := holds }
  | .line => { k with lineCond := holds }

/-- The condition of a code that a block reported last. -/
def CodeState.condOf (k : CodeState) : CondSource → Bool
  | .map => k.mapCond
  | .line => k.lineCond

/-- R72, R74: a condition report is taken, in every device state. -/
def reportCondition (src : CondSource) (c : Code) (holds : Bool) (a : Attributes) (s : State) : State :=
  let before := s.codes.get c
  let s1 := s.modCode c fun k => k.withCond src holds
  if c.val ≤ 2 then s1
  else
    let begins := holds && !condHolds before
    let s2 := if holds && !before.condOf src then s1.modCode c fun k => { k with attrs := a } else s1
    let e := s2.vectors.get c
    if begins && inService s2 then
      if !e.present then vectorFault c a s2
      else if e.level ≠ 0 ∧ e.gate = .dispatch ∧ e.sense = .level then setLatch c (s2.codes.get c).attrs s2
      else s2
    else s2

/-! ## Counters (R165, R166) -/

def ctrGood : CounterId := 0
def ctrBad : CounterId := 1
def ctrOctets : CounterId := 2
def ctrOverflow : CounterId := 3
def ctrPassing : CounterId := 4
def ctrFiltered : CounterId := 5
def ctrUnknown : CounterId := 6
def ctrTransmitted : CounterId := 10
def ctrDrops : CounterId := 11
def ctrFlushed : CounterId := 12

def ctrHits : CounterId := 0
def ctrMisses : CounterId := 1
def ctrEvictions : CounterId := 2
def ctrAlerts : CounterId := 3
def ctrOverdue : CounterId := 4
def ctrStray : CounterId := 5
def ctrRefused : CounterId := 6
def ctrLostGa : CounterId := 7
def ctrRejectTotal : CounterId := 12

/-- The length bin of an accepted frame (R165, counters 7 to 9). -/
def lengthBin (n : Nat) : CounterId := if n ≤ 7 then 7 else if n ≤ 15 then 8 else 9

/-- The counter of a REJECT reason (R165, counters 8 to 11). -/
def rejectCounter : RejectReason → CounterId
  | .owned => 8
  | .full => 9
  | .unknown => 10
  | .line => 11

/-- The number of a set in a mark's detail (R166). -/
def setNumber : CounterSet → Nat
  | .deckA => 0
  | .deckB => 1
  | .bridge => 2
  | .global => 3

/-- A counter's value. -/
def counter (s : State) (set : CounterSet) (i : CounterId) : Word32 := (s.counters.at set).get i

/-- A counter is set to `v`. -/
def setCounter (set : CounterSet) (i : CounterId) (v : Word32) (s : State) : State :=
  { s with counters := s.counters.put set (Tab.put (s.counters.at set) i v) }

/-- R166: a mark (1 for half, 2 for full) raises its set's code when its part of the mask is not masked. -/
def raiseMark (set : CounterSet) (i : CounterId) (mark : Nat) (s : State) : State :=
  let mask := (s.record.markMasks.at set).get i
  let masked := if mark = 1 then mask.half else mask.full
  if masked then s
  else
    raiseInternal (s.record.counterCode.at set) none none
      (BitVec.ofNat 16 (4096 * mark + 256 * setNumber set + i.val)) s

/-- R165, R166: a counter rises by `n`, passing from 4294967295 to 0, and makes its mark. -/
def bump (set : CounterSet) (i : CounterId) (n : Nat) (s : State) : State :=
  let old := (counter s set i).toNat
  let new := old + n
  let s := setCounter set i (BitVec.ofNat 32 new) s
  if 4294967296 ≤ new then raiseMark set i 2 s
  else if old < 2147483648 ∧ 2147483648 ≤ new then raiseMark set i 1 s
  else s

/-- A port's counter rises by 1. -/
def bumpPort (p : Port) (i : CounterId) (s : State) : State := bump (portSet p) i 1 s

/-- A global counter rises by 1. -/
def bumpGlobal (i : CounterId) (s : State) : State := bump .global i 1 s

/-! ## Receiving (R10, R11) -/

/-- R11: an accepted frame is offered to its port's receive queue. -/
def offerRx (p : Port) (f : Frame) (s : State) : State :=
  if (s.port p).rx.length < 16 then s.modPort p fun u => { u with rx := u.rx ++ [f] }
  else bumpPort p ctrOverflow s

/-- R169: a bad frame is reported to the line quality monitor of a deck line. -/
def reportBadFrame (p : Port) (s : State) : State :=
  let report (d : Deck) : State :=
    s.modQuality d fun m => if m.window.isRunning then { m with count := min 65535 (m.count + 1) } else m
  match p with
  | .deckA => report .a
  | .deckB => report .b
  | .bridge => s

/-- R10: a bad frame is counted and reported. -/
def badFrame (p : Port) (s : State) : State := reportBadFrame p (bumpPort p ctrBad s)

/-- R10: an accepted frame is counted, then passes by or is offered to the receive queue. DESIGN CHOICE, log entry 35:
the good frame is counted first, then its octets, its length bin, and last the passing or the overflow; R11 puts the
overflow after the good frame, and R165 gives these rises no other order. -/
def acceptFrame (p : Port) (f : Frame) (s : State) : State :=
  let n := f.payload.length
  let s := bumpPort p ctrGood s
  let s := bump (portSet p) ctrOctets (7 + n) s
  let s := bumpPort p (lengthBin n) s
  if p ≠ .bridge ∧ f.destination ≠ 0 ∧ f.destination ≠ 0xFF#8 then bumpPort p ctrPassing s
  else offerRx p f s

/-! ## Transmitting (R12 to R14) -/

/-- The occupancy from which a frame of the class is refused (R13). -/
def txLimit : Port → TxClass → Nat
  | .bridge, .normal => 28
  | .bridge, .urgent => 32
  | _, .normal => 12
  | _, .urgent => 16

/-- The entry to be sent next and the rest of the queue: the oldest URGENT frame, or else the oldest NORMAL one (R12). -/
def nextToSend (q : List TxEntry) : Option (TxEntry × List TxEntry) :=
  match q.find? (·.cls = .urgent) with
  | some e => some (e, q.eraseP (·.cls = .urgent))
  | none =>
    match q with
    | [] => none
    | e :: rest => some (e, rest)

/-- R12: while the port is UP and its transmitter is free, the next frame leaves the queue and its transmission
starts. -/
def startTransmission (p : Port) (s : State) : State :=
  let u := s.port p
  if u.up && u.sending.isNone then
    match nextToSend u.tx with
    | none => s
    | some (e, rest) => s.modPort p fun u => { u with tx := rest, sending := some e.frame }
  else s

/-- R14: the waiting entry is a SPEED command of the same class for the same station. -/
def replacedBy (e new : TxEntry) : Bool :=
  e.frame.isSpeed && new.frame.isSpeed && decide (e.cls = new.cls) &&
    decide (e.frame.destination = new.frame.destination)

/-- R14: the new SPEED command takes the place of the waiting one. -/
def replaceSpeed (new : TxEntry) : List TxEntry → List TxEntry
  | [] => []
  | e :: rest => if replacedBy e new then new :: rest else e :: replaceSpeed new rest

/-- R13: the queue refuses a frame of the class. -/
def txRefuses (p : Port) (cls : TxClass) (s : State) : Bool :=
  !(s.port p).up || decide (txLimit p cls ≤ (s.port p).tx.length)

/-- R12 to R14: a frame is offered to a transmit queue; answers whether it was admitted. A refused frame is dropped and
counted as a transmit drop of the port. A SPEED command on a deck line first replaces a waiting one. -/
def offerTx (p : Port) (cls : TxClass) (f : TxFrame) (s : State) : Bool × State :=
  let new : TxEntry := ⟨cls, f⟩
  if decide (p ≠ .bridge) && (s.port p).up && (s.port p).tx.any (replacedBy · new) then
    (true, s.modPort p fun u => { u with tx := replaceSpeed new u.tx })
  else if txRefuses p cls s then (false, bumpPort p ctrDrops s)
  else (true, startTransmission p (s.modPort p fun u => { u with tx := u.tx ++ [new] }))

/-- A frame is offered and its admission is not looked at. -/
def sendTx (p : Port) (cls : TxClass) (f : TxFrame) (s : State) : State := (offerTx p cls f s).2

/-! ## Job commands, claims and releases (R31, R32) -/

/-- The deck line on which a job frame without a line is counted as dropped: the station's own line, A for a
dual-homed station (R31). -/
def dropDeck : Attachment → Deck
  | .b => .b
  | _ => .a

/-- R31: a COMMAND built by a job is steered and offered URGENT, or dropped with a transmit drop. -/
def jobCommand (a : Addr) (payload : List Byte) (s : State) : State :=
  match steer a s with
  | some d => sendTx (deckPort d) .urgent (jobFrame a payload) s
  | none => bumpPort (deckPort (dropDeck (s.stations.get a).attachment)) ctrDrops s

/-- A COMMAND to a station that a record may not name. -/
def jobCommand? (a : Option Addr) (payload : List Byte) (s : State) : State :=
  match a with
  | none => s
  | some a => jobCommand a payload s

/-- R32: a claim is granted on a FREE station or to the present owner. -/
def claim (a : Addr) (o : Owner) (s : State) : Bool × State :=
  if s.owners.get a = .free then (true, s.setOwner a o)
  else if s.owners.get a = o then (true, s)
  else (false, s)

/-- R32: a release by the present owner makes the station FREE; by any other party it changes nothing. -/
def release (a : Addr) (o : Owner) (s : State) : State :=
  if s.owners.get a = o then s.setOwner a .free else s

/-- A release of a station that a record may not name. -/
def release? (a : Option Addr) (o : Owner) (s : State) : State :=
  match a with
  | none => s
  | some a => release a o s

/-! ## Output orders (R60) -/

/-- R60: an order on line `n` is carried out when the line has the function of the ordering job; an energise order
needs the part in service and, for a ramp enable, the stop loop closed. -/
def orderOutput (n : LineId) (fn : LineFn) (on : Bool) (s : State) : State :=
  if (s.lines.get n).fn ≠ fn then s
  else if on then
    if inService s && (!fn.isRampEnable || !stopLoopOpen s) then s.setOutput n true else s
  else s.setOutput n false

/-- The Ramp Controller's order for ramp `r`, on the line its record names (R60). -/
def orderEnable (r : RampId) (on : Bool) (s : State) : State :=
  match (s.ramps.get r).enableLine with
  | none => s
  | some n => orderOutput n (.rampEnable r) on s

/-- The Zone Controller's order for zone `z`, on the line its record names (R60, R110). -/
def orderDoorHold (z : ZoneId) (on : Bool) (s : State) : State :=
  match (s.zones.get z).doorHold with
  | none => s
  | some n => orderOutput n (.doorHold z) on s

/-- R60: the Direct Line Unit de-energises every output line. -/
def deEnergiseAll (s : State) : State := { s with outputs := Vector.replicate 16 false }

/-- R58: every RAMP_ENABLE_OUT line is de-energised. -/
def deEnergiseEnables (s : State) : State :=
  { s with outputs := Tab.of fun n =>
      if (s.lines.get n).fn.isRampEnable then false else s.outputs.get n }

end Sys2Proof.Machine
end

