-- ==== Sys2Proof/Machine/RampCore.lean ====
section
/-! DEFINITION. Ramp motion that starts no call: drive commands, holds, faults, entry to MOVING, the end of homing, the
clearance call's notice, encoder edges (R146 to R160). -/

namespace Sys2Proof.Machine

/-- The drive station of a ramp. -/
def drive (s : State) (r : RampId) : Option Addr := (s.ramps.get r).drive

/-- SPEED is queued to the drive of a ramp (R157 step 6). -/
def sendSpeed (r : RampId) (out : Int) (s : State) : State := jobCommand? (drive s r) (speedPayload out) s

/-- ENABLE is queued to the drive of a ramp. -/
def sendEnable (r : RampId) (s : State) : State := jobCommand? (drive s r) [verbEnable] s

/-- DISABLE is queued to the drive of a ramp. -/
def sendDisable (r : RampId) (s : State) : State := jobCommand? (drive s r) [verbDisable] s

/-- The drive of a ramp is released (R32). -/
def releaseDrive (r : RampId) (s : State) : State := release? (drive s r) (.ramp r) s

/-- R146: a ramp's code is raised with the drive station, the guard zone and a detail. -/
def raiseRamp (r : RampId) (c : Option Code) (detail : Word16) (s : State) : State :=
  raiseInternal c (drive s r) (some (s.ramps.get r).guardZone) detail s

/-- The code of a fault reason (R146). -/
def reasonCode : FaultReason → Nat
  | .overspeed => 1
  | .direction => 2
  | .stall => 3
  | .travel => 4
  | .driveFault => 5
  | .driveSilent => 6

/-- The ramp stands still: Vset 0, the control-period expiries and the clearance wait stopped, no call awaited. -/
def RampDyn.stopped (d : RampDyn) (state : RampState) : RampDyn :=
  { d with state := state, vset := 0, control := .stopped, clearance := .stopped, callRef := none }

/-- R152: a hold of ramp `r` with its cause; it changes nothing in a state other than CLEARING, MOVING and HOMING. -/
def holdRamp (r : RampId) (cause : Nat) (s : State) : State :=
  match (s.rampDyn.get r).state with
  | .clearing | .moving =>
    let s := s.modRamp r (·.stopped .held)
    raiseRamp r (s.ramps.get r).heldCode (BitVec.ofNat 16 cause) (sendSpeed r 0 s)
  | .homing =>
    let s := s.modRamp r fun d => { d.stopped .unreferenced with referenced := false }
    let s := releaseDrive r (orderEnable r false (sendDisable r (sendSpeed r 0 s)))
    raiseRamp r (s.ramps.get r).heldCode (BitVec.ofNat 16 cause) s
  | _ => s

/-- R152: every ramp is held with the cause. DESIGN CHOICE, log entry 25: in order of ramp index, since the manual gives
no order. -/
def holdAll (cause : Nat) (s : State) : State := (List.finRange 4).foldl (fun s r => holdRamp r cause s) s

/-- R160: a ramp in CLEARING, MOVING or HOMING enters FAULT with its reason. -/
def faultRamp (r : RampId) (reason : FaultReason) (s : State) : State :=
  if (s.rampDyn.get r).state.isActive then
    let s := s.modRamp r fun d =>
      { d.stopped .fault with overspeed := 0, direction := 0, stall := 0, fault := some reason }
    let s := orderEnable r false (sendDisable r (sendSpeed r 0 s))
    raiseRamp r (s.ramps.get r).faultCode (BitVec.ofNat 16 (reasonCode reason)) s
  else s

/-- R156: the ramp enters MOVING. -/
def enterMoving (r : RampId) (s : State) : State :=
  let s := sendEnable r (orderEnable r true s)
  let due := s.inMs (s.ramps.get r).period
  s.modRamp r fun d =>
    { d with
      state := .moving, vset := 0, overspeed := 0, direction := 0, stall := 0, edgeSeen := false
      control := .running due }

/-- R155: any notice for the referenced clearance call ends the wait in CLEARING; every other notice is taken without
effect. -/
def rampNotice (r : RampId) (ref : CallRef) (s : State) : State :=
  let d := s.rampDyn.get r
  if d.state = .clearing ∧ d.callRef = some ref then
    enterMoving r (s.modRamp r fun d => { d with callRef := none, clearance := .stopped })
  else s

/-- R157 steps 2 and 3: the motion ends; SPEED 0 and DISABLE are queued, the enable output ordered de-energised, the
drive released, the ramp IDLE with T kept, and the code given raised with P. -/
def endMotion (r : RampId) (c : Option Code) (s : State) : State :=
  let s := s.modRamp r (·.stopped .idle)
  let s := releaseDrive r (orderEnable r false (sendDisable r (sendSpeed r 0 s)))
  raiseRamp r c (twos16 (s.rampDyn.get r).p) s

/-- R150: a rise of STOWED ends homing. -/
def endHoming (r : RampId) (s : State) : State :=
  if (s.rampDyn.get r).state = .homing then
    let s := s.modRamp r fun d => { d.stopped .idle with p := 0, referenced := true }
    let s := releaseDrive r (orderEnable r false (sendDisable r (sendSpeed r 0 s)))
    raiseRamp r (s.ramps.get r).arrivedCode 0 s
  else s

/-- R151, R152: the guard zone's fire flag or fire override has changed; ramps guarded by the zone are held while it
burns without override, in order of ramp index (log entry 25). -/
def fireChanged (z : ZoneId) (s : State) : State :=
  (List.finRange 4).foldl
    (fun s r => if (s.ramps.get r).guardZone = z ∧ guardBurns s r = true then holdRamp r 4 s else s) s

/-- R151 to R153, R150: the Classifier reports changed role points of the drive of ramp `r`, as one report. -/
def driveReport (r : RampId) (old new : Word16) (s : State) : State :=
  let rose (p : Nat) : Bool := !old.getLsbD p && new.getLsbD p
  let fell (p : Nat) : Bool := old.getLsbD p && !new.getLsbD p
  if (s.rampDyn.get r).state.isActive && rose 3 then faultRamp r .driveFault s
  else if (s.rampDyn.get r).state = .homing && rose 1 then endHoming r s
  else if fell 0 then holdRamp r 5 s
  else if rose 4 then holdRamp r 6 s
  else s

/-- R153: the drive of ramp `r` passes from HEARD to SILENT. -/
def driveSilent (r : RampId) (s : State) : State := faultRamp r .driveSilent s

/-! ## Encoder (R147, R159) -/

/-- R147: a counted edge. A P at either end of its range that would pass it keeps its value. -/
def RampDyn.countEdge (d : RampDyn) : RampDyn :=
  let up := !d.bHigh
  { d with
    p := if up then min 32767 (d.p + 1) else max (-32768) (d.p - 1)
    lastPeriod := max 1 d.meter
    lastUp := up
    meter := 0
    edgeSeen := true }

/-- R159: P stands beyond the ramp's travel. -/
def beyondTravel (cfg : RampRecord) (p : Int) : Bool :=
  decide (p > cfg.pmax + cfg.overtravel) || decide (p < -(cfg.overtravel : Int))

/-- R147, R159: a rising level of ENCODER_A(r). -/
def encoderRise (r : RampId) (s : State) : State :=
  let s := s.modRamp r (·.countEdge)
  let d := s.rampDyn.get r
  if d.state = .moving ∧ beyondTravel (s.ramps.get r) d.p = true then faultRamp r .travel s else s

/-- R147: a change of the pin of an encoder line is handed to the Ramp Controller. -/
def encoderPin (fn : LineFn) (high : Bool) (s : State) : State :=
  match fn with
  | .encoderA r => if high then encoderRise r s else s
  | .encoderB r => s.modRamp r fun d => { d with bHigh := high }
  | _ => s

/-! ## Supervision (R158) -/

/-- R158: the three counts after a control period. -/
def superviseCounts (cfg : RampRecord) (d : RampDyn) : RampDyn :=
  let v := vmeas d
  let fast := decide (v.natAbs > d.vset.natAbs + cfg.vtol)
  let wrong := decide (d.vset ≠ 0) && decide (v.sign = -d.vset.sign) && decide (v.natAbs > cfg.vtol)
  let still := decide (d.vset.natAbs ≥ cfg.vcreep) && !d.edgeSeen
  { d with
    overspeed := if fast then d.overspeed + 1 else 0
    direction := if wrong then d.direction + 1 else 0
    stall := if still then d.stall + 1 else 0
    edgeSeen := false }

/-- R158: the fault whose count has reached its figure, DIRECTION before OVERSPEED before STALL. -/
def supervisionFault (cfg : RampRecord) (d : RampDyn) : Option FaultReason :=
  if 3 ≤ d.direction then some .direction
  else if 3 ≤ d.overspeed then some .overspeed
  else if cfg.stallPeriods ≤ d.stall then some .stall
  else none

/-- R158: the supervision of a control period. -/
def superviseRamp (r : RampId) (s : State) : State :=
  let s := s.modRamp r (superviseCounts (s.ramps.get r))
  match supervisionFault (s.ramps.get r) (s.rampDyn.get r) with
  | some reason => faultRamp r reason s
  | none => s

/-- R157: a control-period expiry of a ramp in MOVING. -/
def motionLaw (r : RampId) (s : State) : State :=
  let cfg := s.ramps.get r
  let d := s.rampDyn.get r
  let dist : Int := d.t.getD 0 - d.p
  if dist.natAbs ≤ cfg.window then endMotion r cfg.arrivedCode s
  else if landed then endMotion r cfg.landedCode s
  else
    let vset := slew cfg.astep (targetSpeed cfg dist) d.vset
    let s := s.modRamp r fun d => { d with vset := vset }
    superviseRamp r (sendSpeed r (speedOut cfg.vmax vset) s)
where
  /-- R157 step 3: the drive's LANDED point is active and the ramp is lowering. -/
  landed : Bool :=
    let d := s.rampDyn.get r
    decide (d.t.getD 0 - d.p > 0) &&
      match drive s r with
      | none => false
      | some a => pointOn s a 2

/-- R150, R157: a control-period expiry; the next one falls one control period later while the motion goes on. -/
def controlPeriod (r : RampId) (s : State) : State :=
  if (s.rampDyn.get r).control.isRunning then
    let due := s.inMs (s.ramps.get r).period
    let s := s.modRamp r fun d => { d with control := .running due }
    match (s.rampDyn.get r).state with
    | .moving => motionLaw r s
    | .homing =>
      superviseRamp r (sendSpeed r (speedOut (s.ramps.get r).vmax (s.rampDyn.get r).vset) s)
    | _ => s
  else s

end Sys2Proof.Machine
end

