-- ==== Sys2Proof/Machine/ZoneCore.lean ====
section
/-! DEFINITION. Zones and doors, all that starts no call: door commands, rest states, entry to COUNTDOWN and CLOSING,
the end of a close, the call's notice (R100 to R117). -/

namespace Sys2Proof.Machine

/-- The station of a door record. -/
def doorStation (s : State) (d : DoorId) : Option Addr := (s.doors.get d).station

/-- The zone of a door record. -/
def doorZone (s : State) (d : DoorId) : ZoneId := (s.doors.get d).zone

/-- R105: a zone's code is raised with the zone, a station and a detail. -/
def raiseZone (z : ZoneId) (c : Option Code) (station : Option Addr) (detail : Nat) (s : State) : State :=
  raiseInternal c station (some z) (BitVec.ofNat 16 detail) s

/-- R105: the partial code of a zone. -/
def raisePartial (z : ZoneId) (station : Option Addr) (detail : Nat) (s : State) : State :=
  raiseZone z (s.zones.get z).partialCode station detail s

/-- R104: while no procedure is active, the zone takes its rest state. -/
def refreshRest (z : ZoneId) (s : State) : State :=
  if (s.zoneDyn.get z).state.isRest then
    let rest := restState s z
    s.modZone z fun d => { d with state := rest }
  else s

/-- A door's items are changed and its zone recomputes its rest state (R100). -/
def changeDoor (d : DoorId) (f : DoorDyn → DoorDyn) (s : State) : State :=
  refreshRest (doorZone s d) (s.modDoor d f)

/-- The motion of a door is over: its timers stop, its command is NONE, and it has the state given. -/
def DoorDyn.atRest (x : DoorDyn) (state : DoorState) (held : Bool) : DoorDyn :=
  { x with state := state, command := .none, closeTimer := .stopped, retryTimer := .stopped, held := held }

/-- The state a door takes from its station when no command is in force (R100). -/
def derivedOf (s : State) (d : DoorId) : DoorState :=
  match doorStation s d with
  | none => .unknown
  | some a => derivedDoor s a

/-- The door takes its derived state, its timers stopped and its command NONE (R101). -/
def settleDoor (d : DoorId) (s : State) : State :=
  let st := derivedOf s d
  changeDoor d (·.atRest st false) s

/-- The door is FAILED and held (R101, R102). -/
def failDoor (d : DoorId) (s : State) : State := changeDoor d (·.atRest .failed true) s

/-- The state a door shows while a command is in force: UNKNOWN while its station is SILENT (R101, R103). -/
def motionState (s : State) (d : DoorId) (moving : DoorState) : DoorState :=
  match doorStation s d with
  | none => .unknown
  | some a => if isHeard s a then moving else .unknown

/-- R101: CLOSE is sent to a door. -/
def sendClose (d : DoorId) (s : State) : State :=
  let st := motionState s d .closing
  let due := s.inSec (s.doors.get d).closeLimit
  let s := changeDoor d (fun x => { x with state := st, command := .close, closeTimer := .running due, held := false }) s
  jobCommand? (doorStation s d) [verbClose] s

/-- R101: OPEN is sent to a door. -/
def sendOpen (d : DoorId) (s : State) : State :=
  let st := motionState s d .opening
  let due := s.inSec (s.doors.get d).closeLimit
  let s := changeDoor d (fun x => { x with state := st, command := .open, closeTimer := .running due, held := false }) s
  jobCommand? (doorStation s d) [verbOpen] s

/-- A door's station is claimed as ZONE z. -/
def claimDoor (z : ZoneId) (d : DoorId) (s : State) : Bool × State :=
  match doorStation s d with
  | none => (true, s)
  | some a => claim a (.zone z) s

/-- Every member door's station is claimed as ZONE z; a refused claim sets skipped to CLAIM (R112). -/
def claimMembers (z : ZoneId) (s : State) : State :=
  (members s z).foldl
    (fun s d =>
      let q := claimDoor z d s
      q.2.modDoor d fun x =>
        { x with obstructions := 0, warned := false, skipped := if q.1 then .no else .claim })
    s

/-- Every member door's station is released (R117). -/
def releaseMembers (z : ZoneId) (s : State) : State :=
  (members s z).foldl (fun s d => release? (doorStation s d) (.zone z) s) s

/-- The zone leaves its procedure for its rest state, with cause NONE. -/
def enterRest (z : ZoneId) (s : State) : State :=
  let rest := restState s z
  s.modZone z fun d => { d with state := rest, cause := .none }

/-- The lowest-indexed member whose state is not `st`, as a station (R105). -/
def firstNot (s : State) (z : ZoneId) (st : DoorState) : Option Addr :=
  match (members s z).find? fun d => (s.doorDyn.get d).state ≠ st with
  | none => none
  | some d => doorStation s d

/-- The detail of the closed code (R105). -/
def causeDetail : Cause → Nat
  | .fire => 2
  | _ => 1

/-- R117: the end of a close procedure. -/
def endClose (z : ZoneId) (s : State) : State :=
  let detail := causeDetail (s.zoneDyn.get z).cause
  let s := releaseMembers z s
  let s := (members s z).foldl (fun s d => s.modDoor d fun x => { x with skipped := .no }) s
  let s := enterRest z s
  if (s.zoneDyn.get z).state = .closed then raiseZone z (s.zones.get z).closedCode none detail s
  else raisePartial z (firstNot s z .closed) 2 s

/-- R117: the close procedure ends when the zone is in CLOSING and no member door has command CLOSE. -/
def judgeCloseEnd (z : ZoneId) (s : State) : State :=
  if (s.zoneDyn.get z).state = .closing ∧
      (members s z).all (fun d => (s.doorDyn.get d).command ≠ .close) = true then
    endClose z s
  else s

/-- R116: what entering CLOSING does to one member door. -/
def closingDoor (z : ZoneId) (d : DoorId) (s : State) : State :=
  let x := s.doorDyn.get d
  let localOn :=
    match doorStation s d with
    | none => false
    | some a => pointOn s a 3
  if x.skipped = .claim then s
  else if (s.zoneDyn.get z).cause = .routine ∧ localOn = true then
    s.modDoor d fun x => { x with skipped := .localControl }
  else if x.state = .closed then s
  else sendClose d s

/-- R116: the zone enters CLOSING. -/
def enterClosing (z : ZoneId) (s : State) : State :=
  let s := orderDoorHold z false s
  let s := s.modZone z fun d => { d with state := .closing, remaining := 0, awaitingClear := false }
  let s := (members s z).foldl (fun s d => closingDoor z d s) s
  judgeCloseEnd z s

/-- R114: the countdown has reached 0. -/
def countdownOver (z : ZoneId) (s : State) : State :=
  let d := s.zoneDyn.get z
  if d.cause = .fire ∨ (s.zones.get z).clearRequired = false ∨ d.clear = true then enterClosing z s
  else s.modZone z fun d => { d with remaining := 0, awaitingClear := true }

/-- R114: the zone enters COUNTDOWN; a warning time of 0 ends it as it begins. -/
def enterCountdown (z : ZoneId) (s : State) : State :=
  let cfg := s.zones.get z
  let warn := if (s.zoneDyn.get z).cause = .fire then cfg.fireWarn else cfg.routineWarn
  let due := s.inSec 1
  let s := s.modZone z fun d =>
    { d with
      state := .countdown, remaining := warn, secondDue := due, awaitingClear := false
      callRef := none, callWait := .stopped }
  if warn = 0 then countdownOver z s else s

/-- R113: a notice for the zone's call reference ends its wait in CALLING; every other notice is taken without
effect. -/
def zoneNotice (z : ZoneId) (ref : CallRef) (complete : Bool) (s : State) : State :=
  let d := s.zoneDyn.get z
  if d.state = .calling ∧ d.callRef = some ref then
    let s := s.modZone z fun d => { d with callRef := none, callWait := .stopped }
    enterCountdown z (if complete then s else raisePartial z none 1 s)
  else s

/-- R109: the clear flag is set; a wait with awaiting-clear ends. -/
def setClear (z : ZoneId) (s : State) : State :=
  let d := s.zoneDyn.get z
  if d.clear then s
  else
    let s := s.modZone z fun d => { d with clear := true }
    if d.state = .countdown ∧ d.awaitingClear = true then enterClosing z s else s

/-- Every member door with the command given has its motion ended and takes its derived state (R108, R112, R119). -/
def cancelMotions (z : ZoneId) (cmd : DoorCommand) (s : State) : State :=
  (members s z).foldl (fun s d => if (s.doorDyn.get d).command = cmd then settleDoor d s else s) s

/-- R108: a fire flag set in OPENING abandons the open procedure. -/
def abandonOpening (z : ZoneId) (s : State) : State :=
  if (s.zoneDyn.get z).state = .opening then
    enterRest z (releaseMembers z (cancelMotions z .open s))
  else s

end Sys2Proof.Machine
end

