-- ==== Sys2Proof/Machine/Arbiter.lean ====
section
/-! DEFINITION. The Call Arbiter: the Call Queue, the zone lines, the arbitration pass, the amplifier handshake,
repetition, completion, cancellation and notices (R125 to R139). -/

namespace Sys2Proof.Machine

/-! ## Notices (R137) -/

/-- The notices that end a record (R137). -/
inductive Notice where
  | complete | incomplete | cancelled | evicted
deriving DecidableEq, Repr

/-- R137: a notice is given to the origin of the record removed. -/
def notify (c : CallRecord) (n : Notice) (s : State) : State :=
  match c.origin with
  | .zone z => zoneNotice z ⟨c.message, c.stamp⟩ (n = .complete) s
  | .ramp r => rampNotice r ⟨c.message, c.stamp⟩ s
  | .event _ | .alarm | .bridge => s

/-- The record of an arrival stamp leaves the queue. -/
def removeCall (k : Nat) (s : State) : State := { s with calls := s.calls.filter fun c => c.stamp ≠ k }

/-- Every line that carries the call stops carrying it. -/
def dropLines (k : Nat) (s : State) : State :=
  (carriedBy s k).foldl (fun s z => s.modZoneLine z fun l => { l with carried := none }) s

/-- R136: a call completes; its lines are given up, its record removed, its origin told. -/
def completeCall (k : Nat) (s : State) : State :=
  match s.call? k with
  | none => s
  | some c =>
    let n := if c.incomplete then Notice.incomplete else Notice.complete
    notify c n (removeCall k (dropLines k s))

/-! ## Zone lines (R128, R131 to R134) -/

/-- STOP is sent to the amplifier of a line. -/
def sendStop (z : ZoneId) (s : State) : State := jobCommand? (amplifier s z) [verbStop] s

/-- The amplifier of a line is released (R128). -/
def releaseAmplifier (z : ZoneId) (s : State) : State := release? (amplifier s z) (.line z) s

/-- The line's timers stop. -/
def ZoneLine.timersStopped (l : ZoneLine) : ZoneLine :=
  { l with startTimer := .stopped, durationTimer := .stopped, stopTimer := .stopped }

/-- R131, R138: a STARTING or PLAYING line is sent STOP and passes to STOPPING for at most 2 s; any other line only
has its start and duration timers stopped. -/
def stopLine (z : ZoneId) (s : State) : State :=
  match (s.zoneLines.get z).state with
  | .starting | .playing =>
    let due := s.inSec 2
    let s := s.modZoneLine z fun l => { l.timersStopped with state := .stopping, stopTimer := .running due }
    sendStop z s
  | _ => s.modZoneLine z fun l => { l with startTimer := .stopped, durationTimer := .stopped }

/-- The causes of a line failure with their details (R134). -/
inductive LineFault where
  | startLimit | duration | lineFault | silent | claim
deriving DecidableEq, Repr

/-- The detail of the line fault code (R134). -/
def LineFault.detail : LineFault → Nat
  | .startLimit => 1
  | .duration => 2
  | .lineFault => 3
  | .silent => 4
  | .claim => 5

/-- The zone leaves the call's zone set and the call is incomplete (R129, R130, R134). -/
def dropZone (k : Nat) (z : ZoneId) (s : State) : State :=
  s.modCall k fun c => { c with zones := c.zones.filter (· ≠ z), incomplete := true }

/-- R134: a line that is not FAULT fails: STOP where it was STARTING or PLAYING, its timers stop, its amplifier is
released, the zone leaves the carried call, and the line fault code is raised. How the call goes on is `refreshCall`'s. -/
def failLine (z : ZoneId) (cause : LineFault) (s : State) : State :=
  let l := s.zoneLines.get z
  if l.state = .fault then s
  else
    let s := if l.state = .starting ∨ l.state = .playing then sendStop z s else s
    let s := s.modZoneLine z fun l => { l.timersStopped with state := .fault, carried := none }
    let s := releaseAmplifier z s
    let s :=
      match l.carried with
      | none => s
      | some k => dropZone k z s
    raiseInternal s.record.lineFaultCode (amplifier s z) (some z) (BitVec.ofNat 16 cause.detail) s

/-! ## Playing (R130 step 4, R136) -/

/-- PLAY on one line: the amplifier is claimed and sent PLAY, the line STARTING for at most 2 s; a refused claim fails
the line with cause CLAIM. -/
def playLine (c : CallRecord) (z : ZoneId) (s : State) : State :=
  match amplifier s z with
  | none => failLine z .claim s
  | some a =>
    let q := claim a (.line z) s
    if q.1 then
      let due := s.inSec 2
      let s := q.2.modZoneLine z fun l => { l.timersStopped with state := .starting, startTimer := .running due }
      jobCommand a (playPayload c.message (s.messages.get c.message).chime) s
    else failLine z .claim q.2

/-- R130 step 4: when every line the call carries is FREE, and it carries one, it claims each amplifier and sends PLAY
to each in order of zone; otherwise it waits. A call left without a zone completes. -/
def tryPlay (k : Nat) (s : State) : State :=
  match s.call? k with
  | none => s
  | some c =>
    let zs := carriedBy s k
    if zs ≠ [] ∧ zs.all (fun z => (s.zoneLines.get z).state = .free) = true then
      let s := zs.foldl (fun s z => playLine c z s) s
      let started := (carriedBy s k).any fun z => (s.zoneLines.get z).state = .starting
      let s := s.modCall k fun c => { c with sent := started }
      match s.call? k with
      | none => s
      | some c => if c.zones = [] then completeCall k s else s
    else s

/-- A call becomes STARTING with PLAY not yet sent, and sends it when it can. -/
def restartCall (k : Nat) (s : State) : State :=
  tryPlay k (s.modCall k fun c => { c with state := .starting, sent := false, gapTimer := .stopped })

/-- R136: a repetition has ended. -/
def endRepetition (k : Nat) (s : State) : State :=
  match s.call? k with
  | none => s
  | some c =>
    let left := if c.repeats = 0 then c.left else c.left - 1
    let s := s.modCall k fun c => { c with left := left }
    if c.repeats ≠ 0 ∧ left = 0 then completeCall k s
    else
      let gap := (s.messages.get c.message).repeatGap
      if gap = 0 then restartCall k s
      else
        let due := s.inSec gap
        s.modCall k fun c => { c with state := .gap, sent := false, gapTimer := .running due }

/-- R125, R134, R136: the state of a call after one of its lines has changed. DESIGN CHOICE, log entry 34: a call that
has sent PLAY and has no line STARTING or PLAYING ends its repetition as R136 states it, also while a line added by a
merge is STOPPING, although R134 judges a STARTING call only when no line of it is. -/
def refreshCall (k : Nat) (s : State) : State :=
  match s.call? k with
  | none => s
  | some c =>
    let zs := carriedBy s k
    let anyLine (st : ZoneLineState) : Bool := zs.any fun z => (s.zoneLines.get z).state = st
    if c.zones = [] then completeCall k s
    else
      match c.state with
      | .waiting | .gap => s
      | .stopping =>
        if anyLine .stopping then s else s.modCall k fun c => { c with state := .waiting }
      | .starting | .playing =>
        if !c.sent then tryPlay k s
        else if anyLine .starting then s.modCall k fun c => { c with state := .starting }
        else if anyLine .playing then s.modCall k fun c => { c with state := .playing }
        else endRepetition k s

/-! ## The arbitration pass (R129 to R131) -/

/-- The priority of the call a line carries. -/
def carriedPriority (s : State) (z : ZoneId) : Option Nat :=
  match (s.zoneLines.get z).carried with
  | none => none
  | some k => (s.call? k).map (·.priority)

/-- R129: the zone is available to a call of the priority given. -/
def isAvailable (s : State) (reserved : List ZoneId) (priority : Nat) (z : ZoneId) : Bool :=
  !reserved.contains z && decide ((s.zoneLines.get z).state ≠ .fault) &&
    match carriedPriority s z with
    | none => true
    | some p => decide (p < priority)

/-- R131: the call `k` is preempted; its lines of the zones `wanted` go to the call `winner`. DESIGN CHOICE, log entry
25: STOP is sent to its lines in order of zone, an order the manual gives for PLAY only. -/
def preemptCall (k : Nat) (wanted : List ZoneId) (winner : Nat) (s : State) : State :=
  let mine := carriedBy s k
  let s := s.modCall k fun c => { c with gapTimer := .stopped, preempted := true, sent := false }
  let s := mine.foldl (fun s z => stopLine z s) s
  let s := mine.foldl
    (fun s z =>
      if wanted.contains z then s.modZoneLine z fun l => { l with carried := some winner }
      else if (s.zoneLines.get z).state = .free then s.modZoneLine z fun l => { l with carried := none }
      else s)
    s
  let st := if (carriedBy s k).isEmpty then CallState.waiting else CallState.stopping
  s.modCall k fun c => { c with state := st }

/-- The lines of the zones `wanted` go to the call `winner`, as they stand; every call that carries one is preempted
(R130 step 2). DESIGN CHOICE, log entry 36: several such calls are preempted in order of the lowest wanted zone that
each carries. -/
def takeLines (wanted : List ZoneId) (winner : Nat) (s : State) : State :=
  wanted.foldl
    (fun s z =>
      match (s.zoneLines.get z).carried with
      | none => s.modZoneLine z fun l => { l with carried := some winner }
      | some k => if k = winner then s else preemptCall k wanted winner s)
    s

/-- The zones of a set whose lines are not FAULT. -/
def soundZones (s : State) (zones : List ZoneId) : List ZoneId :=
  zones.filter fun z => (s.zoneLines.get z).state ≠ .fault

/-- R130: the zones of the call whose lines are FAULT leave its zone set. -/
def dropFaultZones (c : CallRecord) (s : State) : State :=
  let sound := soundZones s c.zones
  if sound = c.zones then s
  else s.modCall c.stamp fun x => { x with zones := sound, incomplete := true }

/-- R130: the call starts. -/
def startCall (c : CallRecord) (s : State) : State :=
  let wanted := soundZones s c.zones
  let s := dropFaultZones c s
  if wanted = [] then completeCall c.stamp s
  else
    let s := takeLines wanted c.stamp s
    restartCall c.stamp s

/-- R129: the zones of a running call that it does not carry: a FAULT one leaves the set, an available one is taken,
any other is reserved. DESIGN CHOICE (log entry 43): a zone of its set that a higher WAITING call reserves is not
taken, not even when the growth preempts the call that carries its line, though R131 can be read to give it. -/
def growCall (c : CallRecord) (reserved : List ZoneId) (s : State) : List ZoneId × State :=
  let missing := c.zones.filter fun z => (s.zoneLines.get z).carried ≠ some c.stamp
  let s1 := missing.foldl
    (fun s z => if (s.zoneLines.get z).state = .fault then dropZone c.stamp z s else s) s
  let sound := missing.filter fun z => (s.zoneLines.get z).state ≠ .fault
  let taken := sound.filter (isAvailable s reserved c.priority)
  let blocked := sound.filter fun z => !isAvailable s reserved c.priority z
  let s2 := takeLines taken c.stamp s1
  if missing = [] then (reserved, s)
  else (reserved ++ blocked, refreshCall c.stamp s2)

/-- R129: one record of the walk, with the zones reserved so far. -/
def judgeCall (k : Nat) (reserved : List ZoneId) (s : State) : List ZoneId × State :=
  match s.call? k with
  | none => (reserved, s)
  | some c =>
    match c.state with
    | .waiting =>
      let sound := soundZones s c.zones
      if sound.all (isAvailable s reserved c.priority) then (reserved, startCall c s)
      else (reserved ++ sound, s)
    | .starting | .playing | .gap => growCall c reserved s
    | .stopping => (reserved, s)

/-- R129: one arbitration pass, walking the queue from the front. -/
def onePass (s : State) : State :=
  ((s.calls.map (·.stamp)).foldl (fun (x : List ZoneId × State) k => judgeCall k x.1 x.2) ([], s)).2

/-- The number of FAULT lines. -/
def faultLines (s : State) : Nat := (List.finRange 8).countP fun z => (s.zoneLines.get z).state = .fault

/-- R129: passes are run until one neither removes a record nor fails a line. -/
def arbitrateFor : Nat → State → State
  | 0, s => s
  | n + 1, s =>
    let t := onePass s
    if t.calls.length = s.calls.length ∧ faultLines t = faultLines s then t else arbitrateFor n t

/-- R129: the arbitration pass. Each further pass follows the removal of one of at most 16 records or the failure of
one of 8 lines, so 32 passes are never used up. -/
def arbitrate (s : State) : State := arbitrateFor 32 s

/-! ## Requests (R126, R127) -/

/-- A request for a call (R126). -/
structure CallRequest where
  origin : CallOrigin
  message : MsgId
  zones : List ZoneId
  priority : Nat
  repeats : Nat
deriving DecidableEq, Repr

/-- What becomes of a request (R126, R127): the arrival stamp is that of the record it made or merged into. -/
inductive CallAnswer where
  | queued (stamp : Nat)
  | merged (stamp : Nat)
  | evicted (stamp : Nat) (old : CallRecord)
  | notInUse
  | full
deriving DecidableEq, Repr

/-- The record an accepted request stands in. -/
def CallAnswer.stamp? : CallAnswer → Option Nat
  | .queued k | .merged k | .evicted k _ => some k
  | .notInUse | .full => none

/-- R126: the queue is kept in order of priority, highest first, then of arrival. -/
def insertCall (c : CallRecord) : List CallRecord → List CallRecord
  | [] => [c]
  | x :: rest => if x.priority < c.priority then c :: x :: rest else x :: insertCall c rest

/-- R126 step 2: the greater of two repeats, where 0 counts as greater than any other value. -/
def maxRepeats (a b : Nat) : Nat := if a = 0 ∨ b = 0 then 0 else max a b

/-- R126 step 2: the record after a request has merged into it. -/
def mergeInto (q : CallRequest) (c : CallRecord) : CallRecord :=
  let r := maxRepeats c.repeats q.repeats
  { c with
    zones := zoneUnion c.zones q.zones
    repeats := r
    left := if c.repeats ≠ 0 ∧ r ≠ 0 then c.left + (r - c.repeats) else c.left }

/-- R125: a new record. -/
def newCall (q : CallRequest) (stamp : Nat) : CallRecord where
  origin := q.origin
  message := q.message
  zones := q.zones
  priority := q.priority
  repeats := q.repeats
  left := q.repeats
  stamp := stamp
  state := .waiting
  incomplete := false
  preempted := false
  sent := false
  gapTimer := .stopped

/-- The request enters the queue as a new record. -/
def enterCall (q : CallRequest) (s : State) : State :=
  { s with calls := insertCall (newCall q s.nextStamp) s.calls, nextStamp := s.nextStamp + 1 }

/-- R127: of two WAITING records, the one evicted first: the lower priority, then the later arrival. -/
def evictedFirst (a b : CallRecord) : CallRecord :=
  if b.priority < a.priority ∨ (b.priority = a.priority ∧ a.stamp < b.stamp) then b else a

/-- R127: the WAITING record that a full queue would evict: of the lowest priority, the latest arrival. -/
def evictable (s : State) : Option CallRecord :=
  match s.calls.filter (·.state = .waiting) with
  | [] => none
  | c :: rest => some (rest.foldl evictedFirst c)

/-- R126, R127: a request is judged. The arbitration pass that follows an acceptance is the caller's, which first takes
the record as its call reference. -/
def requestCall (q : CallRequest) (s : State) : CallAnswer × State :=
  if !(s.messages.get q.message).inUse then (.notInUse, s)
  else
    match s.calls.find? fun c => c.origin = q.origin && c.message = q.message with
    | some c => (.merged c.stamp, s.modCall c.stamp (mergeInto q))
    | none =>
      if s.calls.length < 16 then (.queued s.nextStamp, enterCall q s)
      else
        match evictable s with
        | none => (.full, s)
        | some old =>
          if old.priority < q.priority then
            (.evicted s.nextStamp old, enterCall q (notify old .evicted (removeCall old.stamp s)))
          else (.full, s)

/-- A request whose record no block awaits, with its arbitration pass. -/
def postCall (q : CallRequest) (s : State) : CallAnswer × State :=
  let x := requestCall q s
  match x.1.stamp? with
  | none => x
  | some _ => (x.1, arbitrate x.2)

/-- R138: the record of an origin and message is cancelled; answers whether there was one. DESIGN CHOICE, log entry 25:
STOP is sent to its lines in order of zone. -/
def cancelCall (o : CallOrigin) (m : MsgId) (s : State) : Bool × State :=
  match s.calls.find? fun c => c.origin = o && c.message = m with
  | none => (false, s)
  | some c =>
    let s := (carriedBy s c.stamp).foldl (fun s z => stopLine z s) s
    let s := removeCall c.stamp (dropLines c.stamp s)
    (true, arbitrate (notify c .cancelled s))

/-! ## What happens on a line (R132 to R135) -/

/-- The call a line carries goes on after the line has changed, and a pass follows. -/
def afterLine (carried : Option Nat) (s : State) : State :=
  match carried with
  | none => arbitrate s
  | some k => arbitrate (refreshCall k s)

/-- R134: a line fails, its call goes on, and a pass follows. -/
def lineFails (z : ZoneId) (cause : LineFault) (s : State) : State :=
  let l := s.zoneLines.get z
  if l.state = .fault then s else afterLine l.carried (failLine z cause s)

/-- R132: the PLAYING point of the line's amplifier rises. -/
def playingRises (z : ZoneId) (s : State) : State :=
  let l := s.zoneLines.get z
  if l.state = .starting then
    let limit :=
      match l.carried.bind s.call? with
      | none => 0
      | some c => (s.messages.get c.message).durationLimit
    let due := s.inSec limit
    let s := s.modZoneLine z fun l => { l.timersStopped with state := .playing, durationTimer := .running due }
    afterLine l.carried s
  else s

/-- R133: a STOPPING line passes to FREE; a line that carried a preempted call stops carrying it. -/
def stoppingEnds (z : ZoneId) (s : State) : State :=
  let l := s.zoneLines.get z
  let s := releaseAmplifier z (s.modZoneLine z fun l => { l.timersStopped with state := .free })
  let preempted : Bool :=
    match l.carried.bind s.call? with
    | none => false
    | some c => decide (c.state = .stopping)
  afterLine l.carried (if preempted then s.modZoneLine z fun l => { l with carried := none } else s)

/-- R132, R133: the PLAYING point of the line's amplifier falls. -/
def playingFalls (z : ZoneId) (s : State) : State :=
  let l := s.zoneLines.get z
  match l.state with
  | .playing =>
    afterLine l.carried (releaseAmplifier z (s.modZoneLine z fun l => { l.timersStopped with state := .free }))
  | .stopping => stoppingEnds z s
  | _ => s

/-- R135: the line is FAULT and its amplifier is healthy. -/
def canRecover (s : State) (z : ZoneId) : Bool :=
  decide ((s.zoneLines.get z).state = .fault) &&
    match amplifier s z with
    | none => false
    | some a => isHeard s a && !pointOn s a 1 && !pointOn s a 0

/-- R135: a FAULT line with a healthy amplifier passes to FREE, carrying no call, and a pass follows. -/
def recoverLine (z : ZoneId) (s : State) : State :=
  if canRecover s z then
    arbitrate (s.modZoneLine z fun l => { l.timersStopped with state := .free, carried := none })
  else s

/-- R132 to R135: the Classifier reports changed role points of the line's amplifier, as one report. -/
def amplifierReport (z : ZoneId) (old new : Word16) (s : State) : State :=
  let rose (p : Nat) : Bool := !old.getLsbD p && new.getLsbD p
  let fell (p : Nat) : Bool := old.getLsbD p && !new.getLsbD p
  let s := if rose 1 then lineFails z .lineFault s else s
  let s := if rose 0 then playingRises z s else if fell 0 then playingFalls z s else s
  recoverLine z s

/-- R134, R135: the line's amplifier passes between HEARD and SILENT. -/
def amplifierSupervision (z : ZoneId) (silent : Bool) (s : State) : State :=
  if silent then lineFails z .silent s else recoverLine z s

/-- R142: a zone line is set afresh by its amplifier's health. -/
def freshLine (s : State) (z : ZoneId) : ZoneLine :=
  let st : ZoneLineState :=
    match amplifier s z with
    | none => .fault
    | some a => if isHeard s a && !pointOn s a 1 then .free else .fault
  { state := st, carried := none, startTimer := .stopped, durationTimer := .stopped, stopTimer := .stopped }

end Sys2Proof.Machine
end

