-- ==== Sys2Proof/Machine/Ramps.lean ====
section
/-! DEFINITION. The ramp requests that start or end a motion, and the clearance call (R149, R154, R155, R160 to R162). -/

namespace Sys2Proof.Machine

/-- R155: the clearance call of a ramp. -/
def clearanceCall (s : State) (r : RampId) : CallRequest :=
  let cfg := s.ramps.get r
  { origin := .ramp r
    message := cfg.clearanceMsg
    zones := [cfg.guardZone]
    priority := cfg.clearancePriority
    repeats := 1 }

/-- R155: the ramp enters CLEARING and requests its clearance call; a refused call takes it to MOVING at once. -/
def enterClearing (r : RampId) (s : State) : State :=
  let cfg := s.ramps.get r
  let s := s.modRamp r fun d => { d with state := .clearing, vset := 0 }
  let q := requestCall (clearanceCall s r) s
  match q.1.stamp? with
  | some k =>
    let due := q.2.inSec (s.zones.get cfg.guardZone).callWait
    arbitrate (q.2.modRamp r fun d => { d with callRef := some ⟨cfg.clearanceMsg, k⟩, clearance := .running due })
  | none => enterMoving r q.2

/-- R155: the clearance wait timer of a ramp expires: the call is cancelled and the ramp enters MOVING. -/
def clearanceOver (r : RampId) (s : State) : State :=
  let d := s.rampDyn.get r
  if d.state = .clearing ∧ d.clearance.isRunning = true then
    let s := s.modRamp r fun d => { d with callRef := none, clearance := .stopped }
    let s :=
      match d.callRef with
      | none => s
      | some ref => (cancelCall (.ramp r) ref.message s).2
    enterMoving r s
  else s

/-- The drive of a ramp is claimed (R32); a ramp without a drive has no claim granted. -/
def claimDrive (r : RampId) (s : State) : Bool × State :=
  match drive s r with
  | none => (false, s)
  | some a => claim a (.ramp r) s

/-- R162, R149: DISABLE is queued, the enable output ordered de-energised, and the record of origin RAMP(r) with the
clearance message cancelled when one is queued. -/
def disarmRamp (r : RampId) (s : State) : State :=
  let s := orderEnable r false (sendDisable r s)
  (cancelCall (.ramp r) (s.ramps.get r).clearanceMsg s).2

/-- R154: a RAMP MOVE is judged by the ramp's state. -/
def rampMoveJudged (r : RampId) (target : Int) (s : State) : Except Reason (RampNote × State) :=
  let d := s.rampDyn.get r
  let t := clampTarget (s.ramps.get r).pmax target
  let aim (s : State) : State := s.modRamp r fun d => { d with t := some t }
  match d.state with
  | .idle | .held =>
    if permissive s r then
      let q := claimDrive r s
      if q.1 then .ok (.clearing, enterClearing r (aim q.2)) else .error .busy
    else .error .state
  | .clearing => .ok (.targetReplaced, aim s)
  | .moving => .ok (.retargeted, aim s)
  | .unreferenced | .homing | .fault => .error .state

/-- The drive's STOWED point is active. -/
def isStowed (s : State) (r : RampId) : Bool :=
  match drive s r with
  | none => false
  | some a => pointOn s a 1

/-- R149: the ramp is referenced at once at STOWED. -/
def referenceAtStowed (r : RampId) (s : State) : State :=
  let s := if (s.rampDyn.get r).state = .held then disarmRamp r s else s
  let s := s.modRamp r fun d => { d with state := .idle, p := 0, referenced := true, t := none }
  raiseRamp r (s.ramps.get r).arrivedCode 0 (releaseDrive r s)

/-- R149: homing starts, the drive claimed. -/
def startHoming (r : RampId) (s : State) : State :=
  let cfg := s.ramps.get r
  let s := s.modRamp r fun d =>
    { d with
      referenced := false, t := none, overspeed := 0, direction := 0, stall := 0
      vset := -(cfg.vcreep : Int), edgeSeen := false }
  let s := sendEnable r (orderEnable r true s)
  let s := sendSpeed r (speedOut cfg.vmax (-(cfg.vcreep : Int))) s
  let due := s.inMs cfg.period
  s.modRamp r fun d => { d with state := .homing, control := .running due }

/-- R149: a RAMP HOME is judged by the ramp's state. -/
def rampHomeJudged (r : RampId) (s : State) : Except Reason (RampNote × State) :=
  match (s.rampDyn.get r).state with
  | .unreferenced | .idle | .held =>
    if permissive s r then
      if isStowed s r then .ok (.stowed, referenceAtStowed r s)
      else
        let q := claimDrive r s
        if q.1 then .ok (.homing, startHoming r q.2) else .error .busy
    else .error .state
  | .homing | .clearing | .moving | .fault => .error .state

/-- R162: a RAMP RELEASE that is taken. -/
def releaseRamp (r : RampId) (s : State) : State :=
  let s := releaseDrive r (disarmRamp r s)
  s.modRamp r fun d =>
    { d with state := if d.referenced then .idle else .unreferenced, fault := none }

/-- R162: a RAMP RELEASE is judged by the ramp's state and, from FAULT, by its condition (R160). -/
def rampReleaseJudged (r : RampId) (s : State) : Except Reason State :=
  let d := s.rampDyn.get r
  match d.state with
  | .held => .ok (releaseRamp r s)
  | .fault =>
    let gone : Bool :=
      match d.fault with
      | none => true
      | some reason => conditionGone s r reason
    if gone then .ok (releaseRamp r s) else .error .state
  | _ => .error .state

/-- R161: a RAMP_HOLD dispatch holds one ramp or every ramp with cause 8. -/
def rampHoldOffer (target : Option RampId) (s : State) : State :=
  match target with
  | some r => holdRamp r 8 s
  | none => holdAll 8 s

end Sys2Proof.Machine
end

