-- ==== Sys2Proof/Machine/Zones.lean ====
section
/-! DEFINITION. Zone procedures: closing, upgrading, opening, the fire flag, door reports, entry to RUN (R101 to R121). -/

namespace Sys2Proof.Machine

/-- The call of a zone: zone set {z}, 1 repeat (R102, R112, R120). -/
def zoneCall (z : ZoneId) (m : MsgId) (priority : Nat) : CallRequest where
  origin := .zone z
  message := m
  zones := [z]
  priority := priority
  repeats := 1

/-- R112: the call of a zone in CALLING is requested by its cause and awaited; a refused call raises the partial code
and ends the wait at once. -/
def awaitCall (z : ZoneId) (s : State) : State :=
  let cfg := s.zones.get z
  let fire : Bool := decide ((s.zoneDyn.get z).cause = .fire)
  let msg := if fire then cfg.fireMsg else cfg.warningMsg
  let priority := if fire then cfg.firePriority else cfg.routinePriority
  let q := requestCall (zoneCall z msg priority) s
  match q.1.stamp? with
  | some k =>
    let due := q.2.inSec cfg.callWait
    arbitrate (q.2.modZone z fun d => { d with callRef := some ⟨msg, k⟩, callWait := .running due })
  | none => enterCountdown z (raisePartial z none 1 q.2)

/-- R112: the zone enters CALLING, its clear flag cleared, and requests its call. -/
def enterCalling (z : ZoneId) (s : State) : State :=
  awaitCall z (s.modZone z fun d => { d with state := .calling, clear := false })

/-- R112: a close is taken from a rest state. -/
def beginClose (z : ZoneId) (cause : Cause) (s : State) : State :=
  let s := s.modZone z fun d => { d with cause := cause }
  enterCalling z (claimMembers z s)

/-- R112: an open is reversed into a close, which keeps its claims. -/
def reverseOpening (z : ZoneId) (cause : Cause) (s : State) : State :=
  let s := s.modZone z fun d => { d with cause := cause }
  enterCalling z (cancelMotions z .open s)

/-- The zone gives up its call reference and cancels the call, whose notice is then without effect (R113, R118, R119). -/
def abandonCall (z : ZoneId) (s : State) : State :=
  match (s.zoneDyn.get z).callRef with
  | none => s.modZone z fun d => { d with callWait := .stopped }
  | some ref =>
    let s := s.modZone z fun d => { d with callRef := none, callWait := .stopped }
    (cancelCall (.zone z) ref.message s).2

/-- R118: what an upgrade in CLOSING does to one member door. -/
def upgradeDoor (d : DoorId) (s : State) : State :=
  let x := s.doorDyn.get d
  let send : Bool := decide (x.state ≠ .closed) && decide (x.command = .none) && decide (x.skipped ≠ .claim)
  let s := if x.skipped = .localControl then s.modDoor d fun x => { x with skipped := .no } else s
  if send then sendClose d s else s

/-- R118: a routine close is upgraded to a fire close. -/
def upgradeClose (z : ZoneId) (s : State) : State :=
  let s := s.modZone z fun d => { d with cause := .fire }
  match (s.zoneDyn.get z).state with
  | .calling => awaitCall z (abandonCall z s)
  | .countdown =>
    let left := min (s.zoneDyn.get z).remaining (s.zones.get z).fireWarn
    let s := s.modZone z fun d => { d with remaining := left, awaitingClear := false }
    if left = 0 then enterClosing z s else s
  | .closing => (members s z).foldl (fun s d => upgradeDoor d s) s
  | _ => s

/-- R111: a ZONE_CLOSE is judged; answers whether it is taken. -/
def zoneCloseJudged (z : ZoneId) (cause : CloseCause) (s : State) : Bool × State :=
  let c : Cause :=
    match cause with
    | .routine => .routine
    | .fire => .fire
  let d := s.zoneDyn.get z
  match d.state with
  | .opened | .partly | .closed => (true, beginClose z c s)
  | .opening => (true, reverseOpening z c s)
  | .calling | .countdown | .closing =>
    if cause = .fire ∧ d.cause = .routine then (true, upgradeClose z s) else (false, s)

/-- R120: the end of an open procedure. DESIGN CHOICE, log entry 36: the open message's call is requested, with the
pass that follows, before the partial code is raised, in the order of the rule's text, which states none. -/
def endOpen (z : ZoneId) (s : State) : State :=
  let cfg := s.zones.get z
  let s := enterRest z (releaseMembers z s)
  let s := s.modZone z fun d => { d with clear := false }
  let s := (postCall (zoneCall z cfg.openMsg cfg.routinePriority) s).2
  if (s.zoneDyn.get z).state = .opened then s else raisePartial z (firstNot s z .opened) 3 s

/-- R120: the open procedure ends when the zone is in OPENING and no member door has command OPEN. -/
def judgeOpenEnd (z : ZoneId) (s : State) : State :=
  if (s.zoneDyn.get z).state = .opening ∧
      (members s z).all (fun d => (s.doorDyn.get d).command ≠ .open) = true then
    endOpen z s
  else s

/-- R117, R120: a door's command has become NONE; its zone's procedure may end. -/
def judgeEnd (z : ZoneId) (s : State) : State := judgeOpenEnd z (judgeCloseEnd z s)

/-- R120: the zone enters OPENING with its doors claimed. -/
def enterOpening (z : ZoneId) (s : State) : State :=
  let s := s.modZone z fun d => { d with state := .opening, cause := .none, clear := false }
  let s := orderDoorHold z true s
  let s := (members s z).foldl
    (fun s d =>
      let x := s.doorDyn.get d
      if x.state ≠ .opened ∧ x.skipped ≠ .claim then sendOpen d s else s)
    s
  judgeOpenEnd z s

/-- R120: an open is taken from a rest state. -/
def beginOpen (z : ZoneId) (s : State) : State := enterOpening z (claimMembers z s)

/-- R119, R120: a routine close is cancelled and an open begins, keeping the claims. -/
def reverseClose (z : ZoneId) (s : State) : State :=
  let s := abandonCall z s
  let s := s.modZone z fun d => { d with remaining := 0, awaitingClear := false }
  let s := cancelMotions z .close s
  let s := (members s z).foldl
    (fun s d =>
      s.modDoor d fun x =>
        { x with obstructions := 0, warned := false, skipped := if x.skipped = .claim then .claim else .no })
    s
  enterOpening z s

/-- R119: a ZONE_OPEN is judged, as an offer answers it: taken, busy against a fire close, or refused. -/
def zoneOpenJudged (z : ZoneId) (s : State) : Answer × State :=
  let d := s.zoneDyn.get z
  if d.fire then (.refused, s)
  else
    match d.state with
    | .opened | .partly | .closed => (.taken, beginOpen z s)
    | .opening => (.refused, s)
    | .calling | .countdown | .closing =>
      if d.cause = .routine then (.taken, reverseClose z s) else (.busy, s)

/-! ## Fire (R106, R108) -/

/-- R106: the fire flag of a zone is set; answers nothing when it is set already. The attributes are those of the
zone's fire code (R105). -/
def setFire (z : ZoneId) (a : Attributes) (s : State) : State :=
  if (s.zoneDyn.get z).fire then s
  else
    let s := s.modZone z fun d => { d with fire := true }
    let s := orderDoorHold z false s
    let s := fireChanged z s
    let s :=
      match (s.zones.get z).fireCode with
      | none => s
      | some c => raiseCode ⟨c, a, false⟩ s
    abandonOpening z s

/-! ## Door reports (R100 to R103) -/

/-- R102: a closing door is obstructed. -/
def obstructDoor (d : DoorId) (s : State) : State :=
  let st := motionState s d .obstructed
  let due := s.inSec (s.doors.get d).retryInterval
  let warned := (s.doorDyn.get d).warned
  let z := doorZone s d
  let s := changeDoor d
    (fun x =>
      { x with
        state := st, closeTimer := .stopped, retryTimer := .running due
        obstructions := min 255 (x.obstructions + 1), warned := true })
    s
  if warned then s
  else
    let cfg := s.zones.get z
    (postCall (zoneCall z cfg.warningMsg cfg.routinePriority) s).2

/-- R101, R102: changed role points reach a door with a command in force. -/
def doorMotionReport (d : DoorId) (old new : Word16) (s : State) : State :=
  let rose (p : Nat) : Bool := !old.getLsbD p && new.getLsbD p
  let x := s.doorDyn.get d
  let z := doorZone s d
  let reached (st : DoorState) : State :=
    let st := motionState s d st
    judgeEnd z (changeDoor d (·.atRest st false) s)
  if rose 4 then judgeEnd z (failDoor d s)
  else if x.command = .close ∧ rose 0 = true then reached .closed
  else if x.command = .open ∧ rose 1 = true then reached .opened
  else if x.command = .close ∧ rose 2 = true ∧ x.retryTimer = .stopped then obstructDoor d s
  else s

/-- R100: changed role points reach a door with no command in force; a held FAILED door takes its derived state only
when its CLOSED, OPEN or FAULT point has changed. -/
def doorRestReport (d : DoorId) (old new : Word16) (s : State) : State :=
  let changed (p : Nat) : Bool := old.getLsbD p != new.getLsbD p
  let x := s.doorDyn.get d
  if x.held && !(changed 0 || changed 1 || changed 4) then s
  else
    let st := derivedOf s d
    changeDoor d (fun x => { x with state := st, held := false }) s

/-- R100 to R102: the Classifier reports changed role points of a door's station, as one report. -/
def doorReport (d : DoorId) (old new : Word16) (s : State) : State :=
  if (s.doorDyn.get d).command = .none then doorRestReport d old new s else doorMotionReport d old new s

/-- R103: a door's station passes between HEARD and SILENT. -/
def doorSupervision (d : DoorId) (s : State) : State :=
  let x := s.doorDyn.get d
  match x.command with
  | .none =>
    let st := derivedOf s d
    changeDoor d (fun x => { x with state := st, held := false }) s
  | .close =>
    let st := motionState s d (if x.retryTimer.isRunning then .obstructed else .closing)
    changeDoor d (fun x => { x with state := st }) s
  | .open =>
    let st := motionState s d .opening
    changeDoor d (fun x => { x with state := st }) s

/-! ## Expiries (R101, R102, R113, R114) -/

/-- R101: the close-limit timer of a door expires. -/
def closeLimitOver (d : DoorId) (s : State) : State :=
  let x := s.doorDyn.get d
  if x.closeTimer.isRunning && decide (x.command ≠ .none) then judgeEnd (doorZone s d) (failDoor d s) else s

/-- R102: the retry timer of a door expires. -/
def retryOver (d : DoorId) (s : State) : State :=
  let x := s.doorDyn.get d
  let z := doorZone s d
  if x.retryTimer.isRunning && decide (x.command = .close) then
    if x.obstructions ≤ (s.doors.get d).retryLimit ∨ (s.zoneDyn.get z).cause = .fire then
      sendClose d (s.modDoor d fun x => { x with retryTimer := .stopped })
    else judgeEnd z (failDoor d s)
  else s

/-- R114: a zone's countdown reaches 0. -/
def countdownExpires (z : ZoneId) (s : State) : State :=
  let d := s.zoneDyn.get z
  if d.state = .countdown ∧ d.awaitingClear = false then countdownOver z s else s

/-- R113: a zone's call-wait timer expires. -/
def callWaitOver (z : ZoneId) (s : State) : State :=
  let d := s.zoneDyn.get z
  if d.state = .calling ∧ d.callWait.isRunning = true then
    enterCountdown z (raisePartial z none 1 (abandonCall z s))
  else s

/-! ## Entry to RUN (R121) -/

/-- R121: what the Zone Controller does on entry to RUN. -/
def zonesEnterRun (afterRestart : Bool) (s : State) : State :=
  let s := (List.finRange 24).foldl
    (fun s d =>
      if (doorStation s d).isSome ∧ (s.doorDyn.get d).command = .none then
        let st := derivedOf s d
        s.modDoor d fun x => { x with state := st, held := false }
      else s)
    s
  let s := (List.finRange 8).foldl (fun s z => refreshRest z s) s
  let wasSet := (List.finRange 8).filter fun z => (s.zoneDyn.get z).fire
  let s := (List.finRange 8).foldl
    (fun s z =>
      match burningDetector s z with
      | some a => setFire z ⟨.frame, some a, some z, 0⟩ s
      | none => s)
    s
  let s := wasSet.foldl (fun s z => raiseZone z (s.zones.get z).fireCode none 1 (fireChanged z s)) s
  if afterRestart then
    (List.finRange 8).foldl
      (fun s z =>
        let d := s.zoneDyn.get z
        if d.fire = false ∧ (d.state = .opened ∨ d.state = .partly) then orderDoorHold z true s else s)
      s
  else s

end Sys2Proof.Machine
end

