-- ==== Sys2Proof/Machine/EventController.lean ====
section
/-! DEFINITION. The Event Controller: acceptance, the two slots, offers and their answers, acknowledgement, overdue
records, the general alarm, AUTONOMOUS, withdrawals, and the judgement that ends every command (R75 to R95). -/

namespace Sys2Proof.Machine

/-! ## Alerts (R77, R82) -/

/-- R82: a record as it is created, its ack timer started for the present ack limit. -/
def newRecord (c : Code) (level : Nat) (gate : Gate) (a : Attributes) (s : State) : AlertRecord where
  code := c
  level := level
  gate := gate
  attrs := a
  ackTimer := .running (s.inSec s.record.ackLimit)
  overdue := false

/-- An ALERT is queued URGENT on the Bridge Port and counted as an alert sent (R77, R80, R84, R88). -/
def sendAlert (c : Code) (level : Nat) (gate : Gate) (a : Attributes) (s : State) : State :=
  bumpGlobal ctrAlerts (sendTx .bridge .urgent (alertFrame c level gate a) s)

/-- The alert records are changed. -/
def State.modAlerts (s : State) (f : Alerts → Alerts) : State := { s with alerts := f s.alerts }

/-- R76: the stack is `stack` and AL is recomputed. -/
def Alerts.withStack (x : Alerts) (stack : List AlertRecord) : Alerts :=
  { x with stack := stack, al := topLevel stack }

/-- The attributes of a general-alarm alert: no station, no zone (R88). -/
def alarmAttrs (o : Origin) (detail : Word16) : Attributes := ⟨o, none, none, detail⟩

/-- The general-alarm items are changed. -/
def State.modGa (s : State) (f : GeneralAlarm → GeneralAlarm) : State := { s with ga := f s.ga }

/-! ## Acceptance (R77, R78, R84, R88) -/

/-- R88: the general-alarm alert owed is sent; remembered becomes no and the slot OUTSTANDING. -/
def acceptAlarm (o : Origin) (detail : Word16) (s : State) : State :=
  let a := alarmAttrs o detail
  let r := newRecord 0 16 .hold a s
  let s := s.modGa fun g => { g with remembered := none }
  let s := sendAlert 0 16 .hold a s
  s.modAlerts fun x => { x with gaSlot := some r }

/-- R84: code 2 is accepted into the escalation slot. DESIGN CHOICE, log entry 41: its latch is cleared before its
ALERT is counted as sent. -/
def acceptEscalation (s : State) : State :=
  let a := (s.codes.get 2).attrs
  let r := newRecord 2 15 .hold a s
  let s := sendAlert 2 15 .hold a (clearLatch 2 s)
  s.modAlerts fun x => { x with escalation := some r }

/-- R77: the candidate has a place and a level above AL. -/
def canAccept (s : State) (c : Code) : Bool :=
  let e := s.vectors.get c
  decide (s.alerts.al < e.level) &&
    match e.gate with
    | .hold => decide (s.alerts.stack.length < 4)
    | .pass => decide (s.alerts.pass.length < 8)
    | .dispatch => false

/-- R77: the candidate is accepted. DESIGN CHOICE, log entry 41: its latch is cleared before its ALERT is counted as
sent. -/
def acceptCode (c : Code) (s : State) : State :=
  let e := s.vectors.get c
  let a := (s.codes.get c).attrs
  let r := newRecord c e.level e.gate a s
  let s := sendAlert c e.level e.gate a (clearLatch c s)
  s.modAlerts fun x =>
    if e.gate = .hold then x.withStack (x.stack ++ [r]) else { x with pass := x.pass ++ [r] }

/-- R78: the next acceptance of a judgement in RUN: the general-alarm slot, then the escalation slot, then the
candidate of R77; none when nothing can be accepted. -/
def nextAcceptance (s : State) : Option State :=
  if s.device ≠ .run ∨ bridgeHasPlace s = false then none
  else
    match s.alerts.gaSlot, s.ga.remembered with
    | none, some (o, detail) => some (acceptAlarm o detail s)
    | _, _ =>
      if s.alerts.escalation = none ∧ isPending s 2 = true then some (acceptEscalation s)
      else
        match candidate s with
        | none => none
        | some c => if canAccept s c then some (acceptCode c s) else none

/-- R77: acceptance goes on until nothing more can be accepted. Each acceptance fills one of the two slots, the four
stack places or the eight list places, so sixteen are never used up. -/
def acceptFor : Nat → State → State
  | 0, s => s
  | n + 1, s =>
    match nextAcceptance s with
    | none => s
    | some t => acceptFor n t

/-! ## Offers (R79, R80) -/

/-- R141: a call request's outcome as the answer to an offer. -/
def CallAnswer.toAnswer : CallAnswer → Answer
  | .queued _ | .merged _ | .evicted _ _ => .taken
  | .full => .busy
  | .notInUse => .refused

/-- R79: the target of a DISPATCH code is given the offer (R111, R119, R141, R161). -/
def offerTo (c : Code) (t : Target) (s : State) : Answer × State :=
  match t with
  | .zoneCloseRoutine z =>
    let q := zoneCloseJudged z .routine s
    (if q.1 then .taken else .refused, q.2)
  | .zoneCloseFire z =>
    let q := zoneCloseJudged z .fire s
    (if q.1 then .taken else .refused, q.2)
  | .zoneOpen z => zoneOpenJudged z s
  | .rampHold r => (.taken, rampHoldOffer r s)
  | .call m zones priority repeats =>
    let q := postCall ⟨.event c, m, zones, priority, repeats⟩ s
    (q.1.toAnswer, q.2)

/-- R80: the notice of an answered offer, sent when an URGENT place is free on a Bridge Port that is UP. -/
def sendNotice (c : Code) (refused : Bool) (s : State) : State :=
  let e := s.vectors.get c
  let a := (s.codes.get c).attrs
  if e.notify && bridgeHasPlace s then
    sendAlert c e.level .dispatch (if refused then { a with detail := 0xFFFF#16 } else a) s
  else s

/-- R80: the answer to the offer of code `c` is acted on. DESIGN CHOICE, log entry 35: a refused dispatch is counted
before its notice is counted as an alert sent. DESIGN CHOICE, log entry 41: the latch is cleared before the refused
dispatch, or the notice sent, is counted, so that a mark of that count that names `c` latches it anew (R166); the
rules give no order. -/
def actOnAnswer (c : Code) (ans : Answer) (s : State) : State :=
  match ans with
  | .busy => s.modCode c fun k => { k with answer := some .busy }
  | .taken => sendNotice c false (s.modCode c fun k => { k with latch := false, answer := some .taken })
  | .refused =>
    let s := s.modCode c fun k => { k with latch := false, answer := some .refused }
    sendNotice c true (bumpGlobal ctrRefused s)

/-- R79: code `c` is offered to the target of its entry and the answer acted on. -/
def offerCode (c : Code) (s : State) : State :=
  let q := offerTo c (s.vectors.get c).target s
  actOnAnswer c q.1 q.2

/-- R79: the pending DISPATCH codes are offered in order, as many as `n`. -/
def offerFor : Nat → State → State
  | 0, s => s
  | n + 1, s =>
    match nextOffer s with
    | none => s
    | some c => offerFor n (offerCode c s)

/-! ## The judgement (R78) -/

/-- Something waits to be accepted or offered. -/
def mustJudge (s : State) : Bool := (nextAcceptance s).isSome || (nextOffer s).isSome

/-- R78: one judgement: the acceptances, then the offers with their notices. -/
def judge (s : State) : State := offerFor 64 (acceptFor 16 s)

/-- Judgements are made until one leaves nothing to accept or offer, as many as `n` (log entry 5). -/
def settleFor : Nat → State → State
  | 0, s => s
  | n + 1, s => if mustJudge s then settleFor n (judge s) else s

/-- R78: the judgement that ends every command, repeated while what it starts gives it more to judge. -/
def settle (s : State) : State := settleFor 32 s

/-- R79: at a supervision expiry every code answered busy may be offered again. -/
def reofferBusy (s : State) : State :=
  { s with codes := s.codes.map fun k => if k.answer = some .busy then { k with answer := none } else k }

/-! ## Acknowledgement and overdue records (R81 to R85) -/

/-- Some record of the stack, the list or the general-alarm slot is overdue. -/
def anyOverdue (x : Alerts) : Bool :=
  x.stack.any (·.overdue) || x.pass.any (·.overdue) || x.gaSlot.any (·.overdue)

/-- R81: after the removal of a record, the latch of code 2 is cleared when no overdue record remains. -/
def afterRemoval (s : State) : State := if anyOverdue s.alerts then s else clearLatch 2 s

/-- The records of a list that are not of the code. -/
def without (c : Code) (l : List AlertRecord) : List AlertRecord := l.filter (·.code ≠ c)

/-- R81: an ACK of a code removes its outstanding record wherever it stands, or is stray. -/
def ackCode (c : Code) (s : State) : State :=
  if c.val = 0 then
    if s.alerts.gaSlot.isSome then afterRemoval (s.modAlerts fun x => { x with gaSlot := none })
    else bumpGlobal ctrStray s
  else if c.val = 2 then
    if s.alerts.escalation.isSome then s.modAlerts fun x => { x with escalation := none }
    else bumpGlobal ctrStray s
  else if s.alerts.stack.any (·.code = c) then
    afterRemoval (s.modAlerts fun x => x.withStack (without c x.stack))
  else if s.alerts.pass.any (·.code = c) then
    afterRemoval (s.modAlerts fun x => { x with pass := without c x.pass })
  else bumpGlobal ctrStray s

/-- R81: an ACK frame's code byte; a code above 63 is stray. -/
def ackByte (b : Byte) (s : State) : State :=
  match index? 64 b.toNat with
  | none => bumpGlobal ctrStray s
  | some c => ackCode c s

/-- The record of a code whose ack timer is RUNNING, outside the escalation slot (R82). -/
def timedRecord (s : State) (c : Code) : Option AlertRecord :=
  let here := fun r : AlertRecord => decide (r.code = c) && r.ackTimer.isRunning
  if c.val = 0 then s.alerts.gaSlot.filter here
  else
    match s.alerts.stack.find? here with
    | some r => some r
    | none => s.alerts.pass.find? here

/-- A record is marked overdue; its timer does not run again (R82). -/
def AlertRecord.expired (r : AlertRecord) : AlertRecord := { r with overdue := true, ackTimer := .stopped }

/-- The record of the code is marked overdue wherever it stands, outside the escalation slot. -/
def Alerts.markOverdue (x : Alerts) (c : Code) : Alerts :=
  let mark := fun r : AlertRecord => if r.code = c then r.expired else r
  { x with stack := x.stack.map mark, pass := x.pass.map mark, gaSlot := x.gaSlot.map mark }

/-- R82: the ack timer of the record of code `c` expires. DESIGN CHOICE, log entry 35: the overdue record is counted
before the latch of code 2 is set. -/
def ackTimerOver (c : Code) (s : State) : State :=
  match timedRecord s c with
  | none => s
  | some r =>
    let s := s.modAlerts (·.markOverdue c)
    setLatch 2 ⟨.internal, r.attrs.station, r.attrs.zone, BitVec.ofNat 16 c.val⟩ (bumpGlobal ctrOverdue s)

/-! ## AUTONOMOUS (R90, R91, R93) -/

/-- R91: a discarded record of code 1 or 3 to 63 whose entry has sense EDGE sets its code's latch again. -/
def repend (s : State) (r : AlertRecord) : State :=
  if (s.vectors.get r.code).sense = .edge then setLatch r.code r.attrs s else s

/-- R91: the records are discarded and the codes of EDGE sense pend again. -/
def discardRecords (s : State) : State :=
  let x := s.alerts
  let s := (x.stack ++ x.pass).foldl repend s
  let s :=
    match x.gaSlot, s.ga.remembered with
    | some r, none =>
      if s.ga.active then s.modGa fun g => { g with remembered := some (r.attrs.origin, r.attrs.detail) } else s
    | _, _ => s
  { clearLatch 2 s with alerts := Alerts.empty }

/-- R90, R91: the part enters AUTONOMOUS from RUN; the ramps in motion are held. DESIGN CHOICE, log entry 36: the
records are discarded before the ramps are held, so that a code both latched again and raised by a held ramp keeps the
attributes of the held raise. -/
def enterAutonomous (s : State) : State :=
  if s.device = .run then
    let s : State := { s with device := .autonomous }
    holdAll 3 (discardRecords s)
  else s

/-- R85: the ack timer of the escalation record expires. -/
def escalationOver (s : State) : State :=
  match s.alerts.escalation with
  | none => s
  | some r =>
    if s.device = .run ∧ r.ackTimer.isRunning = true then
      let s := s.modAlerts fun x => { x with escalation := some r.expired }
      enterAutonomous (bumpGlobal ctrOverdue s)
    else s

/-! ## The general alarm (R87, R89) -/

/-- R139: the general-alarm call. -/
def alarmCall : CallRequest where
  origin := .alarm
  message := 0
  zones := List.finRange 8
  priority := 16
  repeats := 0

/-- R87: a general-alarm raise; answers whether it was counted lost. DESIGN CHOICE, log entry 36: the call is
requested, with the pass that follows, before the ramps are held; the rule gives the two no order. -/
def alarmRaise (o : Origin) (detail : Word16) (s : State) : Bool × State :=
  if s.device = .config then (true, bumpGlobal ctrLostGa s)
  else if s.ga.active then
    if s.ga.remembered.isSome then (true, bumpGlobal ctrLostGa s)
    else (false, s.modGa fun g => { g with remembered := some (o, detail) })
  else
    let s := s.modGa fun _ => ⟨true, some (o, detail)⟩
    (false, holdAll 1 (postCall alarmCall s).2)

/-- R89: the general alarm is cleared and its call cancelled. -/
def alarmClear (s : State) : State :=
  if s.ga.active then
    (cancelCall .alarm 0 (s.modGa fun _ => ⟨false, none⟩)).2
  else s

/-! ## Withdrawals and vector writes (R71, R95) -/

/-- R95: WITHDRAW clears the latch of a code of sense EDGE; answers whether the latch was set. -/
def withdrawCode (c : Code) (s : State) : Bool × State :=
  let was := (s.codes.get c).latch
  if (s.vectors.get c).sense = .edge then (was, clearLatch c s) else (was, s)

/-- R71: an accepted VECTOR write. A code whose entry has changed is offered afresh. -/
def writeVector (c : Code) (e : VectorEntry) (s : State) : State :=
  let s : State := { s with vectors := Tab.put s.vectors c e }
  if !e.present || decide (e.level = 0) then clearLatch c s
  else s.modCode c fun k => { k with answer := none }

end Sys2Proof.Machine
end

