-- ==== Sys2Proof/Machine/TimerBank.lean ====
section
/-! DEFINITION. The Timer Bank: start, stop, ticks, source changes and the raise of a channel's code (R63 to R67). -/

namespace Sys2Proof.Machine

/-- The record of a timer channel. -/
def timer (s : State) (ch : ChannelId) : TimerRecord := s.timers.get ch

/-- R64: the instant of a channel's next tick. -/
def nextTickOf (s : State) (ch : ChannelId) : Nat := nextMultiple (tickLength (timer s ch).tick) s.now

/-- R63: the source that a channel uses: COUNT and WIDTH channels use the record's, INTERVAL and ONE_SHOT channels
none. -/
def TimerRecord.usedSource (r : TimerRecord) : Option TimerSource :=
  match r.mode with
  | .count | .width => r.source
  | .interval | .oneShot => none

/-- R64: a channel's count has reached 0; its code is raised with the channel number, and with the source station and
its zone when the channel uses a station source. -/
def raiseChannel (ch : ChannelId) (s : State) : State :=
  let detail := BitVec.ofNat 16 ch.val
  match (timer s ch).usedSource with
  | some (.station a _) => raiseInternal (timer s ch).code (some a) (s.stations.get a).zone detail s
  | _ => raiseInternal (timer s ch).code none none detail s

/-- R67: the phase of a WIDTH channel at its start; the other modes have none. -/
def startPhase (s : State) (ch : ChannelId) : Option WidthPhase :=
  if (timer s ch).mode = .width then
    some (if sourceActive s (timer s ch).usedSource then .timing else .waiting)
  else none

/-- R64: TIMER START makes the channel RUNNING with its count at the reload. -/
def startChannel (ch : ChannelId) (s : State) : State :=
  let phase := startPhase s ch
  let due := nextTickOf s ch
  s.modTimer ch fun _ => { running := true, count := (timer s ch).reload, phase := phase, nextTick := due }

/-- R64, R68: the channel becomes STOPPED and keeps its count. -/
def TimerDyn.halted (d : TimerDyn) : TimerDyn := { d with running := false, phase := none }

/-- R65: a tick of a RUNNING INTERVAL or ONE_SHOT channel. -/
def tickTime (ch : ChannelId) (s : State) : State :=
  let cfg := timer s ch
  let left := (s.timerDyn.get ch).count - 1
  if left ≠ 0 then s.modTimer ch fun d => { d with count := left }
  else if cfg.mode = .interval then raiseChannel ch (s.modTimer ch fun d => { d with count := cfg.reload })
  else raiseChannel ch (s.modTimer ch fun d => { d.halted with count := 0 })

/-- R67: a tick of a RUNNING WIDTH channel. -/
def tickWidth (ch : ChannelId) (s : State) : State :=
  if (s.timerDyn.get ch).phase = some .timing then
    let left := (s.timerDyn.get ch).count - 1
    if left ≠ 0 then s.modTimer ch fun d => { d with count := left }
    else raiseChannel ch (s.modTimer ch fun d => { d with count := 0, phase := some .tripped })
  else s

/-- R64 to R67: a tick of a channel; the next one falls one tick length later. -/
def tickChannel (ch : ChannelId) (s : State) : State :=
  if (s.timerDyn.get ch).running then
    let due := nextTickOf s ch
    let s := s.modTimer ch fun d => { d with nextTick := due }
    match (timer s ch).mode with
    | .interval | .oneShot => tickTime ch s
    | .count => s
    | .width => tickWidth ch s
  else s

/-- R66: an activation of the source of a RUNNING COUNT channel. -/
def countActivation (ch : ChannelId) (s : State) : State :=
  let left := (s.timerDyn.get ch).count - 1
  if left ≠ 0 then s.modTimer ch fun d => { d with count := left }
  else raiseChannel ch (s.modTimer ch fun d => { d with count := (timer s ch).reload })

/-- R66, R67: the source of a channel has become active or inactive. -/
def channelSource (ch : ChannelId) (active : Bool) (s : State) : State :=
  if (s.timerDyn.get ch).running then
    match (timer s ch).mode with
    | .interval | .oneShot => s
    | .count => if active then countActivation ch s else s
    | .width =>
      if active then
        if (s.timerDyn.get ch).phase = some .waiting then
          s.modTimer ch fun d => { d with count := (timer s ch).reload, phase := some .timing }
        else s
      else s.modTimer ch fun d => { d with phase := some .waiting }
  else s

/-- A source has become active or inactive: every channel that uses it is told (R19, R55). DESIGN CHOICE, log entry 25:
several channels of one source are told in order of channel index, since the manual gives no order. -/
def sourceChanged (src : TimerSource) (active : Bool) (s : State) : State :=
  (List.finRange 8).foldl
    (fun s ch => if (timer s ch).usedSource = some src then channelSource ch active s else s) s

/-- R68: every channel becomes STOPPED and keeps its count. -/
def haltTimers (s : State) : State := { s with timerDyn := s.timerDyn.map (·.halted) }

end Sys2Proof.Machine
end

