-- ==== Sys2Proof/Machine/DirectLines.lean ====
section
/-! DEFINITION. The Direct Line Unit: pin changes, the line filter, the users of a filtered change, the rewriting of a
line (R55 to R61), and what a rewriting does to the referencing of a ramp (R147). -/

namespace Sys2Proof.Machine

/-! ## The count of active GENERAL_IN lines (R57) -/

/-- The code a line counts toward: that of a GENERAL_IN line whose code is present (R57). -/
def countedCode (e : LineEntry) : Option Code := if e.fn = .generalIn then e.code else none

/-- The attributes a condition report of the Direct Line Unit gives (R72). -/
def lineCondAttrs : Attributes := ⟨.internal, none, none, 0⟩

/-- R57: the number of active GENERAL_IN lines of a code becomes `n`; its passages to and from 0 are reported. -/
def setLineCount (c : Code) (n : Nat) (s : State) : State :=
  let old := s.lineCounts.get c
  let s : State := { s with lineCounts := Tab.put s.lineCounts c n }
  if decide (old = 0) = decide (n = 0) then s else reportCondition .line c (decide (n ≠ 0)) lineCondAttrs s

/-! ## Users of a filtered change (R57 to R59) -/

/-- R58: the stop loop has passed from closed to open: the ramp enables are de-energised and every ramp is held.
DESIGN CHOICE, log entry 36: in the order of the rule's text, which states none. -/
def loopOpens (s : State) : State := holdAll 2 (deEnergiseEnables s)

/-- R58: the stop loop is judged across a change from `before`. -/
def judgeLoop (before : State) (s : State) : State :=
  if !stopLoopOpen before && stopLoopOpen s then loopOpens s else s

/-- R57: a filtered change of a GENERAL_IN line; the condition is reported before the activation, whose attributes are
then the latest (log entry 7). -/
def generalInChanged (n : LineId) (c : Code) (active : Bool) (s : State) : State :=
  let count := s.lineCounts.get c
  if active then
    raiseCode ⟨c, ⟨.internal, none, none, BitVec.ofNat 16 n.val⟩, true⟩ (setLineCount c (count + 1) s)
  else setLineCount c (count - 1) s

/-- R55 to R59: the filtered value of input line `n` takes the value given, and its users are told. DESIGN CHOICE, log
entry 25: the user of the line's function is told before the Timer Bank, since the manual gives no order. -/
def lineChanges (n : LineId) (active : Bool) (s : State) : State :=
  let t := s.modLine n fun d => { d with filtered := active, candidate := none }
  let t :=
    match (s.lines.get n).fn, (s.lines.get n).code with
    | .generalIn, some c => generalInChanged n c active t
    | .stopLoop, _ => judgeLoop s t
    | .alarmButton, _ => if active then (alarmRaise .internal (BitVec.ofNat 16 n.val) t).2 else t
    | _, _ => t
  sourceChanged (.line n) active t

/-! ## Pins and samples (R55, R56) -/

/-- R55: an input line's reading changes with its pin; without a filter the filtered value takes it at once. -/
def readLine (n : LineId) (s : State) : State :=
  let e := s.lines.get n
  let now := readingOf e (s.pins.get n)
  let s := s.modLine n fun d => { d with reading := now }
  if e.checkTime = 0 ∧ (s.lineDyn.get n).filtered ≠ now then lineChanges n now s else s

/-- A pin takes the level given; a change reaches the input line or the encoder of the pin (R55, R147). -/
def pinTakes (n : LineId) (high : Bool) (s : State) : State :=
  if s.pins.get n = high then s
  else
    let s : State := { s with pins := Tab.put s.pins n high }
    let fn := (s.lines.get n).fn
    if fn.isInput then readLine n s else encoderPin fn high s

/-- R56: a sample of input line `n`, its countdown reloaded. -/
def sampleLine (n : LineId) (s : State) : State :=
  let e := s.lines.get n
  if e.fn.isInput ∧ 0 < e.checkTime then
    let d := s.lineDyn.get n
    let s := s.modLine n fun d => { d with countdown := e.checkTime }
    if d.reading = d.filtered then s.modLine n fun d => { d with candidate := none }
    else if d.candidate = some d.reading then lineChanges n d.reading s
    else s.modLine n fun d => { d with candidate := some d.reading }
  else s

/-! ## Rewriting a line (R61, R147) -/

/-- The ramp whose encoder the function is. -/
def LineFn.encoderOf : LineFn → Option RampId
  | .encoderA r | .encoderB r => some r
  | _ => none

/-- R147: an encoder line of ramp `r` has been given or taken: the ramp loses its reference. -/
def loseReference (r : RampId) (s : State) : State :=
  s.modRamp r fun d =>
    { d with
      referenced := false
      state := if d.state = .idle ∨ d.state = .held then .unreferenced else d.state
      meter := 65535, lastPeriod := 65535, bHigh := false }

/-- The ramps whose encoder a change of a line's function concerns (R147, log entry 20). -/
def encoderChange (old new : LineFn) (s : State) : State :=
  if old = new then s
  else
    let give (fn : LineFn) (s : State) : State :=
      match fn.encoderOf with
      | none => s
      | some r => loseReference r s
    give new (give old s)

/-- R61: the filter of a line as a LINE write leaves it: an input line takes its reading at once; any other line
keeps nothing active. -/
def freshFilter (e : LineEntry) (pinHigh : Bool) : LineDyn :=
  let reading := e.fn.isInput && readingOf e pinHigh
  { reading := reading, filtered := reading, candidate := none, countdown := e.checkTime }

/-- The count of a code after one line's contribution has gone or come (R61). -/
def countAcross (c : Code) (old new : Option Code) (n : Nat) : Nat :=
  n - (if old = some c then 1 else 0) + (if new = some c then 1 else 0)

/-- The code toward which a line counts as active. -/
def activeCode (e : LineEntry) (d : LineDyn) : Option Code := if d.filtered then countedCode e else none

/-- R61: the counts are judged across the write, the old entry removed and the new one added. -/
def recount (old new : Option Code) (s : State) : State :=
  let step (c : Option Code) (s : State) : State :=
    match c with
    | none => s
    | some c => setLineCount c (countAcross c old new (s.lineCounts.get c)) s
  if old = new then s else step new (step old s)

/-- R61: an accepted LINE write. No timer channel runs in CONFIG, so none is told. -/
def writeLine (n : LineId) (e : LineEntry) (s : State) : State :=
  let old := s.lines.get n
  let was := s.lineDyn.get n
  let fresh := freshFilter e (s.pins.get n)
  let t : State := { s with lines := Tab.put s.lines n e, lineDyn := Tab.put s.lineDyn n fresh }
  let t := t.setOutput n false
  let t := recount (activeCode old was) (activeCode e fresh) t
  encoderChange old.fn e.fn (judgeLoop s t)

end Sys2Proof.Machine
end

