-- ==== Sys2Proof/Machine/Mirror.lean ====
section
/-! DEFINITION. The Query Mirror: lines and tags, filling, ageing, hits, invalidation (R43 to R53). -/

namespace Sys2Proof.Machine

/-- A station's address, 1..254. -/
def address (a : Addr) : Nat := a.val + 1

/-- R43: the line of a station, its address modulo 64. -/
def mirrorIndex (a : Addr) : Fin 64 := ⟨address a % 64, Nat.mod_lt _ (by decide)⟩

/-- R43: the tag of a station, its address divided by 64. -/
def mirrorTag (a : Addr) : Fin 4 := ⟨address a / 64, by have := a.isLt; unfold address; omega⟩

/-- R52: the address that a line's tag names: the line's index plus 64 times the tag. -/
def lineAddress (i : Fin 64) (l : MirrorLine) : Nat := i.val + 64 * l.tag.val

/-- R50: the station of a valid line. -/
def lineStation (i : Fin 64) (l : MirrorLine) : Option Addr := addr? (lineAddress i l)

/-- R44: the deck line is UP and GOOD. -/
def isSound (s : State) (d : Deck) : Bool := !isImpaired s d

/-- The single deck line of an attachment. -/
def singleDeck : Attachment → Option Deck
  | .a => some .a
  | .b => some .b
  | .both => none

/-- R44: a frame from the station fills its line. -/
def fills (s : State) (a : Addr) : Bool :=
  (s.stations.get a).mirrorAllowed &&
    match singleDeck (s.stations.get a).attachment with
    | none => true
    | some d => isSound s d

/-- R44, R45: the line a report leaves. -/
def filledLine (a : Addr) (r : Report) (src : FillSource) : MirrorLine where
  valid := true
  tag := mirrorTag a
  inputs := r.inputs
  condition := r.condition
  value := r.value
  age := 0
  source := src

/-- R44, R45: a frame given to the mirror fills its station's line; a fill over another station's copy is an
eviction. -/
def fillMirror (a : Addr) (r : Report) (src : FillSource) (s : State) : State :=
  if fills s a then
    let old := s.mirror.get (mirrorIndex a)
    let s := s.modMirror (mirrorIndex a) fun _ => filledLine a r src
    if old.valid ∧ old.tag ≠ mirrorTag a then bumpGlobal ctrEvictions s else s
  else s

/-- R49: an invalidated line. -/
def MirrorLine.invalid (l : MirrorLine) : MirrorLine := { l with valid := false }

/-- The line holds a valid copy of the station. -/
def holdsCopy (s : State) (a : Addr) : Bool :=
  (s.mirror.get (mirrorIndex a)).valid && decide ((s.mirror.get (mirrorIndex a)).tag = mirrorTag a)

/-- R49: the copy of a station is invalidated. -/
def invalidateStation (a : Addr) (s : State) : State :=
  if holdsCopy s a then s.modMirror (mirrorIndex a) (·.invalid) else s

/-- R50: the copy in line `i` is of a station whose single attachment is the deck line. -/
def isOnDeck (s : State) (d : Deck) (i : Fin 64) : Bool :=
  let l := s.mirror.get i
  l.valid &&
    match lineStation i l with
    | none => false
    | some a => singleDeck (s.stations.get a).attachment = some d

/-- R50: a deck line has become impaired. -/
def invalidateDeck (d : Deck) (s : State) : State :=
  { s with mirror := Tab.of fun i => if isOnDeck s d i then (s.mirror.get i).invalid else s.mirror.get i }

/-- R53: every line is invalidated. -/
def invalidateAll (s : State) : State := { s with mirror := s.mirror.map (·.invalid) }

/-- R46: the age of every valid line rises by 1, and stays at 255. -/
def ageMirror (s : State) : State :=
  { s with mirror := s.mirror.map fun l => if l.valid then { l with age := min 255 (l.age + 1) } else l }

/-- R47: a QUERY to the station is a hit. -/
def isHit (s : State) (a : Addr) : Bool :=
  holdsCopy s a && decide ((s.mirror.get (mirrorIndex a)).age ≤ (s.stations.get a).freshness) && isHeard s a

/-- R51: the number of valid lines. -/
def validLines (s : State) : Nat := (List.finRange 64).countP fun i => (s.mirror.get i).valid

end Sys2Proof.Machine
end

