-- ==== Sys2Proof/Machine/Classifier.lean ====
section
/-! DEFINITION. The Frame Classifier: role reports, event maps, frames from the deck and from the bridge to stations,
the station point filter, supervision, the rewriting of a station record (R19 to R42). -/

namespace Sys2Proof.Machine

/-! ## Event maps (R35) -/

/-- The attributes a condition report of the Classifier gives: origin FRAME, the station, its zone, detail 0 (R72). -/
def mapCondAttrs (s : State) (a : Addr) : Attributes := ⟨.frame, some a, (s.stations.get a).zone, 0⟩

/-- R35: the number of active maps of a code becomes `n`; its passages to and from 0 are reported, naming the
station. -/
def setMapCount (a : Addr) (c : Code) (n : Nat) (s : State) : State :=
  let old := s.mapCounts.get c
  let s : State := { s with mapCounts := Tab.put s.mapCounts c n }
  if decide (old = 0) = decide (n = 0) then s else reportCondition .map c (decide (n ≠ 0)) (mapCondAttrs s a) s

/-- R35: one map is judged across a change of its station's filtered points; the condition is reported before the
activation, whose attributes are then the latest (log entry 7). -/
def judgeMap (a : Addr) (old new : Word16) (m : EventMap) (s : State) : State :=
  let was := mapActive m old
  let is := mapActive m new
  let count := s.mapCounts.get m.code
  if is && !was then
    let attrs : Attributes := ⟨.frame, some a, (s.stations.get a).zone, BitVec.ofNat 16 m.point.val⟩
    raiseCode ⟨m.code, attrs, true⟩ (setMapCount a m.code (count + 1) s)
  else if was && !is then setMapCount a m.code (count - 1) s
  else s

/-! ## Reports to the jobs (R19, R23) -/

/-- The doors whose record names the station. -/
def doorsOf (s : State) (a : Addr) : List DoorId :=
  (List.finRange 24).filter fun d => (s.doors.get d).station = some a

/-- The ramps whose record names the station as drive. -/
def rampsOf (s : State) (a : Addr) : List RampId :=
  (List.finRange 4).filter fun r => (s.ramps.get r).drive = some a

/-- The zones whose record names the station as amplifier. -/
def zonesOf (s : State) (a : Addr) : List ZoneId :=
  (List.finRange 8).filter fun z => (s.zones.get z).amplifier = some a

/-- The points of a role that the jobs use: the lowest `n` (R19). -/
def rolePoints : Role → Nat
  | .door => 5
  | .detector => 1
  | .rampDrive => 5
  | .amplifier => 2
  | .callPanel => 1
  | .general | .unused => 0

/-- Some role point of the station has changed. -/
def roleChanged (role : Role) (old new : Word16) : Bool :=
  (List.range (rolePoints role)).any fun p => old.getLsbD p != new.getLsbD p

/-- R19: changed role points are reported to the block that uses them, as one report. -/
def roleReport (a : Addr) (old new : Word16) (s : State) : State :=
  let r := s.stations.get a
  let rose0 := !old.getLsbD 0 && new.getLsbD 0
  if roleChanged r.role old new then
    match r.role with
    | .door => (doorsOf s a).foldl (fun s d => doorReport d old new s) s
    | .rampDrive => (rampsOf s a).foldl (fun s x => driveReport x old new s) s
    | .amplifier => (zonesOf s a).foldl (fun s z => amplifierReport z old new s) s
    | .detector =>
      match r.zone with
      | none => s
      | some z => if rose0 then setFire z ⟨.frame, some a, some z, 0⟩ s else s
    | .callPanel =>
      match r.zone with
      | none => s
      | some z => if rose0 then setClear z s else s
    | .general | .unused => s
  else s

/-- R19: the Timer Bank receives each changed point of the station. -/
def timerReports (a : Addr) (old new : Word16) (s : State) : State :=
  (List.finRange 16).foldl
    (fun s p =>
      if old.getLsbD p.val != new.getLsbD p.val then sourceChanged (.station a p) (new.getLsbD p.val) s else s)
    s

/-- R19, R35: the filtered points of a station become `new`; the jobs, the Timer Bank and the event maps follow. -/
def pointsBecome (a : Addr) (new : Word16) (s : State) : State :=
  let old := (s.stationDyn.get a).filtered
  if old = new then s
  else
    let s := s.modStation a fun d => { d with filtered := new }
    let s := timerReports a old new (roleReport a old new s)
    let r := s.stations.get a
    if r.role = .unused then s else r.maps.foldl (fun s m => judgeMap a old new m s) s

/-- R23: a passage between HEARD and SILENT is reported to the door, the ramp or the zone line that names the
station. -/
def supervisionReport (a : Addr) (silent : Bool) (s : State) : State :=
  match (s.stations.get a).role with
  | .door => (doorsOf s a).foldl (fun s d => doorSupervision d s) s
  | .rampDrive => if silent then (rampsOf s a).foldl (fun s r => driveSilent r s) s else s
  | .amplifier => (zonesOf s a).foldl (fun s z => amplifierSupervision z silent s) s
  | .detector | .callPanel | .general | .unused => s

/-! ## Frames from the deck (R21 to R25) -/

/-- A frame is offered NORMAL to the Bridge Port, unchanged. -/
def forwardUp (f : Frame) (s : State) : State := sendTx .bridge .normal f.forward s

/-- A frame is dropped and counted as filtered on its port (R21, R26). -/
def filterFrame (p : Port) (s : State) : State := bumpPort p ctrFiltered s

/-- R37: a frame from the station sets its silence count to 0 and makes it HEARD. -/
def hearStation (a : Addr) (s : State) : State :=
  let silent := !isHeard s a
  let s := s.modStation a fun d => { d with silence := 0, status := .heard }
  if silent then supervisionReport a false s else s

/-- R22, R24: a STATE frame is taken as a station report. DESIGN CHOICE, log entry 35: the frame fills the mirror
before it is forwarded, so that the mark of a transmit drop comes after that of an eviction. -/
def takeState (a : Addr) (f : Frame) (r : Report) (s : State) : State :=
  let cfg := s.stations.get a
  let s := s.modStation a fun d => { d with raw := r.inputs, condition := r.condition, value := r.value }
  let s := if cfg.checkTime = 0 then pointsBecome a r.inputs s else s
  let s := if cfg.policy = .drop then s else fillMirror a r .state s
  if cfg.policy = .forward then forwardUp f s else s

/-- R25: a REPLY frame is taken as a station answer. DESIGN CHOICE, log entry 35: the frame is offered to the Bridge
queue before it fills the mirror, so that the mark of an eviction comes after that of a transmit drop. -/
def takeReply (a : Addr) (f : Frame) (r : Report) (s : State) : State :=
  let s := forwardUp f s
  if (s.stations.get a).policy = .drop then s else fillMirror a r .reply s

/-- What a frame of kind STATE or REPLY and of the right length carries (R21). -/
def reportOf (f : Frame) : Option (FillSource × Report) :=
  if f.kind = kindState then (stateReport f.payload).map fun r => (.state, r)
  else if f.kind = kindReply then (replyReport f.payload).map fun r => (.reply, r)
  else none

/-- R21: a frame taken from a deck receive queue. DESIGN CHOICE, log entry 35: a frame of an unknown source is offered
to the Bridge queue before it is counted, so that the mark of the unknown source comes after that of a transmit drop.
-/
def deckFrame (d : Deck) (f : Frame) (s : State) : State :=
  match addr? f.source.toNat with
  | none => filterFrame (deckPort d) s
  | some a =>
    let cfg := s.stations.get a
    if cfg.role = .unused then
      match reportOf f with
      | none => filterFrame (deckPort d) s
      | some _ => bumpPort (deckPort d) ctrUnknown (forwardUp f s)
    else if !cfg.rxEnable then filterFrame (deckPort d) s
    else
      let s := hearStation a s
      match reportOf f with
      | none => filterFrame (deckPort d) s
      | some (.state, r) => takeState a f r s
      | some (.reply, r) => takeReply a f r s

/-! ## Frames from the bridge to stations (R27 to R29) -/

/-- R27: a REJECT is counted by reason and in total, and offered URGENT to the Bridge Port. DESIGN CHOICE, log entry
35: the reason is counted first, then the total, and then the frame is offered, so that of marks that name one code
the drop's is the latest; R165 gives the rises no order. -/
def reject (reason : RejectReason) (f : Frame) (s : State) : State :=
  sendTx .bridge .urgent (rejectFrame reason f) (bumpGlobal ctrRejectTotal (bumpGlobal (rejectCounter reason) s))

/-- The first test of R27: the record is in use with receive enabled. -/
def isKnown (s : State) (a : Addr) : Bool := inUse s a && (s.stations.get a).rxEnable

/-- R27 tests 3 and 4: a frame is steered and queued NORMAL, or refused. DESIGN CHOICE, log entry 35: the transmit
drop of a full deck line is counted before the REJECT; R165 gives these rises no order. -/
def sendDown (a : Addr) (f : Frame) (s : State) : State :=
  match steer a s with
  | none => reject .line f s
  | some d =>
    let q := offerTx (deckPort d) .normal f.forward s
    if q.1 then q.2 else reject .full f q.2

/-- R27: a bridge COMMAND to a station. -/
def bridgeCommand (a : Addr) (f : Frame) (s : State) : State :=
  if !isKnown s a then reject .unknown f s
  else if s.owners.get a ≠ .free then reject .owned f s
  else sendDown a f s

/-- R28, R47: a bridge QUERY to a station. DESIGN CHOICE, log entry 25: a hit is counted before its REPLY is offered,
and a miss before the QUERY is steered, so that the mark of a hit comes before that of a transmit drop; R165 gives
these rises no order. -/
def bridgeQuery (a : Addr) (f : Frame) (s : State) : State :=
  if !isKnown s a then reject .unknown f s
  else if isHit s a then
    sendTx .bridge .normal (mirrorReply f (s.mirror.get (mirrorIndex a))) (bumpGlobal ctrHits s)
  else sendDown a f (bumpGlobal ctrMisses s)

/-- Some station has an owner other than FREE. -/
def anyOwned (s : State) : Bool := (List.finRange 254).any fun a => s.owners.get a ≠ .free

/-- R29: a broadcast is copied to every deck line that is UP. DESIGN CHOICE, log entry 35: the copy of Deck Line A is
offered before that of Deck Line B, so that of two transmit drops that name one code B's mark is the later. -/
def copyDown (f : Frame) (s : State) : State :=
  let upA := (s.port .deckA).up
  let upB := (s.port .deckB).up
  if !upA && !upB then reject .line f s
  else
    let s := if upA then sendTx .deckA .normal f.forward s else s
    if upB then sendTx .deckB .normal f.forward s else s

/-- R29: a broadcast COMMAND or QUERY. -/
def broadcast (isCommand : Bool) (f : Frame) (s : State) : State :=
  if isCommand && anyOwned s then reject .owned f s else copyDown f s

/-- R26: a bridge frame to a station or to broadcast. -/
def stationFrame (f : Frame) (s : State) : State :=
  let n := f.payload.length
  let isCommand := decide (f.kind = kindCommand) && decide (1 ≤ n) && decide (n ≤ 5)
  let isQuery := decide (f.kind = kindQuery) && decide (n = 0)
  if isCommand || isQuery then
    match addr? f.destination.toNat with
    | none => broadcast isCommand f s
    | some a => if isCommand then bridgeCommand a f s else bridgeQuery a f s
  else filterFrame .bridge s

/-! ## Supervision and samples (R34, R36, R37) -/

/-- R37: a station passes from HEARD to SILENT. DESIGN CHOICE, log entry 36: the station's user is told, the copy
invalidated and the silence code raised in the order of the rule's text, which states none. -/
def silenceStation (a : Addr) (s : State) : State :=
  let cfg := s.stations.get a
  let s := s.modStation a fun d => { d with status := .silent }
  let s := invalidateStation a (supervisionReport a true s)
  raiseInternal cfg.silenceCode (some a) cfg.zone (BitVec.ofNat 16 cfg.silenceLimit) s

/-- R36: the silence count of a station at a supervision expiry. -/
def countSilence (a : Addr) (s : State) : State :=
  if isSupervised s a && isHeard s a then
    let n := (s.stationDyn.get a).silence + 1
    let s := s.modStation a fun d => { d with silence := min 255 n }
    if (s.stations.get a).silenceLimit ≤ n then silenceStation a s else s
  else s

/-- R34: the station is sampled: a point takes its raw value when its last sample showed that value too. -/
def sampleStation (a : Addr) (s : State) : State :=
  let d := s.stationDyn.get a
  let differs := d.raw ^^^ d.filtered
  let s := s.modStation a fun d => { d with candidates := differs &&& ~~~d.candidates }
  pointsBecome a (d.filtered ^^^ (differs &&& d.candidates)) s

/-- R36: the sample countdown of a station at a supervision expiry. DESIGN CHOICE (log entry 42): the countdown of an
UNUSED record with a check time above 0 falls too; R36 says every station, R18 that an UNUSED record's fields take
effect only with a role. -/
def countSample (a : Addr) (s : State) : State :=
  let check := (s.stations.get a).checkTime
  if check = 0 then s
  else
    let left := (s.stationDyn.get a).countdown - 1
    if left = 0 then sampleStation a (s.modStation a fun d => { d with countdown := check / 100 })
    else s.modStation a fun d => { d with countdown := left }

/-- R36: an expiry of the supervision clock: silence counts, samples, mirror ages; then the offers answered busy come
again (R79) and FAULT zone lines are judged for recovery (R135). -/
def superviseAll (s : State) : State :=
  let s : State := { s with supervisionDue := nextMultiple supervisionPeriod s.now }
  let s := (List.finRange 254).foldl (fun s a => countSilence a s) s
  let s := (List.finRange 254).foldl (fun s a => countSample a s) s
  let s := reofferBusy (ageMirror s)
  (List.finRange 8).foldl (fun s z => recoverLine z s) s

/-! ## Rewriting a station record (R39, R40) -/

/-- R40: the dynamic state of a station whose filter is reset to raw under the new check time. -/
def StationDyn.settled (d : StationDyn) (checkTime : Nat) : StationDyn :=
  { d with filtered := d.raw, candidates := 0, countdown := checkTime / 100 }

/-- R40: the counts of active maps are judged across a write, without activations. DESIGN CHOICE, log entry 30: the
passage of a count to or from 0 is judged on the count before the write and the count after it, so that a code whose
count falls to 0 by the old maps and rises again by the new ones is not reported. DESIGN CHOICE, log entry 36: the
conditions of several codes that pass to or from 0 are reported in order of code, so that of two absent codes that
begin to hold in service the higher gives code 1 its attributes. -/
def recountMaps (a : Addr) (oldRec newRec : StationRecord) (oldPts newPts : Word16) (s : State) : State :=
  (List.finRange 64).foldl
    (fun s c =>
      let gone := mapCountOf oldRec oldPts c
      let come := mapCountOf newRec newPts c
      if gone = come then s else setMapCount a c (s.mapCounts.get c - gone + come) s)
    s

/-- R40: an accepted STATION write. -/
def writeStation (a : Addr) (r : StationRecord) (s : State) : State :=
  let oldRec := s.stations.get a
  let oldPts := (s.stationDyn.get a).filtered
  let s : State := { s with stations := Tab.put s.stations a r }
  if r.role = oldRec.role then
    let s := s.modStation a (·.settled r.checkTime)
    let newPts := (s.stationDyn.get a).filtered
    let s := timerReports a oldPts newPts (roleReport a oldPts newPts s)
    recountMaps a oldRec r oldPts newPts (invalidateStation a s)
  else
    let s := (s.modStation a fun _ => StationDyn.powerOn r.checkTime).setOwner a .free
    recountMaps a oldRec r oldPts 0 (invalidateStation a s)

/-- R39: why an in-range STATION write is refused in RUN and AUTONOMOUS. -/
def stationWriteRefusal (s : State) (a : Addr) (r : StationRecord) : Option Reason :=
  if s.device = .config then none
  else if s.owners.get a ≠ .free then some .busy
  else if r.role ≠ (s.stations.get a).role then some .state
  else none

/-! ## Resets (R42) -/

/-- R42: a station after STOP or RESTART. -/
def StationDyn.afterReset (d : StationDyn) (checkTime : Nat) : StationDyn :=
  { d.settled checkTime with silence := 0, status := .heard }

/-- R42: the numbers of active maps of every code, over all stations. -/
def totalMaps (s : State) : Vector Nat 64 :=
  (List.finRange 254).foldl
    (fun v a =>
      (activeMaps (s.stations.get a) (s.stationDyn.get a).filtered).foldl
        (fun v m => Tab.upd v m.code (· + 1)) v)
    (Vector.replicate 64 0)

/-- R42: the Classifier's reset, but for the conditions it then reports anew. -/
def resetStations (s : State) : State :=
  let s : State :=
    { s with
      owners := Vector.replicate 254 .free
      stationDyn := Tab.of fun a => (s.stationDyn.get a).afterReset (s.stations.get a).checkTime }
  { s with mapCounts := totalMaps s }

/-- The stations with an active map of a code. -/
def mapStations (s : State) (c : Code) : List Addr :=
  (List.finRange 254).filter fun a =>
    decide (0 < mapCountOf (s.stations.get a) (s.stationDyn.get a).filtered c)

/-- R42: which station a condition reported anew names: the manual does not say, so one of the stations with an active
map of the code, chosen by a free value (log entry 2). -/
def reportedStation (s : State) (c : Code) : Option Addr :=
  let l := mapStations s c
  l[Config.reportedStation s.now c % l.length]?

/-- R42: the condition of every code whose count of active maps is above 0 is reported anew. -/
def reportMapsAnew (s : State) : State :=
  (List.finRange 64).foldl
    (fun s c =>
      if s.mapCounts.get c = 0 then s
      else
        match reportedStation s c with
        | none => s
        | some a => reportCondition .map c true (mapCondAttrs s a) s)
    s

/-- R62: the condition of every code whose count of active GENERAL_IN lines is above 0 is reported anew. -/
def reportLinesAnew (s : State) : State :=
  (List.finRange 64).foldl
    (fun s c => if s.lineCounts.get c = 0 then s else reportCondition .line c true lineCondAttrs s) s

end Sys2Proof.Machine
end

