-- ==== Sys2Proof/Machine/Consistency.lean ====
section
/-! DEFINITION. The consistency check that guards every entry to RUN (R179). -/

namespace Sys2Proof.Machine

/-- The first failing test of a record's list, each with its number. -/
def firstFailure (t : TableName) (i : Nat) (tests : List (Nat × Bool)) : Option CheckFailure :=
  (tests.find? (·.2)).map fun x => ⟨t, i, x.1⟩

/-- R179: a table is walked in order of index. -/
def walk (n : Nat) (t : TableName) (tests : Fin n → List (Nat × Bool)) : Option CheckFailure :=
  (List.finRange n).findSome? fun i => firstFailure t i.val (tests i)

/-- The message is in use. -/
def messageUsed (s : State) (m : MsgId) : Bool := (s.messages.get m).inUse

/-- A record of lower index satisfies `p`. -/
def someLower {n : Nat} (i : Fin n) (p : Fin n → Bool) : Bool :=
  (List.finRange n).any fun j => decide (j.val < i.val) && p j

/-- R179 test 1. -/
def messageTests (s : State) : List (Nat × Bool) := [(1, !messageUsed s 0)]

/-- R179 tests 2 and 3, of a door in use. -/
def doorTests (s : State) (d : DoorId) : List (Nat × Bool) :=
  match (s.doors.get d).station with
  | none => []
  | some a =>
    let st := s.stations.get a
    [(2, decide (st.role ≠ .door) || decide (st.zone ≠ some (s.doors.get d).zone)),
      (3, someLower d fun e => (s.doors.get e).station = some a)]

/-- R179 tests 4 to 7. -/
def zoneTests (s : State) (z : ZoneId) : List (Nat × Bool) :=
  let cfg := s.zones.get z
  [(4, decide (6 < (members s z).length)),
    (5, match cfg.amplifier with
      | none => false
      | some a =>
        decide ((s.stations.get a).role ≠ .amplifier) || someLower z fun y => (s.zones.get y).amplifier = some a),
    (6, match cfg.doorHold with
      | none => false
      | some n => decide ((s.lines.get n).fn ≠ .doorHold z)),
    (7, !(messageUsed s cfg.warningMsg && messageUsed s cfg.fireMsg && messageUsed s cfg.openMsg))]

/-- The number of lines of a function. -/
def linesOf (s : State) (fn : LineFn) : Nat := (List.finRange 16).countP fun n => (s.lines.get n).fn = fn

/-- The ramp record is in use (R143). -/
def rampUsed (s : State) (r : RampId) : Bool := (s.ramps.get r).drive.isSome

/-- R179 tests 8 to 12, of a ramp in use. -/
def rampTests (s : State) (r : RampId) : List (Nat × Bool) :=
  let cfg := s.ramps.get r
  match cfg.drive with
  | none => []
  | some a =>
    [(8, decide ((s.stations.get a).role ≠ .rampDrive) || someLower r fun q => (s.ramps.get q).drive = some a),
      (9, decide (linesOf s (.encoderA r) ≠ 1) || decide (linesOf s (.encoderB r) ≠ 1)),
      (10, match cfg.enableLine with
        | none => true
        | some n => decide ((s.lines.get n).fn ≠ .rampEnable r) || decide (linesOf s (.rampEnable r) ≠ 1)),
      (11, decide (cfg.vmax < cfg.vcreep) || decide (cfg.vmax < cfg.astep)),
      (12, !messageUsed s cfg.clearanceMsg)]

/-- R179 test 13. -/
def lineTests (s : State) (n : LineId) : List (Nat × Bool) :=
  [(13, match (s.lines.get n).fn with
    | .encoderA r | .encoderB r | .rampEnable r => !rampUsed s r
    | .doorHold z => decide ((s.zones.get z).doorHold ≠ some n)
    | _ => false)]

/-- R179 test 14, of a present DISPATCH entry of code 3 to 63. -/
def vectorTests (s : State) (c : Code) : List (Nat × Bool) :=
  let e := s.vectors.get c
  if c.val < 3 ∨ e.present = false ∨ e.gate ≠ .dispatch then []
  else
    [(14, match e.target with
      | .rampHold (some r) => !rampUsed s r
      | .call m _ _ _ => !messageUsed s m
      | _ => false)]

/-- R179: the first failing test of the walk, none when the check passes. -/
def checkTables (s : State) : Option CheckFailure :=
  (firstFailure .message 0 (messageTests s)).or <|
  (walk 24 .door (doorTests s)).or <|
  (walk 8 .zone (zoneTests s)).or <|
  (walk 4 .ramp (rampTests s)).or <|
  (walk 16 .line (lineTests s)).or <|
  walk 64 .vector (vectorTests s)

end Sys2Proof.Machine
end

