-- ==== Sys2Proof/Machine/Resets.lean ====
section
/-! DEFINITION. The STOP and RESTART resets of every block, and the entry to RUN (R17, R42, R53, R62, R68, R97, R121,
R123, R142, R164, R178 to R181). -/

namespace Sys2Proof.Machine

/-- R17: the queues of a port are emptied and the frames counted as flushed. -/
def flushPort (p : Port) (s : State) : State :=
  let n := (s.port p).rx.length + (s.port p).tx.length
  bump (portSet p) ctrFlushed n (s.modPort p fun u => { u with rx := [], tx := [] })

/-- R17: the queues of every port are emptied. -/
def flushPorts (s : State) : State := flushPort .bridge (flushPort .deckB (flushPort .deckA s))

/-- R97: the Event Controller's reset. -/
def resetEvents (s : State) : State :=
  { s with codes := Vector.replicate 64 CodeState.powerOn, alerts := Alerts.empty, ga := GeneralAlarm.powerOn }

/-- R123: a zone after STOP or RESTART, in its rest state. -/
def ZoneDyn.afterReset (d : ZoneDyn) (rest : ZoneStatus) : ZoneDyn :=
  { ZoneDyn.powerOn with state := rest, fire := d.fire, override := d.override }

/-- R123: the Zone Controller's reset; every door becomes UNKNOWN. -/
def resetZones (s : State) : State :=
  let s : State := { s with doorDyn := Vector.replicate 24 DoorDyn.powerOn }
  { s with zoneDyn := Tab.of fun z => (s.zoneDyn.get z).afterReset (restState s z) }

/-- The line's amplifier is or may be playing: STARTING, PLAYING or STOPPING (R142). -/
def ZoneLineState.isBusy : ZoneLineState → Bool
  | .starting | .playing | .stopping => true
  | .free | .fault => false

/-- R142: the Call Arbiter's reset: STOP to the amplifiers playing, the queue emptied, every line set afresh. -/
def resetCalls (s : State) : State :=
  let s := (List.finRange 8).foldl (fun s z => if (s.zoneLines.get z).state.isBusy then sendStop z s else s) s
  { s with calls := [], zoneLines := Tab.of (freshLine s) }

/-- R164: a ramp after STOP or RESTART. -/
def RampDyn.afterReset (d : RampDyn) : RampDyn :=
  let d : RampDyn := { d with overspeed := 0, direction := 0, stall := 0 }
  match d.state with
  | .clearing | .moving => d.stopped .held
  | .homing => { d.stopped .unreferenced with referenced := false }
  | _ => d

/-- R164: the Ramp Controller's reset: SPEED 0 to the drives in motion. -/
def resetRamps (s : State) : State :=
  (List.finRange 4).foldl
    (fun s r =>
      let s := if (s.rampDyn.get r).state.isActive then sendSpeed r 0 s else s
      s.modRamp r (·.afterReset))
    s

/-- R180, R181: the reset of every block, the part in CONFIG. DESIGN CHOICE, log entry 25: of the frames offered to
the emptied queues, STOP to the amplifiers comes first, in order of zone (R142), then SPEED 0 to the drives, in order
of ramp index (R164); the manual says only that they are offered after the queues are emptied. DESIGN CHOICE, log
entry 36: after the Event Controller's reset the conditions of maps are reported anew before those of lines (R42, R62,
R97), so that a code of which both hold keeps the line report's attributes; STOP too sets CONFIG first, which R181
states of RESTART alone, so that the marks of the flushed frames are lost. -/
def resetBlocks (s : State) : State :=
  let s : State := { s with device := .config }
  let s := deEnergiseAll (invalidateAll (resetStations (flushPorts s)))
  let s := reportLinesAnew (reportMapsAnew (resetEvents (haltTimers s)))
  resetRamps (resetCalls (resetZones s))

/-- R178, R181: the device state becomes RUN and the blocks begin service. -/
def enterRun (afterRestart : Bool) (s : State) : State := zonesEnterRun afterRestart { s with device := .run }

/-- R181: RESTART resets every block and enters RUN when the check passes; answers the first failure otherwise. -/
def restartPart (s : State) : Option CheckFailure × State :=
  let s := resetBlocks s
  match checkTables s with
  | some f => (some f, s)
  | none => (none, enterRun true s)

end Sys2Proof.Machine
end

