-- ==== Sys2Proof/Machine/Management.lean ====
section
/-! DEFINITION. The Management Unit: the judging and answering of a request (R173, R174), and the requests that read:
TABLE READ, STATUS READ, COUNTER READ, MIRROR READ and MIRROR PURGE (R51, R52, R167, R175, R182). -/

namespace Sys2Proof.Machine

/-! ## Judging and answering (R173, R174) -/

/-- What becomes of a request whose authority suffices: refused with a reason (and, for TABLE, the failing test), or
taken, with the state it leaves and the data of its reply as they are read from the state at the reply. -/
inductive Judged where
  | refused (reason : Reason) (failure : Option CheckFailure)
  | taken (s : State) (data : State → Data)

/-- A refusal without a failing test. -/
def Judged.no (reason : Reason) : Judged := .refused reason none

/-- A request taken, its reply's data given. -/
def Judged.yes (s : State) (data : Data) : Judged := .taken s fun _ => data

/-- R173: the MGMT_REPLY is offered URGENT to the Bridge Port; the judgement that ends every command follows. -/
def answer (h : Header) (name : ReqName) (r : Result) (s : State) : State :=
  settle (sendTx .bridge .urgent (replyFrame h ⟨name, r⟩) s)

/-- R174: a request is tested for authority, judged, carried out or refused, and answered. The judgement of R78 comes
before the reply, which then shows its outcome (log entry 5). -/
def serve (h : Header) (name : ReqName) (least : Nat) (j : Judged) (s : State) : State :=
  if authorityOf h < least then answer h name (.refused .authority none) s
  else
    match j with
    | .refused reason failure => answer h name (.refused reason failure) s
    | .taken t data =>
      let t := settle t
      answer h name (.done (data t)) t

/-- A request with an index parameter: RANGE when the index is out of range (R174 test 3). -/
def withIndex {n : Nat} (i : Nat) (f : Fin n → Judged) : Judged :=
  match index? n i with
  | none => .no .range
  | some k => f k

/-- A request taken in RUN and AUTONOMOUS only (R174 test 4). -/
def inServiceOnly (s : State) (j : Judged) : Judged := if inService s then j else .no .state

/-- A request taken in CONFIG only (R174 test 4). -/
def inConfigOnly (s : State) (j : Judged) : Judged := if s.device = .config then j else .no .state

/-! ## TABLE READ (R175) -/

/-- What TABLE READ shows of a direct line (R54). -/
def lineView (s : State) (n : LineId) : LineView :=
  let fn := (s.lines.get n).fn
  if fn.isInput then .input (s.lineDyn.get n).reading (s.lineDyn.get n).filtered
  else if fn.isOutput then .output (s.outputs.get n)
  else .encoder (s.pins.get n)

/-- A record for the code is outstanding, code 0 in the general-alarm slot (R75, R86). -/
def hasRecord (s : State) (c : Code) : Bool := if c.val = 0 then s.alerts.gaSlot.isSome else isHeld s c

/-- R69: what TABLE READ shows of a vector entry. -/
def vectorRow (s : State) (c : Code) : Data :=
  .vectorRow (s.vectors.get c) (s.codes.get c).latch (condHolds (s.codes.get c)) (isPending s c) (hasRecord s c)

/-- R175: the record and dynamic state of a table's row; none for an index out of range. DESIGN CHOICE, log entry 39:
the dynamic items are shown whole, so that a TIMER's reply also carries `nextTick` and a ZONE's `secondDue`, which R63
and R104 do not name; for a DOOR, for which R99 names no dynamic state, the reply carries every item of R100 and the
model's own `held`; a running timer shows the instant of its expiry. -/
def tableRow (s : State) (t : TableName) (i : Nat) : Option Data :=
  match t with
  | .station => (addr? i).map fun a => .stationRow (s.stations.get a) (s.stationDyn.get a) (s.owners.get a)
  | .zone => (index? 8 i).map fun z => .zoneRow (s.zones.get z) (s.zoneDyn.get z)
  | .door => (index? 24 i).map fun d => .doorRow (s.doors.get d) (s.doorDyn.get d)
  | .ramp => (index? 4 i).map fun r => .rampRow (s.ramps.get r) (s.rampDyn.get r) (vmeas (s.rampDyn.get r))
  | .line => (index? 16 i).map fun n => .lineRow (s.lines.get n) (lineView s n)
  | .timer => (index? 8 i).map fun ch => .timerRow (s.timers.get ch) (s.timerDyn.get ch)
  | .vector => (index? 64 i).map fun c => vectorRow s c
  | .message => (index? 256 i).map fun m => .messageRow (s.messages.get m) (queuedCount s m)
  | .device => some (.deviceRow s.record)

/-- R175: TABLE READ; it changes nothing. -/
def judgeTableRead (t : Option TableName) (i : Nat) (s : State) : Judged :=
  match t.bind fun t => tableRow s t i with
  | none => .no .range
  | some d => .yes s d

/-! ## STATUS READ (R182) -/

/-- Section DEVICE. DESIGN CHOICE, log entry 39: a running bridge-loss timer shows the instant of its expiry. -/
def deviceStatus (s : State) : DeviceStatus where
  device := s.device
  al := s.alerts.al
  gaActive := s.ga.active
  gaSlot := s.alerts.gaSlot.isSome
  remembered := s.ga.remembered.isSome
  escalation := s.alerts.escalation.isSome
  up := ⟨s.ports.deckA.up, s.ports.deckB.up, s.ports.bridge.up⟩
  grade := ⟨s.quality.a.grade, s.quality.b.grade⟩
  bridgeLoss := s.bridgeLoss
  pending := (pendingCodes s).length
  stack := s.alerts.stack.length
  pass := s.alerts.pass.length
  calls := s.calls.length

/-- A record as STATUS READ shows it. -/
def AlertRecord.view (r : AlertRecord) : RecordView := ⟨r.code, r.level, r.attrs, r.overdue⟩

/-- A zone as STATUS READ shows it. -/
def zoneView (s : State) (z : ZoneId) : ZoneView :=
  let d := s.zoneDyn.get z
  ⟨d.state, d.cause, d.fire, d.override, d.clear, d.awaitingClear, d.remaining⟩

/-- A door as STATUS READ shows it. -/
def doorView (s : State) (d : DoorId) : DoorView :=
  let x := s.doorDyn.get d
  ⟨x.state, x.command, x.obstructions⟩

/-- A ramp as STATUS READ shows it. -/
def rampView (s : State) (r : RampId) : RampView :=
  let d := s.rampDyn.get r
  ⟨d.state, d.referenced, d.p, d.t, d.vset, vmeas d, d.fault⟩

/-- A call as STATUS READ shows it. -/
def CallRecord.view (c : CallRecord) : CallView :=
  ⟨c.origin, c.message, c.zones, c.priority, c.repeats, c.left, c.state, c.incomplete, c.preempted⟩

/-- A zone line as STATUS READ shows it. -/
def zoneLineView (s : State) (z : ZoneId) : ZoneLineState × Option Nat :=
  let l := s.zoneLines.get z
  (l.state, l.carried.map (placeOf s))

/-- Up to `count` items of a list from `first`; none when `first` lies outside `0..size - 1`. -/
def window {α : Type} (size count first : Nat) (l : List α) : Option (List α) :=
  if first < size then some ((l.drop first).take count) else none

/-- R182: the contents of a section; none for a first index outside its range. -/
def statusSection (s : State) (part : Section) (first : Nat) : Option Data :=
  match part with
  | .device => some (.statusDevice (deviceStatus s))
  | .pending => some (.statusPending (pendingCodes s))
  | .stack =>
    some (.statusStack (s.alerts.stack.map (·.view)) (s.alerts.gaSlot.map (·.view)) (s.alerts.escalation.map (·.view)))
  | .pass => (window 8 4 first (s.alerts.pass.map (·.view))).map .statusPass
  | .zones => (window 8 4 first ((List.finRange 8).map (zoneView s))).map .statusZones
  | .doors => (window 24 8 first ((List.finRange 24).map (doorView s))).map .statusDoors
  | .ramps => (index? 4 first).map fun r => .statusRamp (rampView s r)
  | .calls => (window 16 3 first (s.calls.map (·.view))).map .statusCalls
  | .lines => some (.statusLines ((List.finRange 8).map (zoneLineView s)))

/-- R182: STATUS READ; it changes nothing. -/
def judgeStatusRead (part : Option Section) (first : Nat) (s : State) : Judged :=
  match part.bind fun p => statusSection s p first with
  | none => .no .range
  | some d => .yes s d

/-! ## COUNTER READ (R167) -/

/-- The counters that one COUNTER READ returns: from `first` to `first + 5`, or to 12. -/
def countersFrom (first : CounterId) : List CounterId :=
  (List.finRange 13).filter fun i => decide (first.val ≤ i.val) && decide (i.val ≤ first.val + 5)

/-- R167: COUNTER READ, with or without clear. -/
def judgeCounterRead (set : Option CounterSet) (first : Nat) (clear : Bool) (s : State) : Judged :=
  match set, index? 13 first with
  | some c, some i =>
    let ids := countersFrom i
    let values := ids.map (counter s c)
    let t := if clear then ids.foldl (fun s j => setCounter c j 0 s) s else s
    .yes t (.counters c i.val values)
  | _, _ => .no .range

/-! ## MIRROR READ and MIRROR PURGE (R51, R52) -/

/-- R52: MIRROR READ; it changes nothing. -/
def judgeMirrorRead (i : Nat) (s : State) : Judged :=
  withIndex i fun k : Fin 64 => .yes s (.mirrorLine (s.mirror.get k) (lineAddress k (s.mirror.get k)))

/-- R51: MIRROR PURGE, answered with the number of lines it invalidated. -/
def judgeMirrorPurge (scope : PurgeScope) (s : State) : Judged :=
  match scope with
  | .all => .yes (invalidateAll s) (.purged (validLines s))
  | .address n =>
    match addr? n with
    | none => .no .range
    | some a => .yes (invalidateStation a s) (.purged (if holdsCopy s a then 1 else 0))
  | .index i =>
    withIndex i fun k : Fin 64 =>
      .yes (s.modMirror k (·.invalid)) (.purged (if (s.mirror.get k).valid then 1 else 0))
  | .outside => .no .range

end Sys2Proof.Machine
end

