-- ==== Sys2Proof/Machine/Requests.lean ====
section
/-! DEFINITION. The requests that act: the device state, the general alarm, codes, timers, zones, calls and ramps (R64,
R87, R89, R93 to R95, R106, R107, R109, R111, R115, R119, R140, R149, R154, R161, R162, R178, R180, R181). -/

namespace Sys2Proof.Machine

/-! ## Device state (R93, R178, R180, R181) -/

/-- The Bridge Port is UP. -/
def bridgeUp (s : State) : Bool := (s.port .bridge).up

/-- R178: START. -/
def judgeStart (s : State) : Judged :=
  if s.device ≠ .config ∨ bridgeUp s = false then .no .state
  else
    match checkTables s with
    | some f => .refused .table (some f)
    | none => .yes (enterRun false s) .none

/-- R180: STOP. -/
def judgeStop (s : State) : Judged := inServiceOnly s (.yes (resetBlocks s) .none)

/-- R181: RESTART. DESIGN CHOICE, log entry 40: the reply carries the device state and the failure or none also when
the check passes, where R181 names no data. -/
def judgeRestart (s : State) : Judged :=
  if s.device = .config ∨ bridgeUp s = false then .no .state
  else
    let q := restartPart s
    .yes q.2 (.restarted q.2.device q.1)

/-- R93: RESUME. -/
def judgeResume (s : State) : Judged :=
  if s.device ≠ .autonomous ∨ bridgeUp s = false then .no .state
  else .yes { s with device := .run } .none

/-! ## General alarm (R87, R89) -/

/-- The three items of the general alarm, with "lost". -/
def alarmData (lost : Bool) (s : State) : Data :=
  .alarm s.ga.active s.alerts.gaSlot.isSome s.ga.remembered.isSome lost

/-- R87: GENERAL ALARM. -/
def judgeGeneralAlarm (s : State) : Judged :=
  let q := alarmRaise .request 0 s
  inServiceOnly s (.taken q.2 (alarmData q.1))

/-- R89: GENERAL ALARM CLEAR. -/
def judgeGeneralAlarmClear (s : State) : Judged := inServiceOnly s (.taken (alarmClear s) (alarmData false))

/-! ## Codes (R94, R95) -/

/-- The activation of a TEST RAISE (R94). -/
def testActivation (c : Code) : Activation := ⟨c, ⟨.request, none, none, 0⟩, false⟩

/-- R94: the state of a code after its raise. -/
def raiseState (c : Code) (s : State) : RaiseState :=
  match (s.codes.get c).answer with
  | some a => .offered a
  | none => if isHeld s c then .held else .pending

/-- R94: a TEST RAISE that passes its tests. DESIGN CHOICE, log entry 37: the DONE reply of an absent code names a
state of the model's own, `vectorFault`, since R94 names none for it. -/
def testRaise (c : Code) (s : State) : Judged :=
  let e := s.vectors.get c
  let t := raiseCode (testActivation c) s
  if !e.present then .yes t (.testRaise .vectorFault)
  else if e.level = 0 then .yes s (.testRaise .masked)
  else .taken t fun u => .testRaise (raiseState c u)

/-- R94: TEST RAISE, tested in its own order. -/
def judgeTestRaise (h : Header) (n : Nat) (s : State) : Judged :=
  withIndex n fun c : Fin 64 =>
    let e := s.vectors.get c
    if c.val < 3 then .no .range
    else if s.device = .config then .no .state
    else if e.present ∧ authorityOf h < e.authority then .no .authority
    else testRaise c s

/-- R95: WITHDRAW. -/
def judgeWithdraw (n : Nat) (s : State) : Judged :=
  withIndex n fun c : Fin 64 =>
    if c.val = 0 then .no .range
    else
      let q := withdrawCode c s
      .taken q.2 fun u => .withdraw q.1 (isPending u c)

/-! ## Timers (R64) -/

/-- The count of a channel. -/
def timerCount (ch : ChannelId) (s : State) : Data := .timerCount (s.timerDyn.get ch).count

/-- R64: TIMER START. -/
def judgeTimerStart (n : Nat) (s : State) : Judged :=
  withIndex n fun ch : Fin 8 =>
    let t := startChannel ch s
    inServiceOnly s (.yes t (timerCount ch t))

/-- R64: TIMER STOP, taken in every device state. -/
def judgeTimerStop (n : Nat) (s : State) : Judged :=
  withIndex n fun ch : Fin 8 =>
    let t := s.modTimer ch (·.halted)
    .yes t (timerCount ch t)

/-! ## Zones (R106, R107, R109, R111, R115, R119) -/

/-- A zone's state and cause, with "no effect", as ZONE CLOSE is answered (R111). DESIGN CHOICE, log entry 33: ZONE OPEN,
for which R119 names only "no effect", and CLOSE NOW, for which R115 names the state alone, carry the same items. -/
def zoneData (z : ZoneId) (noEffect : Bool) (s : State) : Data :=
  .zone (s.zoneDyn.get z).state (s.zoneDyn.get z).cause noEffect

/-- R111: ZONE CLOSE. -/
def judgeZoneClose (n : Nat) (cause : CloseCause) (s : State) : Judged :=
  withIndex n fun z : Fin 8 =>
    let q := zoneCloseJudged z cause s
    inServiceOnly s (.yes q.2 (zoneData z (!q.1) q.2))

/-- R119: ZONE OPEN; refused STATE while the fire flag is set or a fire close runs, without effect in OPENING. -/
def judgeZoneOpen (n : Nat) (s : State) : Judged :=
  withIndex n fun z : Fin 8 =>
    let q := zoneOpenJudged z s
    inServiceOnly s <|
      match q.1 with
      | .taken => .yes q.2 (zoneData z false q.2)
      | .busy => .no .state
      | .refused => if (s.zoneDyn.get z).fire then .no .state else .yes s (zoneData z true s)

/-- R115: CLOSE NOW. -/
def judgeCloseNow (n : Nat) (s : State) : Judged :=
  withIndex n fun z : Fin 8 =>
    if inService s ∧ (s.zoneDyn.get z).state = .countdown then
      let t := enterClosing z s
      .yes t (zoneData z false t)
    else .no .state

/-- R109: ZONE CLEAR, taken in every device state. -/
def judgeZoneClear (n : Nat) (s : State) : Judged :=
  withIndex n fun z : Fin 8 => .yes (setClear z s) .none

/-- R106: FIRE DECLARE, taken in every device state. -/
def judgeFireDeclare (n : Nat) (s : State) : Judged :=
  withIndex n fun z : Fin 8 =>
    let t := setFire z ⟨.request, none, some z, 0⟩ s
    .yes t (.fire (t.zoneDyn.get z).fire (s.zoneDyn.get z).fire)

/-- R107: the fire flag of a zone is cleared. -/
def clearFire (z : ZoneId) (s : State) : State := fireChanged z (s.modZone z fun d => { d with fire := false })

/-- R107: FIRE CLEAR, taken in every device state; a clear flag stays clear (log entry 24). -/
def judgeFireClear (n : Nat) (s : State) : Judged :=
  withIndex n fun z : Fin 8 =>
    if (s.zoneDyn.get z).fire = false then .yes s (.fire false false)
    else if (burningDetector s z).isSome then .no .state
    else
      let t := clearFire z s
      .yes t (.fire (t.zoneDyn.get z).fire false)

/-- R107: FIRE OVERRIDE, taken in every device state. -/
def judgeFireOverride (n : Nat) (on : Bool) (s : State) : Judged :=
  withIndex n fun z : Fin 8 =>
    let t := fireChanged z (s.modZone z fun d => { d with override := on })
    .yes t (.fireOverride (t.zoneDyn.get z).fire (t.zoneDyn.get z).override)

/-! ## Calls (R140) -/

/-- R140: how an accepted CALL is answered, before the arbitration pass that follows it. DESIGN CHOICE, log entry 38:
the outcome "queued, evicted" carries the new record's place besides the origin and message of the evicted one, which
are all that R140 names. -/
def callOutcome (ans : CallAnswer) (s : State) : Except Reason CallOutcome :=
  match ans with
  | .queued k => .ok (.queued (placeOf s k))
  | .merged k =>
    match s.call? k with
    | none => .error .state
    | some c => .ok (.merged (placeOf s k) c.repeats c.zones)
  | .evicted k old => .ok (.evicted (placeOf s k) old.origin old.message)
  | .notInUse => .error .state
  | .full => .error .full

/-- R140: CALL. -/
def judgeCallRequest (message : Nat) (zones : List Nat) (priority repeats : Nat) (s : State) : Judged :=
  match index? 256 message, zoneSetOf zones with
  | some m, some zs =>
    let q := requestCall ⟨.bridge, m, zs, clamp 0 15 priority, clamp 0 8 repeats⟩ s
    inServiceOnly s <|
      match callOutcome q.1 q.2 with
      | .error reason => .no reason
      | .ok o => .yes (arbitrate q.2) (.call o)
  | _, _ => .no .range

/-- R140: CALL CANCEL. -/
def judgeCallCancel (message : Nat) (s : State) : Judged :=
  withIndex message fun m : Fin 256 =>
    let q := cancelCall .bridge m s
    inServiceOnly s (.yes q.2 (.callCancel (!q.1)))

/-! ## Ramps (R149, R154, R161, R162) -/

/-- A judgement of the Ramp Controller as a request's. -/
def rampAnswer (j : Except Reason (RampNote × State)) (clamped : Bool) : Judged :=
  match j with
  | .error reason => .no reason
  | .ok (note, t) => .yes t (.rampNote note clamped)

/-- A request taken in RUN only: outside RUN the permissive fails (R149, R151, R154). -/
def inRunOnly (s : State) (j : Judged) : Judged := if s.device = .run then j else .no .state

/-- R154: RAMP MOVE. -/
def judgeRampMove (n : Nat) (target : Int) (s : State) : Judged :=
  withIndex n fun r : Fin 4 =>
    let clamped := decide (clampTarget (s.ramps.get r).pmax target ≠ target)
    inRunOnly s (rampAnswer (rampMoveJudged r target s) clamped)

/-- R149: RAMP HOME. -/
def judgeRampHome (n : Nat) (s : State) : Judged :=
  withIndex n fun r : Fin 4 => inRunOnly s (rampAnswer (rampHomeJudged r s) false)

/-- R161: RAMP STOP, taken in every device state. -/
def judgeRampStop (n : Nat) (s : State) : Judged :=
  withIndex n fun r : Fin 4 =>
    let t := holdRamp r 7 s
    .yes t (.rampState (t.rampDyn.get r).state (!(s.rampDyn.get r).state.isActive))

/-- R162: RAMP RELEASE, taken in every device state. -/
def judgeRampRelease (n : Nat) (s : State) : Judged :=
  withIndex n fun r : Fin 4 =>
    match rampReleaseJudged r s with
    | .error reason => .no reason
    | .ok t => .yes t (.rampState (t.rampDyn.get r).state false)

end Sys2Proof.Machine
end

