-- ==== Sys2Proof/Machine/Writes.lean ====
section
/-! DEFINITION. The table writes: range tests, clamps, the state of the part, and what an accepted write does to the
block that owns the table (R18, R39, R40, R54, R61, R63, R69, R71, R98, R99, R124, R143, R175, R176). -/

namespace Sys2Proof.Machine

/-- R39: STATION write. -/
def judgeStationWrite (n : Nat) (f : StationFields) (s : State) : Judged :=
  match addr? n, stationOf f with
  | some a, some r =>
    match stationWriteRefusal s a r with
    | some reason => .no reason
    | none => .yes (writeStation a r s) (.stationStored r)
  | _, _ => .no .range

/-- R98: an accepted ZONE write keeps the zone's dynamic items and sets its line afresh (R142). -/
def writeZone (z : ZoneId) (r : ZoneRecord) (s : State) : State :=
  let s : State := { s with zones := Tab.put s.zones z r }
  let line := freshLine s z
  s.modZoneLine z fun _ => line

/-- R98: ZONE write. -/
def judgeZoneWrite (n : Nat) (f : ZoneFields) (s : State) : Judged :=
  match index? 8 n, zoneOf f with
  | some z, some r => inConfigOnly s (.yes (writeZone z r s) (.zoneStored r))
  | _, _ => .no .range

/-- R99: an accepted DOOR write gives the door its power-on items; the zones it leaves and joins take their rest states
(R104). -/
def writeDoor (d : DoorId) (r : DoorRecord) (s : State) : State :=
  let old := doorZone s d
  let s : State := { s with doors := Tab.put s.doors d r }
  let s := s.modDoor d fun _ => DoorDyn.powerOn
  refreshRest r.zone (refreshRest old s)

/-- R99: DOOR write. -/
def judgeDoorWrite (n : Nat) (f : DoorFields) (s : State) : Judged :=
  match index? 24 n, doorOf f with
  | some d, some r => inConfigOnly s (.yes (writeDoor d r s) (.doorStored r))
  | _, _ => .no .range

/-- R143: a ramp after an accepted RAMP write. -/
def RampDyn.rewritten (d : RampDyn) : RampDyn :=
  if d.state = .held ∨ d.state = .fault then
    { d with
      state := if d.referenced then .idle else .unreferenced
      fault := none, t := none, overspeed := 0, direction := 0, stall := 0 }
  else d

/-- R143: an accepted RAMP write; the enable output of a ramp that was HELD or FAULT is ordered de-energised. -/
def writeRamp (r : RampId) (cfg : RampRecord) (s : State) : State :=
  let st := (s.rampDyn.get r).state
  let s := if st = .held ∨ st = .fault then orderEnable r false s else s
  let s : State := { s with ramps := Tab.put s.ramps r cfg }
  s.modRamp r (·.rewritten)

/-- R143: RAMP write. -/
def judgeRampWrite (n : Nat) (f : RampFields) (s : State) : Judged :=
  match index? 4 n, rampOf f with
  | some r, some cfg => inConfigOnly s (.yes (writeRamp r cfg s) (.rampStored cfg))
  | _, _ => .no .range

/-- R54: LINE write. -/
def judgeLineWrite (n : Nat) (f : LineFields) (s : State) : Judged :=
  match index? 16 n, lineOf f with
  | some i, some e => inConfigOnly s (.yes (writeLine i e s) (.lineStored e))
  | _, _ => .no .range

/-- R63: TIMER write. -/
def judgeTimerWrite (n : Nat) (f : TimerFields) (s : State) : Judged :=
  match index? 8 n, timerOf f with
  | some ch, some r =>
    if (s.timerDyn.get ch).running then .no .busy
    else .yes { s with timers := Tab.put s.timers ch r } (.timerStored r)
  | _, _ => .no .range

/-- R69: VECTOR write; codes 0, 1 and 2 are out of range. -/
def judgeVectorWrite (n : Nat) (f : VectorFields) (s : State) : Judged :=
  match index? 64 n, vectorOf f with
  | some c, some e => if c.val < 3 then .no .range else .yes (writeVector c e s) (.vectorStored e)
  | _, _ => .no .range

/-- R124: MESSAGE write. -/
def judgeMessageWrite (n : Nat) (f : MessageFields) (s : State) : Judged :=
  withIndex n fun m : Fin 256 =>
    let r := messageOf f
    if inService s ∧ m.val = 0 ∧ r.inUse = false then .no .state
    else if 0 < queuedCount s m then .no .busy
    else .yes { s with messages := Tab.put s.messages m r } (.messageStored r)

/-- R175, R176: DEVICE write of one field. -/
def judgeDeviceWrite (f : DeviceField) (s : State) : Judged :=
  match deviceOf s.record f with
  | none => .no .range
  | some r =>
    if s.device = .config ∨ openInService f = true then .yes { s with record := r } (.deviceStored r)
    else .no .state

end Sys2Proof.Machine
end

