-- ==== Sys2Proof/Machine/Serve.lean ====
section
/-! DEFINITION. Each management request as it is served (its name, its least authority and its judgement, R174), and
the serving of the request that a MGMT frame carries (R26, R173). -/

namespace Sys2Proof.Machine

def serveTableRead (h : Header) (t : Option TableName) (i : Nat) (s : State) : State :=
  serve h .tableRead 0 (judgeTableRead t i s) s

def serveStationWrite (h : Header) (n : Nat) (f : StationFields) (s : State) : State :=
  serve h .stationWrite 3 (judgeStationWrite n f s) s

def serveZoneWrite (h : Header) (n : Nat) (f : ZoneFields) (s : State) : State :=
  serve h .zoneWrite 3 (judgeZoneWrite n f s) s

def serveDoorWrite (h : Header) (n : Nat) (f : DoorFields) (s : State) : State :=
  serve h .doorWrite 3 (judgeDoorWrite n f s) s

def serveRampWrite (h : Header) (n : Nat) (f : RampFields) (s : State) : State :=
  serve h .rampWrite 3 (judgeRampWrite n f s) s

def serveLineWrite (h : Header) (n : Nat) (f : LineFields) (s : State) : State :=
  serve h .lineWrite 3 (judgeLineWrite n f s) s

def serveTimerWrite (h : Header) (n : Nat) (f : TimerFields) (s : State) : State :=
  serve h .timerWrite 3 (judgeTimerWrite n f s) s

def serveVectorWrite (h : Header) (n : Nat) (f : VectorFields) (s : State) : State :=
  serve h .vectorWrite 3 (judgeVectorWrite n f s) s

def serveMessageWrite (h : Header) (n : Nat) (f : MessageFields) (s : State) : State :=
  serve h .messageWrite 3 (judgeMessageWrite n f s) s

def serveDeviceWrite (h : Header) (f : DeviceField) (s : State) : State :=
  serve h .deviceWrite 3 (judgeDeviceWrite f s) s

def serveStatusRead (h : Header) (part : Option Section) (first : Nat) (s : State) : State :=
  serve h .statusRead 0 (judgeStatusRead part first s) s

/-- R167: authority 3 with clear, 0 without. -/
def serveCounterRead (h : Header) (set : Option CounterSet) (first : Nat) (clear : Bool) (s : State) : State :=
  serve h .counterRead (if clear then 3 else 0) (judgeCounterRead set first clear s) s

def serveMirrorRead (h : Header) (i : Nat) (s : State) : State :=
  serve h .mirrorRead 0 (judgeMirrorRead i s) s

def serveMirrorPurge (h : Header) (scope : PurgeScope) (s : State) : State :=
  serve h .mirrorPurge 2 (judgeMirrorPurge scope s) s

def serveStart (h : Header) (s : State) : State := serve h .start 3 (judgeStart s) s

def serveStop (h : Header) (s : State) : State := serve h .stop 3 (judgeStop s) s

def serveRestart (h : Header) (s : State) : State := serve h .restart 3 (judgeRestart s) s

def serveResume (h : Header) (s : State) : State := serve h .resume 2 (judgeResume s) s

def serveGeneralAlarm (h : Header) (s : State) : State := serve h .generalAlarm 2 (judgeGeneralAlarm s) s

def serveGeneralAlarmClear (h : Header) (s : State) : State :=
  serve h .generalAlarmClear 3 (judgeGeneralAlarmClear s) s

def serveTestRaise (h : Header) (c : Nat) (s : State) : State := serve h .testRaise 2 (judgeTestRaise h c s) s

def serveWithdraw (h : Header) (c : Nat) (s : State) : State := serve h .withdraw 2 (judgeWithdraw c s) s

def serveTimerStart (h : Header) (n : Nat) (s : State) : State := serve h .timerStart 2 (judgeTimerStart n s) s

def serveTimerStop (h : Header) (n : Nat) (s : State) : State := serve h .timerStop 2 (judgeTimerStop n s) s

def serveZoneClose (h : Header) (z : Nat) (cause : CloseCause) (s : State) : State :=
  serve h .zoneClose 2 (judgeZoneClose z cause s) s

def serveZoneOpen (h : Header) (z : Nat) (s : State) : State := serve h .zoneOpen 2 (judgeZoneOpen z s) s

def serveCloseNow (h : Header) (z : Nat) (s : State) : State := serve h .closeNow 2 (judgeCloseNow z s) s

def serveZoneClear (h : Header) (z : Nat) (s : State) : State := serve h .zoneClear 1 (judgeZoneClear z s) s

def serveFireDeclare (h : Header) (z : Nat) (s : State) : State := serve h .fireDeclare 2 (judgeFireDeclare z s) s

def serveFireClear (h : Header) (z : Nat) (s : State) : State := serve h .fireClear 3 (judgeFireClear z s) s

def serveFireOverride (h : Header) (z : Nat) (on : Bool) (s : State) : State :=
  serve h .fireOverride 3 (judgeFireOverride z on s) s

def serveCall (h : Header) (m : Nat) (zones : List Nat) (priority repeats : Nat) (s : State) : State :=
  serve h .call 1 (judgeCallRequest m zones priority repeats s) s

def serveCallCancel (h : Header) (m : Nat) (s : State) : State := serve h .callCancel 1 (judgeCallCancel m s) s

def serveRampMove (h : Header) (r : Nat) (target : Int) (s : State) : State :=
  serve h .rampMove 2 (judgeRampMove r target s) s

def serveRampHome (h : Header) (r : Nat) (s : State) : State := serve h .rampHome 2 (judgeRampHome r s) s

def serveRampStop (h : Header) (r : Nat) (s : State) : State := serve h .rampStop 1 (judgeRampStop r s) s

def serveRampRelease (h : Header) (r : Nat) (s : State) : State := serve h .rampRelease 2 (judgeRampRelease r s) s

/-- The request that a MGMT frame carries is served. -/
def serveRequest (h : Header) (q : Request) (s : State) : State :=
  match q with
  | .tableRead t i => serveTableRead h t i s
  | .stationWrite n f => serveStationWrite h n f s
  | .zoneWrite n f => serveZoneWrite h n f s
  | .doorWrite n f => serveDoorWrite h n f s
  | .rampWrite n f => serveRampWrite h n f s
  | .lineWrite n f => serveLineWrite h n f s
  | .timerWrite n f => serveTimerWrite h n f s
  | .vectorWrite n f => serveVectorWrite h n f s
  | .messageWrite n f => serveMessageWrite h n f s
  | .deviceWrite f => serveDeviceWrite h f s
  | .statusRead part first => serveStatusRead h part first s
  | .counterRead set first clear => serveCounterRead h set first clear s
  | .mirrorRead i => serveMirrorRead h i s
  | .mirrorPurge scope => serveMirrorPurge h scope s
  | .start => serveStart h s
  | .stop => serveStop h s
  | .restart => serveRestart h s
  | .resume => serveResume h s
  | .generalAlarm => serveGeneralAlarm h s
  | .generalAlarmClear => serveGeneralAlarmClear h s
  | .testRaise c => serveTestRaise h c s
  | .withdraw c => serveWithdraw h c s
  | .timerStart n => serveTimerStart h n s
  | .timerStop n => serveTimerStop h n s
  | .zoneClose z cause => serveZoneClose h z cause s
  | .zoneOpen z => serveZoneOpen h z s
  | .closeNow z => serveCloseNow h z s
  | .zoneClear z => serveZoneClear h z s
  | .fireDeclare z => serveFireDeclare h z s
  | .fireClear z => serveFireClear h z s
  | .fireOverride z on => serveFireOverride h z on s
  | .call m zones priority repeats => serveCall h m zones priority repeats s
  | .callCancel m => serveCallCancel h m s
  | .rampMove r target => serveRampMove h r target s
  | .rampHome r => serveRampHome h r s
  | .rampStop r => serveRampStop h r s
  | .rampRelease r => serveRampRelease h r s

/-- The reading of the shortest prefix of a payload that has one; the bytes after that prefix are not read. -/
def firstReading {α : Type} (read : List Byte → Option α) (payload : List Byte) : Option α :=
  (List.range (payload.length + 1)).findSome? fun n => read (payload.take n)

/-- R173, R174: the request that a MGMT payload spells, with its authority: what its bytes spell up to the last
parameter, the bytes after it being ignored; `none` when the name is not in the table of requests or the payload ends
before the parameters are complete (log entry 1). -/
def readRequest (payload : List Byte) : Option (Nat × Request) := firstReading Config.mgmtRequest payload

/-- R173: the request name that a MGMT payload carries, `unknown` for one that is not in the table of requests (log
entry 1). -/
def readName (payload : List Byte) : ReqName := (firstReading Config.mgmtName payload).getD .unknown

/-- R26, R173, R174: a MGMT frame handed to the Management Unit; a payload that spells no complete request is refused
UNKNOWN, under the request name it carries. -/
def serveFrame (f : Frame) (s : State) : State :=
  match readRequest f.payload with
  | none => answer ⟨f.source, f.tag, 0⟩ (readName f.payload) (.refused .unknown none) s
  | some (authority, q) => serveRequest ⟨f.source, f.tag, authority⟩ q s

/-- R26: a frame taken from the Bridge receive queue. -/
def bridgeFrame (f : Frame) (s : State) : State :=
  if f.destination = 0 then
    if f.kind = kindMgmt then serveFrame f s
    else
      match decide (f.kind = kindAck), f.payload with
      | true, [c] => ackByte c s
      | _, _ => filterFrame .bridge s
  else stationFrame f s

end Sys2Proof.Machine
end

