-- ==== Sys2Proof/Machine/Ports.lean ====
section
/-! DEFINITION. The commands of the port units, the Classifier and the line quality monitors, and of power: POWER_ON,
RESET_ASSERTION, SIGNAL_REPORT, LOSS_OF_SIGNAL, BRIDGE_LOSS_EXPIRY, FRAME_END, TRANSMISSION_END, DECK_FRAME_TAKEN,
BRIDGE_FRAME_TAKEN, SUPERVISION_EXPIRY, QUALITY_WINDOW_END. -/

namespace Sys2Proof.Machine

/-- What a command answers: its effect, then the judgement that ends every command; no effect while RESET is asserted
(R177, log entry 10). -/
def concluded (s : State) (effect : State → State) : Host.Outcome State Fault Refusal :=
  .next (if s.resetHeld then s else settle (effect s))

/-- What a management request answers: it is served, which ends with the judgement; no effect while RESET is
asserted. -/
def served (s : State) (effect : State → State) : Host.Outcome State Fault Refusal :=
  .next (if s.resetHeld then s else effect s)

/-! ## Power (R177) -/

/-- POWER_ON: every block in its power-on state, the strap pins read; the pin levels and the queue stay. -/
def execPowerOn (strap1Low strap2Low : Bool) (s : State) : Host.Outcome State Fault Refusal :=
  .next (State.powerOn ⟨strap1Low, strap2Low⟩ s.pins false s.pending)

/-- RESET_ASSERTION: every block in its power-on state until RESET is released by POWER_ON. -/
def execResetAssertion (s : State) : Host.Outcome State Fault Refusal :=
  .next (State.powerOn s.straps s.pins true s.pending)

/-! ## Line state (R15, R16, R169, R171) -/

/-- R169: a window starts, its length and threshold read from the Device Record. -/
def startWindow (d : Deck) (s : State) : State :=
  let q := s.record.quality.at d
  let due := s.inMs q.windowLength
  s.modQuality d fun m => { m with window := .running due q.threshold, count := 0 }

/-- R171: the window stops with its count discarded and the clean run 0; the grade keeps its value. -/
def stopWindow (d : Deck) (s : State) : State :=
  s.modQuality d fun m => { m with window := .stopped, count := 0, cleanRun := 0 }

/-- R15, R16, R171: the users of a port that has become UP are told. -/
def portRises (p : Port) (s : State) : State :=
  match p with
  | .deckA => startWindow .a s
  | .deckB => startWindow .b s
  | .bridge => { s with bridgeLoss := .stopped }

/-- R15: the receiver reports signal. -/
def signal (p : Port) (s : State) : State :=
  if (s.port p).up then s else portRises p (s.modPort p fun u => { u with up := true })

/-- R15, R16, R50, R171: the users of a port that has become DOWN are told. -/
def portFalls (p : Port) (s : State) : State :=
  match p with
  | .deckA => invalidateDeck .a (stopWindow .a s)
  | .deckB => invalidateDeck .b (stopWindow .b s)
  | .bridge => { s with bridgeLoss := .running (s.inSec s.record.bridgeLossTime) }

/-- R15: the frames that a port flushes when it becomes DOWN: those waiting and the one being sent. -/
def flushedByLoss (u : PortUnit) : Nat := u.tx.length + if u.sending.isSome then 1 else 0

/-- R15: the receiver reports loss of signal; a frame being received is a bad frame. DESIGN CHOICE, log entry 35: the
bad frame is counted before the flushed frames. -/
def loss (p : Port) (receiving : Bool) (s : State) : State :=
  if (s.port p).up then
    let s := if receiving then badFrame p s else s
    let n := flushedByLoss (s.port p)
    let s := s.modPort p fun u => { u with up := false, tx := [], sending := none }
    portFalls p (bump (portSet p) ctrFlushed n s)
  else s

/-- R16: the bridge-loss timer expires. -/
def bridgeLost (s : State) : State :=
  if s.bridgeLoss.isRunning then enterAutonomous { s with bridgeLoss := .stopped } else s

/-- SIGNAL_REPORT. -/
def execSignalReport (p : Port) (s : State) : Host.Outcome State Fault Refusal := concluded s (signal p)

/-- LOSS_OF_SIGNAL. -/
def execLossOfSignal (p : Port) (receiving : Bool) (s : State) : Host.Outcome State Fault Refusal :=
  concluded s (loss p receiving)

/-- BRIDGE_LOSS_EXPIRY. -/
def execBridgeLossExpiry (s : State) : Host.Outcome State Fault Refusal := concluded s bridgeLost

/-! ## Frames received and sent (R10, R12) -/

/-- R10: a frame body ends at line idle on a port that is UP; bytes without a start delimiter are no frame body (R1). -/
def frameEnds (p : Port) (bytes : List Byte) (s : State) : State :=
  if (s.port p).up then
    match bodyAfterDelimiter bytes with
    | none => s
    | some body =>
      match parseBody body with
      | none => badFrame p s
      | some f => acceptFrame p f s
  else s

/-- R12: a transmission ends; the frame is counted and the next one starts. -/
def transmissionEnds (p : Port) (s : State) : State :=
  if (s.port p).sending.isSome then
    startTransmission p (bumpPort p ctrTransmitted (s.modPort p fun u => { u with sending := none }))
  else s

/-- FRAME_END. -/
def execFrameEnd (p : Port) (bytes : List Byte) (s : State) : Host.Outcome State Fault Refusal :=
  concluded s (frameEnds p bytes)

/-- TRANSMISSION_END. -/
def execTransmissionEnd (p : Port) (s : State) : Host.Outcome State Fault Refusal := concluded s (transmissionEnds p)

/-! ## Frames taken and supervision (R11, R21, R26, R36) -/

/-- R11: the frame at the head of a port's receive queue is taken. -/
def takeHead (p : Port) (use : Frame → State → State) (s : State) : State :=
  match (s.port p).rx with
  | [] => s
  | f :: rest => use f (s.modPort p fun u => { u with rx := rest })

/-- DECK_FRAME_TAKEN. -/
def execDeckFrameTaken (d : Deck) (s : State) : Host.Outcome State Fault Refusal :=
  concluded s (takeHead (deckPort d) (deckFrame d))

/-- BRIDGE_FRAME_TAKEN. -/
def execBridgeFrameTaken (s : State) : Host.Outcome State Fault Refusal := concluded s (takeHead .bridge bridgeFrame)

/-- SUPERVISION_EXPIRY. -/
def execSupervisionExpiry (s : State) : Host.Outcome State Fault Refusal := concluded s superviseAll

/-! ## Line quality (R170) -/

/-- R170: the detail of a quality code. -/
def qualityDetail (d : Deck) (g : Grade) : Word16 :=
  BitVec.ofNat 16 ((match d with
    | .a => 0
    | .b => 16) + match g with
    | .degraded => 1
    | .good => 2)

/-- R170: the grade of a deck line changes; the mirror is told of a passage to DEGRADED and the quality code raised. -/
def changeGrade (d : Deck) (g : Grade) (s : State) : State :=
  let s := s.modQuality d fun m => { m with grade := g, cleanRun := 0 }
  let s := if g = .degraded then invalidateDeck d s else s
  raiseInternal (s.record.quality.at d).code none none (qualityDetail d g) s

/-- R170: the window count is judged against the window's threshold. -/
def judgeWindow (d : Deck) (threshold : Nat) (s : State) : State :=
  let m := s.quality.at d
  match m.grade with
  | .good => if threshold ≤ m.count then changeGrade d .degraded s else s
  | .degraded =>
    if m.count = 0 then
      if 3 ≤ m.cleanRun + 1 then changeGrade d .good s
      else s.modQuality d fun m => { m with cleanRun := m.cleanRun + 1 }
    else s.modQuality d fun m => { m with cleanRun := 0 }

/-- R170: a window ends and the next one starts. -/
def windowEnds (d : Deck) (s : State) : State :=
  match (s.quality.at d).window with
  | .stopped => s
  | .running _ threshold => startWindow d (judgeWindow d threshold s)

/-- QUALITY_WINDOW_END. -/
def execQualityWindowEnd (d : Deck) (s : State) : Host.Outcome State Fault Refusal := concluded s (windowEnds d)

end Sys2Proof.Machine
end

