-- ==== Sys2Proof/Machine/ActCommands.lean ====
section
/-! DEFINITION. The request commands: the requests that act on the device state, the alarm, codes, timers, zones, calls and ramps. Each is served as Serve.lean judges
and answers it. -/

namespace Sys2Proof.Machine

/-- START. -/
def execStart (h : Header) (s : State) : Host.Outcome State Fault Refusal := served s (serveStart h)

/-- STOP. -/
def execStop (h : Header) (s : State) : Host.Outcome State Fault Refusal := served s (serveStop h)

/-- RESTART. -/
def execRestart (h : Header) (s : State) : Host.Outcome State Fault Refusal := served s (serveRestart h)

/-- RESUME. -/
def execResume (h : Header) (s : State) : Host.Outcome State Fault Refusal := served s (serveResume h)

/-- GENERAL_ALARM. -/
def execGeneralAlarm (h : Header) (s : State) : Host.Outcome State Fault Refusal := served s (serveGeneralAlarm h)

/-- GENERAL_ALARM_CLEAR. -/
def execGeneralAlarmClear (h : Header) (s : State) : Host.Outcome State Fault Refusal :=
  served s (serveGeneralAlarmClear h)

/-- TEST_RAISE. -/
def execTestRaise (h : Header) (c : Nat) (s : State) : Host.Outcome State Fault Refusal :=
  served s (serveTestRaise h c)

/-- WITHDRAW. -/
def execWithdraw (h : Header) (c : Nat) (s : State) : Host.Outcome State Fault Refusal := served s (serveWithdraw h c)

/-- TIMER_START. -/
def execTimerStart (h : Header) (n : Nat) (s : State) : Host.Outcome State Fault Refusal :=
  served s (serveTimerStart h n)

/-- TIMER_STOP. -/
def execTimerStop (h : Header) (n : Nat) (s : State) : Host.Outcome State Fault Refusal :=
  served s (serveTimerStop h n)

/-- ZONE_CLOSE. -/
def execZoneClose (h : Header) (z : Nat) (cause : CloseCause) (s : State) : Host.Outcome State Fault Refusal :=
  served s (serveZoneClose h z cause)

/-- ZONE_OPEN. -/
def execZoneOpen (h : Header) (z : Nat) (s : State) : Host.Outcome State Fault Refusal := served s (serveZoneOpen h z)

/-- CLOSE_NOW. -/
def execCloseNow (h : Header) (z : Nat) (s : State) : Host.Outcome State Fault Refusal := served s (serveCloseNow h z)

/-- ZONE_CLEAR. -/
def execZoneClear (h : Header) (z : Nat) (s : State) : Host.Outcome State Fault Refusal :=
  served s (serveZoneClear h z)

/-- FIRE_DECLARE. -/
def execFireDeclare (h : Header) (z : Nat) (s : State) : Host.Outcome State Fault Refusal :=
  served s (serveFireDeclare h z)

/-- FIRE_CLEAR. -/
def execFireClear (h : Header) (z : Nat) (s : State) : Host.Outcome State Fault Refusal :=
  served s (serveFireClear h z)

/-- FIRE_OVERRIDE. -/
def execFireOverride (h : Header) (z : Nat) (on : Bool) (s : State) : Host.Outcome State Fault Refusal :=
  served s (serveFireOverride h z on)

/-- CALL. -/
def execCall (h : Header) (m : Nat) (zones : List Nat) (priority repeats : Nat) (s : State) : Host.Outcome State Fault Refusal :=
  served s (serveCall h m zones priority repeats)

/-- CALL_CANCEL. -/
def execCallCancel (h : Header) (m : Nat) (s : State) : Host.Outcome State Fault Refusal :=
  served s (serveCallCancel h m)

/-- RAMP_MOVE. -/
def execRampMove (h : Header) (r : Nat) (target : Int) (s : State) : Host.Outcome State Fault Refusal :=
  served s (serveRampMove h r target)

/-- RAMP_HOME. -/
def execRampHome (h : Header) (r : Nat) (s : State) : Host.Outcome State Fault Refusal := served s (serveRampHome h r)

/-- RAMP_STOP. -/
def execRampStop (h : Header) (r : Nat) (s : State) : Host.Outcome State Fault Refusal := served s (serveRampStop h r)

/-- RAMP_RELEASE. -/
def execRampRelease (h : Header) (r : Nat) (s : State) : Host.Outcome State Fault Refusal :=
  served s (serveRampRelease h r)

end Sys2Proof.Machine
end

