-- ==== Sys2Proof/Machine/Expiries.lean ====
section
/-! DEFINITION. The commands of the direct lines, the timers and the jobs' expiries: PIN_CHANGE, DIRECT_LINE_SAMPLE,
ENCODER_EDGE, TIMER_TICK, ACK_TIMER_EXPIRY, ESCALATION_TIMER_EXPIRY, CLOSE_LIMIT_EXPIRY, RETRY_TIMER_EXPIRY,
COUNTDOWN_EXPIRY, CALL_WAIT_EXPIRY, the zone-line timers, GAP_TIMER_EXPIRY, CONTROL_PERIOD_EXPIRY,
CLEARANCE_WAIT_EXPIRY. An expiry command acts while its timer is RUNNING (log entry 4). -/

namespace Sys2Proof.Machine

/-! ## Direct lines (R55, R56, R147) -/

/-- R147: an encoder pin changes to the level given; on a line that is no encoder it is a pin change. -/
def encoderChanges (n : LineId) (high : Bool) (s : State) : State :=
  match (s.lines.get n).fn.encoderOf with
  | none => pinTakes n high s
  | some _ =>
    let s : State := { s with pins := Tab.put s.pins n high }
    encoderPin (s.lines.get n).fn high s

/-- PIN_CHANGE; a pin also changes while RESET is asserted. -/
def execPinChange (n : LineId) (high : Bool) (s : State) : Host.Outcome State Fault Refusal :=
  .next (settle (pinTakes n high s))

/-- DIRECT_LINE_SAMPLE. -/
def execDirectLineSample (n : LineId) (s : State) : Host.Outcome State Fault Refusal := concluded s (sampleLine n)

/-- ENCODER_EDGE; a pin also changes while RESET is asserted. -/
def execEncoderEdge (n : LineId) (high : Bool) (s : State) : Host.Outcome State Fault Refusal :=
  .next (settle (encoderChanges n high s))

/-! ## Timer Bank and Event Controller (R65, R67, R82, R85) -/

/-- TIMER_TICK. -/
def execTimerTick (ch : ChannelId) (s : State) : Host.Outcome State Fault Refusal := concluded s (tickChannel ch)

/-- ACK_TIMER_EXPIRY. -/
def execAckTimerExpiry (c : Code) (s : State) : Host.Outcome State Fault Refusal := concluded s (ackTimerOver c)

/-- ESCALATION_TIMER_EXPIRY. -/
def execEscalationTimerExpiry (s : State) : Host.Outcome State Fault Refusal := concluded s escalationOver

/-! ## Zones and doors (R101, R102, R113, R114) -/

/-- CLOSE_LIMIT_EXPIRY. -/
def execCloseLimitExpiry (d : DoorId) (s : State) : Host.Outcome State Fault Refusal := concluded s (closeLimitOver d)

/-- RETRY_TIMER_EXPIRY. -/
def execRetryTimerExpiry (d : DoorId) (s : State) : Host.Outcome State Fault Refusal := concluded s (retryOver d)

/-- COUNTDOWN_EXPIRY. -/
def execCountdownExpiry (z : ZoneId) (s : State) : Host.Outcome State Fault Refusal :=
  concluded s (countdownExpires z)

/-- CALL_WAIT_EXPIRY. -/
def execCallWaitExpiry (z : ZoneId) (s : State) : Host.Outcome State Fault Refusal := concluded s (callWaitOver z)

/-! ## Zone lines and calls (R132, R133, R136) -/

/-- R132: the start timer of a line expires. -/
def startTimerOver (z : ZoneId) (s : State) : State :=
  let l := s.zoneLines.get z
  if l.state = .starting ∧ l.startTimer.isRunning = true then lineFails z .startLimit s else s

/-- R132: the duration timer of a line expires. -/
def durationTimerOver (z : ZoneId) (s : State) : State :=
  let l := s.zoneLines.get z
  if l.state = .playing ∧ l.durationTimer.isRunning = true then lineFails z .duration s else s

/-- R133: the stop timer of a line expires. -/
def stopTimerOver (z : ZoneId) (s : State) : State :=
  let l := s.zoneLines.get z
  if l.state = .stopping ∧ l.stopTimer.isRunning = true then stoppingEnds z s else s

/-- R136: the gap timer of a call expires. -/
def gapTimerOver (k : Nat) (s : State) : State :=
  match s.call? k with
  | none => s
  | some c => if c.state = .gap ∧ c.gapTimer.isRunning = true then arbitrate (restartCall k s) else s

/-- START_TIMER_EXPIRY. -/
def execStartTimerExpiry (z : ZoneId) (s : State) : Host.Outcome State Fault Refusal := concluded s (startTimerOver z)

/-- DURATION_TIMER_EXPIRY. -/
def execDurationTimerExpiry (z : ZoneId) (s : State) : Host.Outcome State Fault Refusal :=
  concluded s (durationTimerOver z)

/-- STOP_TIMER_EXPIRY. -/
def execStopTimerExpiry (z : ZoneId) (s : State) : Host.Outcome State Fault Refusal := concluded s (stopTimerOver z)

/-- GAP_TIMER_EXPIRY. -/
def execGapTimerExpiry (stamp : Nat) (s : State) : Host.Outcome State Fault Refusal :=
  concluded s (gapTimerOver stamp)

/-! ## Ramps (R150, R155, R157) -/

/-- CONTROL_PERIOD_EXPIRY. -/
def execControlPeriodExpiry (r : RampId) (s : State) : Host.Outcome State Fault Refusal :=
  concluded s (controlPeriod r)

/-- CLEARANCE_WAIT_EXPIRY. -/
def execClearanceWaitExpiry (r : RampId) (s : State) : Host.Outcome State Fault Refusal :=
  concluded s (clearanceOver r)

end Sys2Proof.Machine
end

