-- ==== Sys2Proof/Machine/ReadCommands.lean ====
section
/-! DEFINITION. The request commands: STATUS READ, COUNTER READ, MIRROR READ and MIRROR PURGE. Each is served as Serve.lean judges
and answers it. -/

namespace Sys2Proof.Machine

/-- STATUS_READ. -/
def execStatusRead (h : Header) (part : Option Section) (first : Nat) (s : State) : Host.Outcome State Fault Refusal :=
  served s (serveStatusRead h part first)

/-- COUNTER_READ. -/
def execCounterRead (h : Header) (set : Option CounterSet) (first : Nat) (clear : Bool) (s : State) : Host.Outcome State Fault Refusal :=
  served s (serveCounterRead h set first clear)

/-- MIRROR_READ. -/
def execMirrorRead (h : Header) (i : Nat) (s : State) : Host.Outcome State Fault Refusal :=
  served s (serveMirrorRead h i)

/-- MIRROR_PURGE. -/
def execMirrorPurge (h : Header) (scope : PurgeScope) (s : State) : Host.Outcome State Fault Refusal :=
  served s (serveMirrorPurge h scope)

end Sys2Proof.Machine
end

