-- ==== Sys2Proof/Machine/TableCommands.lean ====
section
/-! DEFINITION. The request commands: TABLE READ and the nine table writes (R175). Each is served as Serve.lean judges
and answers it. -/

namespace Sys2Proof.Machine

/-- TABLE_READ. -/
def execTableRead (h : Header) (t : Option TableName) (i : Nat) (s : State) : Host.Outcome State Fault Refusal :=
  served s (serveTableRead h t i)

/-- STATION_WRITE. -/
def execStationWrite (h : Header) (n : Nat) (f : StationFields) (s : State) : Host.Outcome State Fault Refusal :=
  served s (serveStationWrite h n f)

/-- ZONE_WRITE. -/
def execZoneWrite (h : Header) (n : Nat) (f : ZoneFields) (s : State) : Host.Outcome State Fault Refusal :=
  served s (serveZoneWrite h n f)

/-- DOOR_WRITE. -/
def execDoorWrite (h : Header) (n : Nat) (f : DoorFields) (s : State) : Host.Outcome State Fault Refusal :=
  served s (serveDoorWrite h n f)

/-- RAMP_WRITE. -/
def execRampWrite (h : Header) (n : Nat) (f : RampFields) (s : State) : Host.Outcome State Fault Refusal :=
  served s (serveRampWrite h n f)

/-- LINE_WRITE. -/
def execLineWrite (h : Header) (n : Nat) (f : LineFields) (s : State) : Host.Outcome State Fault Refusal :=
  served s (serveLineWrite h n f)

/-- TIMER_WRITE. -/
def execTimerWrite (h : Header) (n : Nat) (f : TimerFields) (s : State) : Host.Outcome State Fault Refusal :=
  served s (serveTimerWrite h n f)

/-- VECTOR_WRITE. -/
def execVectorWrite (h : Header) (n : Nat) (f : VectorFields) (s : State) : Host.Outcome State Fault Refusal :=
  served s (serveVectorWrite h n f)

/-- MESSAGE_WRITE. -/
def execMessageWrite (h : Header) (n : Nat) (f : MessageFields) (s : State) : Host.Outcome State Fault Refusal :=
  served s (serveMessageWrite h n f)

/-- DEVICE_WRITE. -/
def execDeviceWrite (h : Header) (f : DeviceField) (s : State) : Host.Outcome State Fault Refusal :=
  served s (serveDeviceWrite h f)

end Sys2Proof.Machine
end

