-- ==== Sys2Proof/Machine/Dispatch.lean ====
section
/-! DEFINITION. The effect of every command: one arm per row of the opcode table. -/

namespace Sys2Proof.Machine

def exec (i : Instr) (s : State) : Host.Outcome State Fault Refusal :=
  match i with
  | .powerOn a b => Sys2Proof.Machine.execPowerOn a b s
  | .signalReport p => Sys2Proof.Machine.execSignalReport p s
  | .lossOfSignal p r => Sys2Proof.Machine.execLossOfSignal p r s
  | .bridgeLossExpiry => Sys2Proof.Machine.execBridgeLossExpiry s
  | .frameEnd p bytes => Sys2Proof.Machine.execFrameEnd p bytes s
  | .transmissionEnd p => Sys2Proof.Machine.execTransmissionEnd p s
  | .deckFrameTaken d => Sys2Proof.Machine.execDeckFrameTaken d s
  | .bridgeFrameTaken => Sys2Proof.Machine.execBridgeFrameTaken s
  | .supervisionExpiry => Sys2Proof.Machine.execSupervisionExpiry s
  | .pinChange n high => Sys2Proof.Machine.execPinChange n high s
  | .directLineSample n => Sys2Proof.Machine.execDirectLineSample n s
  | .encoderEdge n high => Sys2Proof.Machine.execEncoderEdge n high s
  | .timerTick ch => Sys2Proof.Machine.execTimerTick ch s
  | .ackTimerExpiry c => Sys2Proof.Machine.execAckTimerExpiry c s
  | .escalationTimerExpiry => Sys2Proof.Machine.execEscalationTimerExpiry s
  | .closeLimitExpiry d => Sys2Proof.Machine.execCloseLimitExpiry d s
  | .retryTimerExpiry d => Sys2Proof.Machine.execRetryTimerExpiry d s
  | .countdownExpiry z => Sys2Proof.Machine.execCountdownExpiry z s
  | .callWaitExpiry z => Sys2Proof.Machine.execCallWaitExpiry z s
  | .startTimerExpiry z => Sys2Proof.Machine.execStartTimerExpiry z s
  | .durationTimerExpiry z => Sys2Proof.Machine.execDurationTimerExpiry z s
  | .stopTimerExpiry z => Sys2Proof.Machine.execStopTimerExpiry z s
  | .gapTimerExpiry k => Sys2Proof.Machine.execGapTimerExpiry k s
  | .controlPeriodExpiry r => Sys2Proof.Machine.execControlPeriodExpiry r s
  | .clearanceWaitExpiry r => Sys2Proof.Machine.execClearanceWaitExpiry r s
  | .qualityWindowEnd d => Sys2Proof.Machine.execQualityWindowEnd d s
  | .tableRead h t n => Sys2Proof.Machine.execTableRead h t n s
  | .stationWrite h n f => Sys2Proof.Machine.execStationWrite h n f s
  | .zoneWrite h n f => Sys2Proof.Machine.execZoneWrite h n f s
  | .doorWrite h n f => Sys2Proof.Machine.execDoorWrite h n f s
  | .rampWrite h n f => Sys2Proof.Machine.execRampWrite h n f s
  | .lineWrite h n f => Sys2Proof.Machine.execLineWrite h n f s
  | .timerWrite h n f => Sys2Proof.Machine.execTimerWrite h n f s
  | .vectorWrite h n f => Sys2Proof.Machine.execVectorWrite h n f s
  | .messageWrite h n f => Sys2Proof.Machine.execMessageWrite h n f s
  | .deviceWrite h f => Sys2Proof.Machine.execDeviceWrite h f s
  | .statusRead h part first => Sys2Proof.Machine.execStatusRead h part first s
  | .counterRead h set first clear => Sys2Proof.Machine.execCounterRead h set first clear s
  | .mirrorRead h n => Sys2Proof.Machine.execMirrorRead h n s
  | .mirrorPurge h scope => Sys2Proof.Machine.execMirrorPurge h scope s
  | .start h => Sys2Proof.Machine.execStart h s
  | .stop h => Sys2Proof.Machine.execStop h s
  | .restart h => Sys2Proof.Machine.execRestart h s
  | .resume h => Sys2Proof.Machine.execResume h s
  | .generalAlarm h => Sys2Proof.Machine.execGeneralAlarm h s
  | .generalAlarmClear h => Sys2Proof.Machine.execGeneralAlarmClear h s
  | .testRaise h c => Sys2Proof.Machine.execTestRaise h c s
  | .withdraw h c => Sys2Proof.Machine.execWithdraw h c s
  | .timerStart h n => Sys2Proof.Machine.execTimerStart h n s
  | .timerStop h n => Sys2Proof.Machine.execTimerStop h n s
  | .zoneClose h z cause => Sys2Proof.Machine.execZoneClose h z cause s
  | .zoneOpen h z => Sys2Proof.Machine.execZoneOpen h z s
  | .closeNow h z => Sys2Proof.Machine.execCloseNow h z s
  | .zoneClear h z => Sys2Proof.Machine.execZoneClear h z s
  | .fireDeclare h z => Sys2Proof.Machine.execFireDeclare h z s
  | .fireClear h z => Sys2Proof.Machine.execFireClear h z s
  | .fireOverride h z on => Sys2Proof.Machine.execFireOverride h z on s
  | .call h m zones priority repeats => Sys2Proof.Machine.execCall h m zones priority repeats s
  | .callCancel h m => Sys2Proof.Machine.execCallCancel h m s
  | .rampMove h r target => Sys2Proof.Machine.execRampMove h r target s
  | .rampHome h r => Sys2Proof.Machine.execRampHome h r s
  | .rampStop h r => Sys2Proof.Machine.execRampStop h r s
  | .rampRelease h r => Sys2Proof.Machine.execRampRelease h r s
  | .resetAssertion => Sys2Proof.Machine.execResetAssertion s

end Sys2Proof.Machine
end

