-- ==== Sys2Proof/Machine/Time.lean ====
section
/-! DEFINITION. The part's own time (DESIGN CHOICE, log entry 4): the table has no row for a tick, so on an empty queue
the block takes the first expiry of its own that is due, or lets 10 µs pass. -/

namespace Sys2Proof.Machine

/-- A timer has run out. -/
def isDue (s : State) : Timer → Bool
  | .stopped => false
  | .running due => decide (due ≤ s.now)

/-- The first index whose item is due, as a command. -/
def firstOf {n : Nat} (p : Fin n → Bool) (c : Fin n → Instr) : Option Instr := ((List.finRange n).find? p).map c

/-- R56: the sample countdown of an input line has reached 0. -/
def sampleDue (s : State) (n : LineId) : Bool :=
  (s.lines.get n).fn.isInput && decide (0 < (s.lines.get n).checkTime) && decide ((s.lineDyn.get n).countdown = 0)

/-- R64: the tick of a RUNNING channel has come. -/
def tickDue (s : State) (ch : ChannelId) : Bool :=
  (s.timerDyn.get ch).running && decide ((s.timerDyn.get ch).nextTick ≤ s.now)

/-- R82: the code of a record whose ack timer has run out. -/
def ackDue (s : State) : Option Instr :=
  ((s.alerts.gaSlot.toList ++ s.alerts.stack ++ s.alerts.pass).find? fun r => isDue s r.ackTimer).map
    fun r => .ackTimerExpiry r.code

/-- R85: the ack timer of the escalation record has run out in RUN. -/
def escalationDue (s : State) : Option Instr :=
  match s.alerts.escalation with
  | none => none
  | some r => if s.device = .run ∧ isDue s r.ackTimer = true then some .escalationTimerExpiry else none

/-- R114: a zone's countdown has reached 0. -/
def countdownDue (s : State) (z : ZoneId) : Bool :=
  let d := s.zoneDyn.get z
  decide (d.state = .countdown) && !d.awaitingClear && decide (d.remaining = 0)

/-- R101: the close-limit timer of a door in motion has run out. -/
def closeLimitDue (s : State) (d : DoorId) : Bool :=
  decide ((s.doorDyn.get d).command ≠ .none) && isDue s (s.doorDyn.get d).closeTimer

/-- R102: the retry timer of an obstructed door has run out. -/
def retryDue (s : State) (d : DoorId) : Bool :=
  decide ((s.doorDyn.get d).command = .close) && isDue s (s.doorDyn.get d).retryTimer

/-- R136: the gap timer of a call has run out. -/
def gapDue (s : State) : Option Instr :=
  (s.calls.find? fun c => decide (c.state = .gap) && isDue s c.gapTimer).map fun c => .gapTimerExpiry c.stamp

/-- R169: a window has ended. -/
def windowDue (s : State) (d : Deck) : Option Instr :=
  match (s.quality.at d).window with
  | .stopped => none
  | .running due _ => if due ≤ s.now then some (.qualityWindowEnd d) else none

/-- The first expiry that is due, in a fixed order (log entry 4). -/
def firstDue (s : State) : Option Instr :=
  (if isDue s s.bridgeLoss then some .bridgeLossExpiry else none) <|>
  (if s.supervisionDue ≤ s.now then some .supervisionExpiry else none) <|>
  firstOf (sampleDue s) .directLineSample <|>
  firstOf (tickDue s) .timerTick <|>
  ackDue s <|>
  escalationDue s <|>
  firstOf (closeLimitDue s) .closeLimitExpiry <|>
  firstOf (retryDue s) .retryTimerExpiry <|>
  firstOf (countdownDue s) .countdownExpiry <|>
  firstOf (fun z => decide ((s.zoneDyn.get z).state = .calling) && isDue s (s.zoneDyn.get z).callWait)
    .callWaitExpiry <|>
  firstOf (fun z => decide ((s.zoneLines.get z).state = .starting) && isDue s (s.zoneLines.get z).startTimer)
    .startTimerExpiry <|>
  firstOf (fun z => decide ((s.zoneLines.get z).state = .playing) && isDue s (s.zoneLines.get z).durationTimer)
    .durationTimerExpiry <|>
  firstOf (fun z => decide ((s.zoneLines.get z).state = .stopping) && isDue s (s.zoneLines.get z).stopTimer)
    .stopTimerExpiry <|>
  gapDue s <|>
  firstOf (fun r => isDue s (s.rampDyn.get r).control) .controlPeriodExpiry <|>
  firstOf (fun r => decide ((s.rampDyn.get r).state = .clearing) && isDue s (s.rampDyn.get r).clearance)
    .clearanceWaitExpiry <|>
  windowDue s .a <|>
  windowDue s .b

/-- R147: the period meter rises by 1 every 10 µs and stops at 65535. -/
def RampDyn.meterTick (d : RampDyn) : RampDyn := { d with meter := min 65535 (d.meter + 1) }

/-- R56: the countdown of a filtered input line falls by 1 at each millisecond. -/
def countdownTick (s : State) (n : LineId) : LineDyn :=
  let d := s.lineDyn.get n
  if (s.lines.get n).fn.isInput ∧ 0 < (s.lines.get n).checkTime then { d with countdown := d.countdown - 1 } else d

/-- R114: the countdown of a zone falls by 1 each second. -/
def ZoneDyn.secondTick (d : ZoneDyn) (now : Nat) : ZoneDyn :=
  if d.state = .countdown ∧ d.awaitingClear = false ∧ 0 < d.remaining ∧ d.secondDue ≤ now then
    { d with remaining := d.remaining - 1, secondDue := d.secondDue + 100000 }
  else d

/-- 10 µs of the time base pass. -/
def advance (s : State) : State :=
  let now := s.now + 1
  { s with
    now := now
    rampDyn := s.rampDyn.map (·.meterTick)
    lineDyn := if now % 100 = 0 then Tab.of (countdownTick s) else s.lineDyn
    zoneDyn := s.zoneDyn.map (·.secondTick now) }

/-- What an empty queue does: nothing while RESET is asserted; else the first due expiry, or 10 µs pass. -/
def idle (s : State) : Host.Outcome State Fault Refusal :=
  if s.resetHeld then .next s
  else
    match firstDue s with
    | some c => exec c s
    | none => .next (advance s)

end Sys2Proof.Machine
end

