-- ==== Sys2Proof/Safety.lean ====
section
/-! DEFINITION. What counts as a sound state, in the terms the claims use: the invariants the manual states in its prose,
the part of the state that a judgement and the jobs leave alone, and the table of management requests. -/

namespace Sys2Proof.Machine

/-! ## Invariants -/

/-- R76: at most four HOLD records of strictly rising level, at most eight PASS records, no two records of one code, AL
the level of the topmost record. -/
def AlertsOk (x : Alerts) : Prop :=
  x.stack.length ≤ 4 ∧ x.pass.length ≤ 8 ∧
    (∀ r ∈ x.stack, r.gate = .hold) ∧ (∀ r ∈ x.pass, r.gate = .pass) ∧
    x.stack.Pairwise (fun a b => a.level < b.level) ∧
    (x.stack ++ x.pass).Pairwise (fun a b => a.code ≠ b.code) ∧
    x.al = topLevel x.stack

/-- The capacity of a transmit queue (R13). -/
def txCapacity : Port → Nat
  | .bridge => 32
  | .deckA | .deckB => 16

/-- R11, R13: no queue of a port holds more than its capacity. -/
def QueuesOk (s : State) : Prop :=
  ∀ p : Port, (s.port p).rx.length ≤ 16 ∧ (s.port p).tx.length ≤ txCapacity p

/-- R126: of two call records, the first stands before the second. -/
def callBefore (a b : CallRecord) : Prop :=
  b.priority < a.priority ∨ (a.priority = b.priority ∧ a.stamp < b.stamp)

/-- R126: at most 16 calls, in order of priority and then of arrival, one for each pair of origin and message, each
with an arrival stamp that has been given out. -/
def CallsOk (s : State) : Prop :=
  s.calls.length ≤ 16 ∧ s.calls.Pairwise callBefore ∧
    s.calls.Pairwise (fun a b => ¬(a.origin = b.origin ∧ a.message = b.message)) ∧
    ∀ c ∈ s.calls, c.stamp < s.nextStamp

/-- R145: Vset is 0 and the control-period expiries are STOPPED in every state other than MOVING and HOMING. -/
def RampsStill (s : State) : Prop :=
  ∀ r : RampId, (s.rampDyn.get r).state ≠ .moving → (s.rampDyn.get r).state ≠ .homing →
    (s.rampDyn.get r).vset = 0 ∧ (s.rampDyn.get r).control = .stopped

/-- R151: a ramp is in CLEARING, MOVING or HOMING only with the general alarm inactive, the stop loop closed, the device
in RUN, and its guard zone's fire flag clear or overridden. -/
def RampsSafe (s : State) : Prop :=
  ∀ r : RampId, (s.rampDyn.get r).state.isActive = true →
    s.ga.active = false ∧ stopLoopOpen s = false ∧ s.device = .run ∧ guardBurns s r = false

/-- R104: a zone in a rest state is in the one its members give it, with cause NONE; OPENING has cause NONE and the
close states have cause ROUTINE or FIRE. -/
def ZonesOk (s : State) : Prop :=
  ∀ z : ZoneId,
    ((s.zoneDyn.get z).state.isRest = true → (s.zoneDyn.get z).state = restState s z) ∧
      ((s.zoneDyn.get z).cause = .none ↔ (s.zoneDyn.get z).state.isRest = true ∨ (s.zoneDyn.get z).state = .opening)

/-- R58, R60, R108, R110: in CONFIG every output is de-energised; an energised line is an output line; an energised
door-hold output is the one its zone's record names, with the fire flag clear; a ramp enable is energised only with the
stop loop closed; a burning zone is not in OPENING. -/
def OutputsOk (s : State) : Prop :=
  (∀ n : LineId, s.outputs.get n = true →
    s.device ≠ .config ∧
      match (s.lines.get n).fn with
      | .doorHold z => (s.zones.get z).doorHold = some n ∧ (s.zoneDyn.get z).fire = false
      | .rampEnable _ => stopLoopOpen s = false
      | _ => False) ∧
  ∀ z : ZoneId, (s.zoneDyn.get z).fire = true → (s.zoneDyn.get z).state ≠ .opening

/-- R43: every valid mirror line belongs to a station whose record is in use with mirroring allowed. -/
def MirrorOk (s : State) : Prop :=
  ∀ i : Fin 64, (s.mirror.get i).valid = true →
    match lineStation i (s.mirror.get i) with
    | none => False
    | some a => (s.stations.get a).role ≠ .unused ∧ (s.stations.get a).mirrorAllowed = true

/-- The number of GENERAL_IN lines naming the code whose filtered value is active (R57). -/
def activeInputs (s : State) (c : Code) : Nat :=
  (List.finRange 16).countP fun n =>
    (s.lines.get n).fn = .generalIn && (s.lines.get n).code = some c && (s.lineDyn.get n).filtered

/-- R57, R72: the counts of active GENERAL_IN lines are right, and the line condition of a code holds just while its
count is above 0. -/
def LineConditionsOk (s : State) : Prop :=
  ∀ c : Code, s.lineCounts.get c = activeInputs s c ∧ ((s.codes.get c).lineCond = true ↔ 0 < s.lineCounts.get c)

/-- The number of active maps that name the code, over all stations (R35). -/
def activeMapTotal (s : State) (c : Code) : Nat :=
  ((List.finRange 254).map fun a => mapCountOf (s.stations.get a) (s.stationDyn.get a).filtered c).sum

/-- R35, R72: the counts of active event maps are right, and the map condition of a code holds just while its count is
above 0. -/
def MapConditionsOk (s : State) : Prop :=
  ∀ c : Code, s.mapCounts.get c = activeMapTotal s c ∧ ((s.codes.get c).mapCond = true ↔ 0 < s.mapCounts.get c)

/-! ## What a judgement leaves alone -/

/-- The part of the state that no job and no judgement of R78 changes: every table, the inputs and what is derived from
them, the device state, time, the receive queues and the line states. -/
structure Kept where
  pending : List Instr
  now : Nat
  resetHeld : Bool
  straps : Straps
  pins : Vector Bool 16
  device : DeviceState
  record : DeviceRecord
  bridgeLoss : Timer
  stations : Vector StationRecord 254
  stationDyn : Vector StationDyn 254
  mapCounts : Vector Nat 64
  supervisionDue : Nat
  mirror : Vector MirrorLine 64
  lines : Vector LineEntry 16
  lineDyn : Vector LineDyn 16
  lineCounts : Vector Nat 64
  timers : Vector TimerRecord 8
  timerDyn : Vector TimerDyn 8
  vectors : Vector VectorEntry 64
  zones : Vector ZoneRecord 8
  doors : Vector DoorRecord 24
  messages : Vector MessageRecord 256
  ramps : Vector RampRecord 4
  quality : ByDeck Monitor
  up : ByPort Bool
  rx : ByPort (List Frame)

/-- The part of a state that no job and no judgement changes. -/
def State.kept (s : State) : Kept where
  pending := s.pending
  now := s.now
  resetHeld := s.resetHeld
  straps := s.straps
  pins := s.pins
  device := s.device
  record := s.record
  bridgeLoss := s.bridgeLoss
  stations := s.stations
  stationDyn := s.stationDyn
  mapCounts := s.mapCounts
  supervisionDue := s.supervisionDue
  mirror := s.mirror
  lines := s.lines
  lineDyn := s.lineDyn
  lineCounts := s.lineCounts
  timers := s.timers
  timerDyn := s.timerDyn
  vectors := s.vectors
  zones := s.zones
  doors := s.doors
  messages := s.messages
  ramps := s.ramps
  quality := s.quality
  up := ⟨s.ports.deckA.up, s.ports.deckB.up, s.ports.bridge.up⟩
  rx := ⟨s.ports.deckA.rx, s.ports.deckB.rx, s.ports.bridge.rx⟩

/-- What no job changes: the kept part, the alert records and the general alarm's items. -/
def State.core (s : State) : Kept × Alerts × GeneralAlarm := (s.kept, s.alerts, s.ga)

/-! ## The table of management requests (R173 to R182) -/

/-- The command that hands a request to the Management Unit. -/
def requestInstr (h : Header) : Request → Instr
  | .tableRead t i => .tableRead h t i
  | .stationWrite n f => .stationWrite h n f
  | .zoneWrite n f => .zoneWrite h n f
  | .doorWrite n f => .doorWrite h n f
  | .rampWrite n f => .rampWrite h n f
  | .lineWrite n f => .lineWrite h n f
  | .timerWrite n f => .timerWrite h n f
  | .vectorWrite n f => .vectorWrite h n f
  | .messageWrite n f => .messageWrite h n f
  | .deviceWrite f => .deviceWrite h f
  | .statusRead part first => .statusRead h part first
  | .counterRead set first clear => .counterRead h set first clear
  | .mirrorRead i => .mirrorRead h i
  | .mirrorPurge scope => .mirrorPurge h scope
  | .start => .start h
  | .stop => .stop h
  | .restart => .restart h
  | .resume => .resume h
  | .generalAlarm => .generalAlarm h
  | .generalAlarmClear => .generalAlarmClear h
  | .testRaise c => .testRaise h c
  | .withdraw c => .withdraw h c
  | .timerStart n => .timerStart h n
  | .timerStop n => .timerStop h n
  | .zoneClose z cause => .zoneClose h z cause
  | .zoneOpen z => .zoneOpen h z
  | .closeNow z => .closeNow h z
  | .zoneClear z => .zoneClear h z
  | .fireDeclare z => .fireDeclare h z
  | .fireClear z => .fireClear h z
  | .fireOverride z on => .fireOverride h z on
  | .call m zones priority repeats => .call h m zones priority repeats
  | .callCancel m => .callCancel h m
  | .rampMove r target => .rampMove h r target
  | .rampHome r => .rampHome h r
  | .rampStop r => .rampStop h r
  | .rampRelease r => .rampRelease h r

/-- The name a request's reply carries. -/
def requestName : Request → ReqName
  | .tableRead _ _ => .tableRead
  | .stationWrite _ _ => .stationWrite
  | .zoneWrite _ _ => .zoneWrite
  | .doorWrite _ _ => .doorWrite
  | .rampWrite _ _ => .rampWrite
  | .lineWrite _ _ => .lineWrite
  | .timerWrite _ _ => .timerWrite
  | .vectorWrite _ _ => .vectorWrite
  | .messageWrite _ _ => .messageWrite
  | .deviceWrite _ => .deviceWrite
  | .statusRead _ _ => .statusRead
  | .counterRead _ _ _ => .counterRead
  | .mirrorRead _ => .mirrorRead
  | .mirrorPurge _ => .mirrorPurge
  | .start => .start
  | .stop => .stop
  | .restart => .restart
  | .resume => .resume
  | .generalAlarm => .generalAlarm
  | .generalAlarmClear => .generalAlarmClear
  | .testRaise _ => .testRaise
  | .withdraw _ => .withdraw
  | .timerStart _ => .timerStart
  | .timerStop _ => .timerStop
  | .zoneClose _ _ => .zoneClose
  | .zoneOpen _ => .zoneOpen
  | .closeNow _ => .closeNow
  | .zoneClear _ => .zoneClear
  | .fireDeclare _ => .fireDeclare
  | .fireClear _ => .fireClear
  | .fireOverride _ _ => .fireOverride
  | .call _ _ _ _ => .call
  | .callCancel _ => .callCancel
  | .rampMove _ _ => .rampMove
  | .rampHome _ => .rampHome
  | .rampStop _ => .rampStop
  | .rampRelease _ => .rampRelease

/-- The minimum authority of a request, as the table of requests gives it. -/
def leastAuthority : Request → Nat
  | .tableRead _ _ | .statusRead _ _ | .mirrorRead _ | .counterRead _ _ false => 0
  | .zoneClear _ | .call _ _ _ _ | .callCancel _ | .rampStop _ => 1
  | .mirrorPurge _ | .resume | .generalAlarm | .testRaise _ | .withdraw _ | .timerStart _ | .timerStop _ => 2
  | .zoneClose _ _ | .zoneOpen _ | .closeNow _ | .fireDeclare _ | .rampMove _ _ | .rampHome _ | .rampRelease _ => 2
  | .counterRead _ _ true | .stationWrite _ _ | .zoneWrite _ _ | .doorWrite _ _ | .rampWrite _ _ => 3
  | .lineWrite _ _ | .timerWrite _ _ | .vectorWrite _ _ | .messageWrite _ _ | .deviceWrite _ => 3
  | .start | .stop | .restart | .generalAlarmClear | .fireClear _ | .fireOverride _ _ => 3

/-- The requests that the table of requests takes in RUN or AUTONOMOUS only. -/
def needsService : Request → Bool
  | .stop | .restart | .resume | .generalAlarm | .generalAlarmClear | .testRaise _ | .timerStart _ => true
  | .zoneClose _ _ | .zoneOpen _ | .closeNow _ | .call _ _ _ _ | .callCancel _ => true
  | .rampMove _ _ | .rampHome _ => true
  | _ => false

end Sys2Proof.Machine
end

