-- ==== Sys2Proof/Certificates/Slice0/Obligations.lean ====
section
/-! DEFINITION. The statements for the provers. A command's effect is stated as the state `t` it leaves before the
judgement of R78 that ends every command (`settle`, log entry 5) and, for a request, before its reply (`answer`). -/

open Sys2Proof Sys2Proof.Machine

/-- A step runs the command at the front of the queue. When the queue of waiting commands is c followed by rest, step
at that state is exec of c at the state whose queue is rest. (spec/95_what_each_step_holds.md, log entry 4) -/
def Obligations.StepRunsFrontCommand : Prop :=
  ∀ (s : State) (c : Instr) (rest : List Instr), s.pending = c :: rest →
    step s = exec c { s with pending := rest }

/-- On an empty queue the first due expiry is taken, or 10 µs of the time base pass. With nothing due, the period
meter of every ramp rises by 1 up to 65535, at a whole millisecond the sample countdown of every filtered input line
falls by 1, the countdown of a zone in COUNTDOWN not awaiting clear falls by 1 when its second is over, and nothing
else changes; with an expiry due the step is the exec of it; while RESET is asserted nothing changes. The idle step
and the order of due expiries are the model's choice (log entry 4). (R147, R56, R114, R177, log entry 4) -/
def Obligations.IdleStep : Prop :=
  (∀ s : State, s.pending = [] → s.resetHeld = false → firstDue s = none →
     ∃ t : State, step s = .next t ∧ t.now = s.now + 1 ∧
       (∀ r : RampId, t.rampDyn.get r =
         { s.rampDyn.get r with meter := min 65535 ((s.rampDyn.get r).meter + 1) }) ∧
       (∀ n : LineId, t.lineDyn.get n =
         if t.now % 100 = 0 ∧ (s.lines.get n).fn.isInput = true ∧ 0 < (s.lines.get n).checkTime then
           { s.lineDyn.get n with countdown := (s.lineDyn.get n).countdown - 1 }
         else s.lineDyn.get n) ∧
       (∀ z : ZoneId, t.zoneDyn.get z =
         if (s.zoneDyn.get z).state = .countdown ∧ (s.zoneDyn.get z).awaitingClear = false ∧
             0 < (s.zoneDyn.get z).remaining ∧ (s.zoneDyn.get z).secondDue ≤ t.now then
           { s.zoneDyn.get z with
             remaining := (s.zoneDyn.get z).remaining - 1, secondDue := (s.zoneDyn.get z).secondDue + 100000 }
         else s.zoneDyn.get z) ∧
       t = { s with now := t.now, rampDyn := t.rampDyn, lineDyn := t.lineDyn, zoneDyn := t.zoneDyn }) ∧
  ((∀ (s : State) (c : Instr), s.pending = [] → s.resetHeld = false → firstDue s = some c → step s = exec c s) ∧
   (∀ s : State, s.pending = [] → s.resetHeld = true → step s = .next s) ∧
   (∀ s : State, s.supervisionDue ≤ s.now → s.bridgeLoss = .stopped → firstDue s = some .supervisionExpiry) ∧
   (∀ (s : State) (due : Nat), s.bridgeLoss = .running due → due ≤ s.now → firstDue s = some .bridgeLossExpiry))

/-- A frame body is accepted exactly when it is the encoding of a frame, and every frame is sent as its encoding. The
tests of R10 pass on the bytes b, giving the frame f, just when f has a payload of at most 32 bytes and b is the body
of f; a body is 7 + length bytes; what follows the first A7 hex after idle is the body. Feeding a bit b into the
register c leaves (2 c + b x^16) reduced by the generator 11021 hex, from FFFF hex, bytes in order, most significant
bit first; over 31 hex to 39 hex the check is 29B1 hex. A frame is sent as A7 hex, its header with its length byte,
its payload and the check of both, and those bytes are accepted as that frame; a received frame is sent on unchanged.
The payload bytes of a MGMT_REPLY are a free value of at most 32 bytes (log entry 1). (R1, R2, R3, R10, log entry 1)
-/
def Obligations.FrameEncoding : Prop :=
  (((∀ (b : List Byte) (f : Frame), parseBody b = some f ↔ f.payload.length ≤ 32 ∧ b = f.body) ∧
    (∀ f : Frame, f.body.length = 7 + f.payload.length) ∧
    (∀ (noise b : List Byte), delimiter ∉ noise → bodyAfterDelimiter (noise ++ delimiter :: b) = some b) ∧
    (∀ b : List Byte, delimiter ∉ b → bodyAfterDelimiter b = none)) ∧
   ((∀ (c : Word16) (b : Bool),
      (crcBit c b).setWidth 17 =
        let r : BitVec 17 := (c.setWidth 17 <<< 1) ^^^ (if b then 0x10000#17 else 0#17)
        if r.msb then r ^^^ 0x11021#17 else r) ∧
    (∀ (c : Word16) (b : Byte),
      crcByte c b =
        crcBit (crcBit (crcBit (crcBit (crcBit (crcBit (crcBit (crcBit c (b.getLsbD 7)) (b.getLsbD 6)) (b.getLsbD 5))
          (b.getLsbD 4)) (b.getLsbD 3)) (b.getLsbD 2)) (b.getLsbD 1)) (b.getLsbD 0)) ∧
    crc16 [] = 0xFFFF#16 ∧
    (∀ (l : List Byte) (b : Byte), crc16 (l ++ [b]) = crcByte (crc16 l) b) ∧
    crc16 [0x31#8, 0x32#8, 0x33#8, 0x34#8, 0x35#8, 0x36#8, 0x37#8, 0x38#8, 0x39#8] = 0x29B1#16)) ∧
  ((∀ f : TxFrame,
     let p := f.content.payload
     let header : List Byte := [f.destination, f.source, f.kind, f.tag, BitVec.ofNat 8 p.length]
     let check := crc16 (header ++ p)
     f.wire = 0xA7#8 :: (header ++ p ++ [check.extractLsb' 8 8, check.extractLsb' 0 8]) ∧
     (p.length ≤ 32 → ∃ b : List Byte, f.wire = 0xA7#8 :: b ∧
       parseBody b = some ⟨f.destination, f.source, f.kind, f.tag, p⟩)) ∧
   (∀ bytes : List Byte, (Content.bytes bytes).payload = bytes) ∧
   (∀ r : Reply, (Content.reply r).payload.length ≤ 32) ∧
   (∀ f : Frame, f.forward.wire = 0xA7#8 :: f.body) ∧
   (∀ (u : PortUnit) (f : TxFrame), (u.sending = none → u.wire = []) ∧ (u.sending = some f → u.wire = f.wire)))

/-- FRAME_END counts an accepted frame and passes it by or queues it, and counts and drops a bad one. On a port that
is UP a sound frame is counted as good with its octets and its length bin; on a deck line a frame to a station is
counted as passing and not queued; any other is appended to a receive queue of fewer than 16 frames, else counted as
an overflow. A body that fails R10 is counted as bad and, on a deck line whose window runs, raises the window count up
to 65535. On a DOWN port or without a delimiter nothing is received (log entry 9). The order of the rises is the
model's choice but for the overflow after the good frame (log entry 35). (R10, R11, R165, R169, log entry 9, log entry
35) -/
def Obligations.FrameEndJudged : Prop :=
  (∀ (s : State) (p : Port) (f : Frame), s.resetHeld = false → (s.port p).up = true → f.payload.length ≤ 32 →
     let bin : CounterId :=
       if f.payload.length ≤ 7 then 7 else if f.payload.length ≤ 15 then 8 else 9
     let counted := bump (portSet p) bin 1 (bump (portSet p) 2 (7 + f.payload.length) (bump (portSet p) 0 1 s))
     let t :=
       if p ≠ .bridge ∧ f.destination ≠ 0x00#8 ∧ f.destination ≠ 0xFF#8 then bump (portSet p) 4 1 counted
       else if (s.port p).rx.length < 16 then
         { counted with ports := s.ports.put p { s.port p with rx := (s.port p).rx ++ [f] } }
       else bump (portSet p) 3 1 counted
     exec (.frameEnd p (0xA7#8 :: f.body)) s = .next (settle t)) ∧
  ((∀ (s : State) (p : Port) (bytes b : List Byte), s.resetHeld = false → (s.port p).up = true →
     bodyAfterDelimiter bytes = some b → parseBody b = none →
     let t := bump (portSet p) 1 1 s
     let one (m : Monitor) : Monitor :=
       if m.window.isRunning = true then { m with count := min 65535 (m.count + 1) } else m
     exec (.frameEnd p bytes) s = .next (settle
       (match p with
       | .deckA => { t with quality := s.quality.put .a (one s.quality.a) }
       | .deckB => { t with quality := s.quality.put .b (one s.quality.b) }
       | .bridge => t))) ∧
   (∀ (s : State) (p : Port) (bytes : List Byte), s.resetHeld = false →
     (s.port p).up = false ∨ bodyAfterDelimiter bytes = none →
     exec (.frameEnd p bytes) s = .next (settle s)))

/-- A frame offered to a transmit queue replaces, is refused or is admitted; TRANSMISSION_END starts the oldest URGENT
frame, or else the oldest NORMAL one. A SPEED command that finds a waiting SPEED command of its class and station on a
deck line that is UP takes its place, occupancy unchanged; a frame offered to a DOWN port or at its limit (12 and 16
on a deck line, 28 and 32 on the Bridge Port) is refused and counted as a drop; any other is appended, and leaves at
once when the transmitter is free. At the end of a transmission on a port that is UP the frame is counted as
transmitted; the first URGENT entry of the queue leaves it and is sent, or the first entry when none is URGENT; with
an empty queue the transmitter is free. A port that sends nothing is not changed. Nothing else changes. (R12, R13,
R14, log entry 19) -/
def Obligations.TransmitQueue : Prop :=
  (∀ (s : State) (p : Port) (cls : TxClass) (f : TxFrame),
     let u := s.port p
     let new : TxEntry := ⟨cls, f⟩
     let limit : Nat :=
       match p, cls with
       | .bridge, .normal => 28
       | .bridge, .urgent => 32
       | _, .normal => 12
       | _, .urgent => 16
     let same (e : TxEntry) : Bool :=
       e.frame.isSpeed && f.isSpeed && decide (e.cls = cls) && decide (e.frame.destination = f.destination)
     (∀ (pre post : List TxEntry) (e : TxEntry), p ≠ .bridge → u.up = true → u.tx = pre ++ e :: post →
       same e = true → (∀ x ∈ pre, same x = false) →
       offerTx p cls f s = (true, { s with ports := s.ports.put p { u with tx := pre ++ new :: post } })) ∧
     ((p = .bridge ∨ u.up = false ∨ ∀ x ∈ u.tx, same x = false) →
       (u.up = false ∨ limit ≤ u.tx.length → offerTx p cls f s = (false, bump (portSet p) 11 1 s)) ∧
       (u.up = true → u.tx.length < limit →
         (u.sending.isSome = true →
           offerTx p cls f s = (true, { s with ports := s.ports.put p { u with tx := u.tx ++ [new] } })) ∧
         (u.sending = none → u.tx = [] →
           offerTx p cls f s = (true, { s with ports := s.ports.put p { u with sending := some f } }))))) ∧
  ((∀ (s : State) (p : Port) (f : TxFrame) (pre post : List TxEntry) (e : TxEntry), s.resetHeld = false →
     (s.port p).up = true → (s.port p).sending = some f → (s.port p).tx = pre ++ e :: post →
     (e.cls = .urgent ∧ ∀ x ∈ pre, x.cls = .normal) ∨ (pre = [] ∧ ∀ x ∈ e :: post, x.cls = .normal) →
     exec (.transmissionEnd p) s = .next (settle
       { bump (portSet p) 10 1 s with
         ports := s.ports.put p { s.port p with tx := pre ++ post, sending := some e.frame } })) ∧
   (∀ (s : State) (p : Port) (f : TxFrame), s.resetHeld = false → (s.port p).up = true →
     (s.port p).sending = some f → (s.port p).tx = [] →
     exec (.transmissionEnd p) s = .next (settle
       { bump (portSet p) 10 1 s with ports := s.ports.put p { s.port p with sending := none } })) ∧
   (∀ (s : State) (p : Port), s.resetHeld = false → (s.port p).sending = none →
     exec (.transmissionEnd p) s = .next (settle s)))

/-- The frames that the part originates carry the headers of R2 and the payloads of R6 to R9, and a job's COMMAND is
steered and offered URGENT. An ALERT holds the code, level, gate, origin, station (0 when absent), zone (FF hex when
absent) and detail; a SPEED of -1000 to 1000 is two bytes in two's complement, -500 being FE 0C hex; PLAY holds the
message and the chime; a REJECT holds the reason, the destination and tag of the frame refused; a REPLY from the
mirror holds the line's contents, source 01 and the age. A job's COMMAND has source 0 and tag 0, is offered URGENT on
the line R30 gives, and without a line is counted as a transmit drop of Deck B for attachment B and else of Deck A. A
MGMT_REPLY has source 0 and the request's source and tag, is offered URGENT to the Bridge Port, and is followed by a
judgement, which is the model's choice (log entry 5). (R2, R6, R7, R8, R9, R31, R47, R173, log entry 5) -/
def Obligations.FramesBuiltAndSent : Prop :=
  ((∀ (c : Code) (level : Nat) (gate : Gate) (a : Attributes),
      let gateNo : Byte := match gate with | .hold => 0x00#8 | .pass => 0x01#8 | .dispatch => 0x02#8
      let originNo : Byte := match a.origin with | .frame => 0x00#8 | .internal => 0x01#8 | .request => 0x02#8
      let station : Byte := match a.station with | none => 0x00#8 | some b => BitVec.ofNat 8 (b.val + 1)
      let zone : Byte := match a.zone with | none => 0xFF#8 | some z => BitVec.ofNat 8 z.val
      alertFrame c level gate a = ⟨0xFF#8, 0x00#8, 0x05#8, 0x00#8, .bytes
        [BitVec.ofNat 8 c.val, BitVec.ofNat 8 level, gateNo, originNo, station, zone, a.detail.extractLsb' 8 8,
          a.detail.extractLsb' 0 8]⟩) ∧
   ((∀ out : Int, -1000 ≤ out → out ≤ 1000 →
      ∃ hi lo : Byte, speedPayload out = [0x30#8, hi, lo] ∧ (word16 hi lo).toInt = out) ∧
    speedPayload (-500) = [0x30#8, 0xFE#8, 0x0C#8] ∧
    (∀ (m : MsgId) (chime : Bool),
      playPayload m chime = [0x20#8, BitVec.ofNat 8 m.val, if chime = true then 0x01#8 else 0x00#8])) ∧
   (∀ (s : State) (a : Addr) (payload : List Byte),
      let frame : TxFrame := ⟨BitVec.ofNat 8 (a.val + 1), 0x00#8, 0x02#8, 0x00#8, .bytes payload⟩
      (∀ d : Deck, steer a s = some d → jobCommand a payload s = (offerTx (deckPort d) .urgent frame s).2) ∧
      (steer a s = none → (s.stations.get a).attachment = .b → jobCommand a payload s = bump .deckB 11 1 s) ∧
      (steer a s = none → (s.stations.get a).attachment ≠ .b → jobCommand a payload s = bump .deckA 11 1 s)) ∧
   (∀ (f : Frame) (l : MirrorLine),
      let number (r : RejectReason) : Byte := match r with
        | .owned => 0x01#8
        | .full => 0x02#8
        | .unknown => 0x03#8
        | .line => 0x04#8
      let condition : Byte := match l.condition with | .ok => 0x00#8 | .warn => 0x01#8 | .fault => 0x02#8
      let value : List Byte := match l.value with | none => [] | some v => [v.extractLsb' 8 8, v.extractLsb' 0 8]
      (∀ r : RejectReason, rejectFrame r f =
        ⟨f.source, 0x00#8, 0x09#8, f.tag, .bytes [number r, f.destination, f.tag]⟩) ∧
      mirrorReply f l = ⟨f.source, f.destination, 0x04#8, f.tag, .bytes
        ([l.inputs.extractLsb' 8 8, l.inputs.extractLsb' 0 8, condition, 0x01#8, BitVec.ofNat 8 l.age] ++ value)⟩) ∧
   (∀ (s : State) (h : Header) (name : ReqName) (r : Result),
      answer h name r s = settle (offerTx .bridge .urgent
        ⟨h.source, 0x00#8, 0x08#8, h.tag, .reply ⟨name, r⟩⟩ s).2)) ∧
  (∀ (s : State) (payload : List Byte), jobCommand? none payload s = s ∧
     ∀ a : Addr, jobCommand? (some a) payload s = jobCommand a payload s)

/-- SIGNAL_REPORT makes a DOWN port UP, LOSS_OF_SIGNAL makes an UP port DOWN and flushes it, and BRIDGE_LOSS_EXPIRY
takes RUN to AUTONOMOUS. A DOWN port becomes UP; on the Bridge Port the bridge-loss timer stops; on a deck line a
quality window starts with count 0, its length and threshold read from the Device Record; a report for an UP port
changes nothing. A RUNNING bridge-loss timer that expires becomes STOPPED, and in RUN the part enters AUTONOMOUS; in
CONFIG and AUTONOMOUS nothing else changes; a STOPPED timer does not expire (log entry 4). At a loss of signal a frame
being received is a bad frame; the waiting frames and the one being sent are counted as flushed; the transmit queue is
emptied and the receive queue kept. On the Bridge Port the bridge-loss timer starts for the time of the Device Record;
on a deck line the window stops, the grade kept, and the copies of stations on that line alone are invalidated. A
report that matches a DOWN port changes nothing. That the bad frame is counted before the flushed ones is the model's
choice (log entry 35). Such a copy is a valid line whose station, of address index plus 64 times tag, has that deck
line as its single attachment; one of a station on BOTH is left. (R15, R16, R50, R90, R171, log entry 4, log entry 9,
log entry 26, log entry 35) -/
def Obligations.LineStates : Prop :=
  ((((∀ s : State, s.resetHeld = false → (s.port .bridge).up = false →
       exec (.signalReport .bridge) s = .next (settle
         { s with ports := s.ports.put .bridge { s.port .bridge with up := true }, bridgeLoss := .stopped })) ∧
     (∀ (s : State) (d : Deck), s.resetHeld = false → (s.port (deckPort d)).up = false →
       let q := s.record.quality.at d
       exec (.signalReport (deckPort d)) s = .next (settle
         { s with
           ports := s.ports.put (deckPort d) { s.port (deckPort d) with up := true }
           quality := s.quality.put d
             { s.quality.at d with window := .running (s.now + 100 * q.windowLength) q.threshold, count := 0 } })) ∧
     (∀ (s : State) (p : Port), s.resetHeld = false → (s.port p).up = true →
       exec (.signalReport p) s = .next (settle s))) ∧
    ((∀ (s : State) (due : Nat), s.resetHeld = false → s.bridgeLoss = .running due →
       exec .bridgeLossExpiry s = .next (settle
         (if s.device = .run then enterAutonomous { s with bridgeLoss := .stopped }
          else { s with bridgeLoss := .stopped }))) ∧
     (∀ s : State, s.resetHeld = false → s.bridgeLoss = .stopped →
       exec .bridgeLossExpiry s = .next (settle s)))) ∧
   ((∀ (s : State) (receiving : Bool), s.resetHeld = false → (s.port .bridge).up = true →
      let u := s.port .bridge
      let counted := bump .bridge 12 (u.tx.length + if u.sending.isSome then 1 else 0)
        (if receiving then bump .bridge 1 1 s else s)
      exec (.lossOfSignal .bridge receiving) s = .next (settle
        { counted with
          ports := s.ports.put .bridge { u with up := false, tx := [], sending := none }
          bridgeLoss := .running (s.now + 100000 * s.record.bridgeLossTime) })) ∧
    (∀ (s : State) (d : Deck) (receiving : Bool), s.resetHeld = false → (s.port (deckPort d)).up = true →
      let p := deckPort d
      let u := s.port p
      let counted := bump (portSet p) 12 (u.tx.length + if u.sending.isSome then 1 else 0)
        (if receiving then bump (portSet p) 1 1 s else s)
      exec (.lossOfSignal p receiving) s = .next (settle
        { counted with
          ports := s.ports.put p { u with up := false, tx := [], sending := none }
          quality := s.quality.put d { s.quality.at d with window := .stopped, count := 0, cleanRun := 0 }
          mirror := Tab.of fun i =>
            if isOnDeck s d i then { s.mirror.get i with valid := false } else s.mirror.get i })) ∧
    (∀ (s : State) (p : Port) (receiving : Bool), s.resetHeld = false → (s.port p).up = false →
      exec (.lossOfSignal p receiving) s = .next (settle s)))) ∧
  ((∀ (s : State) (d : Deck) (i : Fin 64),
     let l := s.mirror.get i
     let only : Attachment := match d with
       | .a => .a
       | .b => .b
     isOnDeck s d i = true ↔ l.valid = true ∧
       ∃ a : Addr, a.val + 1 = i.val + 64 * l.tag.val ∧ (s.stations.get a).attachment = only) ∧
   (∀ (i : Fin 64) (l : MirrorLine) (a : Addr), lineStation i l = some a ↔ a.val + 1 = i.val + 64 * l.tag.val))

/-- A changed role point reaches the door, detector, call panel, ramp drive or amplifier of its station; other points
reach no job. With the filtered points already new: a door with no command takes its derived state, held FAILED only
ending with its points 0, 1 or 4; with a command, a rise of FAULT fails it, CLOSED or OPEN under the matching command
ends its motion, and OBSTRUCTED under CLOSE starts the retry timer, counts, and warns the first time. A rise of a
detector's ALARM sets the fire flag; of ZONE_CLEAR sets the clear flag, which ends a wait for it. A drive in motion
faults on FAULT, ends homing on STOWED, and is held with cause 5 when READY falls and 6 when LOCAL rises. A rise of
LINE_FAULT fails the amplifier's line, PLAYING moves it, and then a FAULT line is judged for recovery. The order of
points that change in one report is the model's (log entries 12, 14, 16). (R19, R23, R100, R101, R102, R106, R109,
R132, R134, R150, R152, log entry 12) -/
def Obligations.RoleReports : Prop :=
  ((∀ (s : State) (a : Addr) (old new : Word16),
      let used : Nat := match (s.stations.get a).role with
        | .door => 5
        | .detector => 1
        | .rampDrive => 5
        | .amplifier => 2
        | .callPanel => 1
        | .general => 0
        | .unused => 0
      ((∀ p : Nat, p < used → old.getLsbD p = new.getLsbD p) → roleReport a old new s = s) ∧
      ((s.stations.get a).role = .door → (∀ d : DoorId, (s.doors.get d).station ≠ some a) →
        roleReport a old new s = s) ∧
      ((s.stations.get a).role = .rampDrive → (∀ r : RampId, (s.ramps.get r).drive ≠ some a) →
        roleReport a old new s = s) ∧
      ((s.stations.get a).role = .amplifier → (∀ z : ZoneId, (s.zones.get z).amplifier ≠ some a) →
        roleReport a old new s = s)) ∧
   (∀ (s : State) (a : Addr) (old new : Word16) (d : DoorId), (s.stations.get a).role = .door →
      (s.stationDyn.get a).filtered = new → (∀ e : DoorId, (s.doors.get e).station = some a ↔ e = d) →
      let x := s.doorDyn.get d
      let z := (s.doors.get d).zone
      let heard : Prop := (s.stationDyn.get a).status = .heard
      let rose (p : Nat) : Prop := old.getLsbD p = false ∧ new.getLsbD p = true
      let same (p : Nat) : Prop := old.getLsbD p = new.getLsbD p
      let seen (st : DoorState) : DoorState := if heard then st else .unknown
      let derived : DoorState :=
        if ¬heard then .unknown
        else if new.getLsbD 4 = true then .failed
        else if new.getLsbD 0 = true ∧ new.getLsbD 1 = false then .closed
        else if new.getLsbD 1 = true ∧ new.getLsbD 0 = false then .opened
        else .between
      let t := roleReport a old new s
      let becomes (y : DoorDyn) : State := { s with doorDyn := Tab.put s.doorDyn d y }
      let ended (st : DoorState) (held : Bool) : State := becomes
        { x with state := st, command := .none, closeTimer := .stopped, retryTimer := .stopped, held := held }
      (x.command = .none → x.held = true → same 0 → same 1 → same 4 → t = s) ∧
      (x.command = .none → ¬(same 0 ∧ same 1 ∧ same 2 ∧ same 3 ∧ same 4) →
        x.held = false ∨ ¬(same 0 ∧ same 1 ∧ same 4) →
        t = { becomes { x with state := derived, held := false } with zoneDyn := t.zoneDyn } ∧
          ∀ y : ZoneId, t.zoneDyn.get y =
            if y = z ∧ (s.zoneDyn.get y).state.isRest = true then { s.zoneDyn.get y with state := restState t y }
            else s.zoneDyn.get y) ∧
      ((s.zoneDyn.get z).state.isRest = false →
        (x.command ≠ .none → rose 4 → t = judgeEnd z (ended .failed true)) ∧
        (x.command = .close → ¬rose 4 → rose 0 → t = judgeEnd z (ended (seen .closed) false)) ∧
        (x.command = .open → ¬rose 4 → rose 1 → t = judgeEnd z (ended (seen .opened) false)) ∧
        (x.command = .close → ¬rose 4 → ¬rose 0 → rose 2 → x.retryTimer = .stopped →
          let obstructed := becomes
            { x with
              state := seen .obstructed, closeTimer := .stopped
              retryTimer := .running (s.now + 100000 * (s.doors.get d).retryInterval)
              obstructions := min 255 (x.obstructions + 1), warned := true }
          let cfg := s.zones.get z
          (x.warned = true → t = obstructed) ∧
          (x.warned = false →
            t = (postCall ⟨.zone z, cfg.warningMsg, [z], cfg.routinePriority, 1⟩ obstructed).2)) ∧
        (x.command = .close → ¬rose 4 → ¬rose 0 → ¬rose 2 ∨ x.retryTimer ≠ .stopped → t = s) ∧
        (x.command = .open → ¬rose 4 → ¬rose 1 → t = s))) ∧
   (∀ (s : State) (a : Addr) (old new : Word16),
      let rises : Prop := old.getLsbD 0 = false ∧ new.getLsbD 0 = true
      let t := roleReport a old new s
      ((s.stations.get a).role = .detector → (s.stations.get a).zone = none ∨ ¬rises → t = s) ∧
      (∀ z : ZoneId, (s.stations.get a).role = .detector → (s.stations.get a).zone = some z → rises →
        t = setFire z ⟨.frame, some a, some z, 0⟩ s) ∧
      ((s.stations.get a).role = .callPanel → (s.stations.get a).zone = none ∨ ¬rises → t = s) ∧
      (∀ z : ZoneId, (s.stations.get a).role = .callPanel → (s.stations.get a).zone = some z → rises →
        let d := s.zoneDyn.get z
        let flagged : State := { s with zoneDyn := Tab.put s.zoneDyn z { d with clear := true } }
        (d.clear = true → t = s) ∧
        (d.clear = false → d.state = .countdown ∧ d.awaitingClear = true → t = enterClosing z flagged) ∧
        (d.clear = false → d.state ≠ .countdown ∨ d.awaitingClear = false → t = flagged))) ∧
   (∀ (s : State) (a : Addr) (old new : Word16) (r : RampId), (s.stations.get a).role = .rampDrive →
      (∀ q : RampId, (s.ramps.get q).drive = some a ↔ q = r) →
      let cfg := s.ramps.get r
      let d := s.rampDyn.get r
      let rose (p : Nat) : Prop := old.getLsbD p = false ∧ new.getLsbD p = true
      let fell (p : Nat) : Prop := old.getLsbD p = true ∧ new.getLsbD p = false
      let active : Prop := d.state = .clearing ∨ d.state = .moving ∨ d.state = .homing
      let t := roleReport a old new s
      (¬active → t = s) ∧
      (active → rose 3 → t = faultRamp r .driveFault s) ∧
      (d.state = .homing → ¬rose 3 → rose 1 →
        t = raiseInternal cfg.arrivedCode (some a) (some cfg.guardZone) 0 (release a (.ramp r) (orderEnable r false
          (jobCommand a [0x32#8] (jobCommand a [0x30#8, 0x00#8, 0x00#8]
            { s with
              rampDyn := Tab.put s.rampDyn r
                { d with
                  state := .idle, vset := 0, control := .stopped, clearance := .stopped, callRef := none
                  p := 0, referenced := true } }))))) ∧
      (active → ¬rose 3 → ¬(d.state = .homing ∧ rose 1) →
        (fell 0 → t = holdRamp r 5 s) ∧ (¬fell 0 → rose 4 → t = holdRamp r 6 s) ∧ (¬fell 0 → ¬rose 4 → t = s))) ∧
   (∀ (s : State) (a : Addr) (old new : Word16) (z : ZoneId), (s.stations.get a).role = .amplifier →
      (s.stationDyn.get a).filtered = new → (∀ y : ZoneId, (s.zones.get y).amplifier = some a ↔ y = z) →
      let l := s.zoneLines.get z
      let rose (p : Nat) : Prop := old.getLsbD p = false ∧ new.getLsbD p = true
      let fell (p : Nat) : Prop := old.getLsbD p = true ∧ new.getLsbD p = false
      let t := roleReport a old new s
      (rose 1 → l.state = .fault → t = s) ∧
      (rose 1 → l.state ≠ .fault →
        t.zoneLines.get z = ⟨.fault, none, .stopped, .stopped, .stopped⟩ ∧ t.owners.get a ≠ .line z ∧
          ∀ k : Nat, l.carried = some k → ∀ c ∈ t.calls, c.stamp = k → z ∉ c.zones ∧ c.incomplete = true) ∧
      (rose 1 → l.state = .free → l.carried = none → s.calls = [] →
        t = raiseInternal s.record.lineFaultCode (some a) (some z) 3 (release a (.line z)
          { s with zoneLines := Tab.put s.zoneLines z ⟨.fault, none, .stopped, .stopped, .stopped⟩ })) ∧
      (¬rose 1 → rose 0 → t = playingRises z s) ∧
      (¬rose 1 → fell 0 → t = recoverLine z (playingFalls z s)) ∧
      (¬rose 1 → ¬rose 0 → ¬fell 0 → fell 1 → t = recoverLine z s))) ∧
  ((∀ (s : State) (a : Addr) (p : Nat), pointOn s a p = (s.stationDyn.get a).filtered.getLsbD p) ∧
   (∀ (s : State) (a : Addr), isHeard s a = true ↔ (s.stationDyn.get a).status = .heard))

/-- DECK_FRAME_TAKEN judges a frame first by its source. A frame from source 0 or 255 and one from a receive-disabled
station is dropped and counted as filtered; from an UNUSED record a STATE of 3 or 5 bytes or a REPLY of 5 or 7 bytes
is offered NORMAL to the Bridge Port and counted as unknown source, anything else filtered; that it is counted also
when the Bridge Port refuses it is the model's reading (log entry 18). From a station in use any other kind or length
is filtered and its silence count becomes 0; a SILENT station first becomes HEARD, which its user is told. An empty
queue gives nothing to take. That the unknown source is counted after the frame is offered is the model's choice (log
entry 35). (R21, R11, R23, R37, log entry 18, log entry 35) -/
def Obligations.DeckFrameSourceJudged : Prop :=
  (∀ (s : State) (d : Deck) (f : Frame) (rest : List Frame), s.resetHeld = false →
    (s.port (deckPort d)).rx = f :: rest →
    let p := deckPort d
    let taken : State := { s with ports := s.ports.put p { s.port p with rx := rest } }
    let n := f.payload.length
    let report : Bool := (f.kind == 0x01#8 && (n == 3 || n == 5)) || (f.kind == 0x04#8 && (n == 5 || n == 7))
    (f.source = 0x00#8 ∨ f.source = 0xFF#8 →
      exec (.deckFrameTaken d) s = .next (settle (bump (portSet p) 5 1 taken))) ∧
    (∀ a : Addr, f.source = addrByte a →
      ((s.stations.get a).role = .unused →
        exec (.deckFrameTaken d) s = .next (settle
          (if report then bump (portSet p) 6 1 (sendTx .bridge .normal f.forward taken)
           else bump (portSet p) 5 1 taken))) ∧
      ((s.stations.get a).role ≠ .unused → (s.stations.get a).rxEnable = false →
        exec (.deckFrameTaken d) s = .next (settle (bump (portSet p) 5 1 taken))) ∧
      ((s.stations.get a).role ≠ .unused → (s.stations.get a).rxEnable = true →
        (s.stationDyn.get a).status = .heard → report = false →
        exec (.deckFrameTaken d) s = .next (settle (bump (portSet p) 5 1
          { taken with stationDyn := Tab.put s.stationDyn a { s.stationDyn.get a with silence := 0 } }))) ∧
      ((s.stations.get a).role ≠ .unused → (s.stations.get a).rxEnable = true →
        (s.stationDyn.get a).status = .silent → report = false →
        exec (.deckFrameTaken d) s = .next (settle (bump (portSet p) 5 1 (supervisionReport a false
          { taken with
            stationDyn := Tab.put s.stationDyn a { s.stationDyn.get a with silence := 0, status := .heard } })))))) ∧
  (∀ (s : State) (d : Deck), s.resetHeld = false → (s.port (deckPort d)).rx = [] →
    exec (.deckFrameTaken d) s = .next (settle s))

/-- DECK_FRAME_TAKEN takes a STATE frame as a station report, judged, mirrored and forwarded by its policy. From a
station in use with receive enabled, the silence count becomes 0 and a SILENT station HEARD, which its user is told
first; the raw points, condition and last value become the frame's; with check time 0 the filtered points take the raw
values at once and their changes are told (RoleReports, EventMapsRaise), else they keep theirs; then the frame is
mirrored under FORWARD and MIRROR_ONLY, and forwarded NORMAL under FORWARD. Every other station, every table, the mode
and the inputs are unchanged; when no filtered point changes, nothing is told. That the mirror is filled before the
frame is forwarded is the model's choice (log entry 35). (R5, R22, R24, R33, R34, R37, log entry 35) -/
def Obligations.DeckStateTaken : Prop :=
  ∀ (s : State) (d : Deck) (f : Frame) (rest : List Frame) (a : Addr) (hi lo c : Byte) (tail : List Byte)
    (v : Option Word16), s.resetHeld = false → (s.port (deckPort d)).rx = f :: rest → f.source = addrByte a →
    f.kind = 0x01#8 → f.payload = hi :: lo :: c :: tail →
    (tail = [] ∧ v = none) ∨ (∃ vh vl : Byte, tail = [vh, vl] ∧ v = some (vh ++ vl)) →
    (s.stations.get a).role ≠ .unused → (s.stations.get a).rxEnable = true →
    let inputs : Word16 := hi ++ lo
    let condition : Condition := if c = 0x00#8 then .ok else if c = 0x01#8 then .warn else .fault
    let old := s.stationDyn.get a
    let cfg := s.stations.get a
    let filtered := if cfg.checkTime = 0 then inputs else old.filtered
    let new : StationDyn :=
      { old with raw := inputs, condition := condition, value := v, silence := 0, status := .heard }
    let p := deckPort d
    let taken : State := { s with ports := s.ports.put p { s.port p with rx := rest } }
    let heard : State :=
      { taken with stationDyn := Tab.put s.stationDyn a { old with silence := 0, status := .heard } }
    let told : State := if old.status = .heard then heard else supervisionReport a false heard
    let reported : State := { told with stationDyn := Tab.put s.stationDyn a new }
    let judged : State := if cfg.checkTime = 0 then pointsBecome a inputs reported else reported
    let mirrored : State :=
      if cfg.policy = .drop then judged else fillMirror a ⟨inputs, condition, v⟩ .state judged
    let t : State := if cfg.policy = .forward then sendTx .bridge .normal f.forward mirrored else mirrored
    exec (.deckFrameTaken d) s = .next (settle t) ∧
      (t.stationDyn = Tab.put s.stationDyn a { new with filtered := filtered } ∧
        t.kept = { taken.kept with
          stationDyn := t.stationDyn, mirror := t.mirror, mapCounts := t.mapCounts, timerDyn := t.timerDyn }) ∧
      (filtered = old.filtered → judged = reported)

/-- DECK_FRAME_TAKEN forwards a REPLY whatever the policy and mirrors it unless the policy is DROP. A REPLY of 5 or 7
bytes from a station in use with receive enabled is offered NORMAL to the Bridge Port unchanged; its inputs, condition
and value, not its source and age, are given to the Query Mirror under FORWARD and MIRROR_ONLY; of the station's
dynamic state the silence count becomes 0 and the status HEARD, and of a station that was SILENT the user is told
before the frame acts. That the frame is offered before the mirror is filled is the model's choice (log entry 35).
(R6, R23, R25, R37, R45, log entry 35) -/
def Obligations.DeckReplyTaken : Prop :=
  ∀ (s : State) (d : Deck) (f : Frame) (rest : List Frame) (a : Addr) (hi lo c src age : Byte) (tail : List Byte)
    (v : Option Word16), s.resetHeld = false → (s.port (deckPort d)).rx = f :: rest → f.source = addrByte a →
    f.kind = 0x04#8 → f.payload = hi :: lo :: c :: src :: age :: tail →
    (tail = [] ∧ v = none) ∨ (∃ vh vl : Byte, tail = [vh, vl] ∧ v = some (vh ++ vl)) →
    (s.stations.get a).role ≠ .unused → (s.stations.get a).rxEnable = true →
    let condition : Condition := if c = 0x00#8 then .ok else if c = 0x01#8 then .warn else .fault
    let p := deckPort d
    let heard : State :=
      { s with
        ports := s.ports.put p { s.port p with rx := rest }
        stationDyn := Tab.put s.stationDyn a { s.stationDyn.get a with silence := 0, status := .heard } }
    let told : State := if (s.stationDyn.get a).status = .heard then heard else supervisionReport a false heard
    let forwarded := sendTx .bridge .normal f.forward told
    exec (.deckFrameTaken d) s = .next (settle
      (if (s.stations.get a).policy = .drop then forwarded
       else fillMirror a ⟨hi ++ lo, condition, v⟩ .reply forwarded))

/-- A change of a station's filtered points is told to its job, the Timer Bank and its event maps; a map that becomes
active raises its code. The points that change are told to the job of the station's role, then to the Timer Bank, then
to the station's event maps in list order, an order that is the model's (log entry 25). A map that becomes active
counts 1 more active map of its code and raises the code with origin FRAME, the station, its zone or none, and the
point number; a count that rises from 0 first reports that the code's condition holds (log entry 7), naming the
station; a map that becomes inactive counts 1 less, and at 0 reports that the condition no longer holds; a map that
does neither changes nothing. An unused record's maps are not judged. (R19, R35, R72, log entry 7, log entry 25) -/
def Obligations.EventMapsRaise : Prop :=
  (∀ (s : State) (a : Addr) (old new : Word16) (m : EventMap),
     let on (w : Word16) : Prop := w.getLsbD m.point.val = m.activeHigh
     let n := s.mapCounts.get m.code
     let zone := (s.stations.get a).zone
     let counted (k : Nat) : State := { s with mapCounts := Tab.put s.mapCounts m.code k }
     let holds (b : Bool) (t : State) : State := reportCondition .map m.code b ⟨.frame, some a, zone, 0⟩ t
     let raised (t : State) : State :=
       raiseCode ⟨m.code, ⟨.frame, some a, zone, BitVec.ofNat 16 m.point.val⟩, true⟩ t
     let t := judgeMap a old new m s
     (¬on old → on new → n = 0 → t = raised (holds true (counted 1))) ∧
     (¬on old → on new → 0 < n → t = raised (counted (n + 1))) ∧
     (on old → ¬on new → n = 1 → t = holds false (counted 0)) ∧
     (on old → ¬on new → 2 ≤ n → t = counted (n - 1)) ∧
     ((on old ↔ on new) → t = s)) ∧
  (∀ (s : State) (a : Addr) (new : Word16),
     let old := (s.stationDyn.get a).filtered
     let u : State := { s with stationDyn := Tab.put s.stationDyn a { s.stationDyn.get a with filtered := new } }
     let told := (List.finRange 16).foldl
      (fun v p =>
        if old.getLsbD p.val ≠ new.getLsbD p.val then sourceChanged (.station a p) (new.getLsbD p.val) v else v)
      (roleReport a old new u)
     let maps := (s.stations.get a).maps
     (old = new → pointsBecome a new s = s) ∧
     (old ≠ new → (s.stations.get a).role = .unused ∨ maps = [] → pointsBecome a new s = told) ∧
     (old ≠ new → (s.stations.get a).role ≠ .unused →
       pointsBecome a new s = maps.foldl (fun t m => judgeMap a old new m t) told))

/-- BRIDGE_FRAME_TAKEN sorts a frame by its destination and kind. To destination 0 a MGMT frame is served, an ACK of
one byte is taken by the Event Controller, and anything else is filtered; to any other destination whatever is not a
COMMAND of 1 to 5 bytes or a QUERY of 0 bytes is filtered. An empty queue gives nothing to take. (R26, R81) -/
def Obligations.BridgeFrameSorted : Prop :=
  (∀ (s : State) (f : Frame) (rest : List Frame), s.resetHeld = false → (s.port .bridge).rx = f :: rest →
    let taken : State := { s with ports := s.ports.put .bridge { s.port .bridge with rx := rest } }
    let n := f.payload.length
    (f.destination = 0x00#8 → f.kind = 0x07#8 →
      exec .bridgeFrameTaken s = .next (settle (serveFrame f taken))) ∧
    (∀ c : Code, f.destination = 0x00#8 → f.kind = 0x06#8 → f.payload = [BitVec.ofNat 8 c.val] →
      exec .bridgeFrameTaken s = .next (settle (ackCode c taken))) ∧
    (∀ b : Byte, f.destination = 0x00#8 → f.kind = 0x06#8 → f.payload = [b] → 64 ≤ b.toNat →
      exec .bridgeFrameTaken s = .next (settle (bump .global 5 1 taken))) ∧
    ((f.destination = 0x00#8 ∧ f.kind ≠ 0x07#8 ∧ ¬(f.kind = 0x06#8 ∧ n = 1)) ∨
      (f.destination ≠ 0x00#8 ∧ ¬(f.kind = 0x02#8 ∧ 1 ≤ n ∧ n ≤ 5) ∧ ¬(f.kind = 0x03#8 ∧ n = 0)) →
      exec .bridgeFrameTaken s = .next (settle (bump .bridge 5 1 taken)))) ∧
  (∀ s : State, s.resetHeld = false → (s.port .bridge).rx = [] → exec .bridgeFrameTaken s = .next (settle s))

/-- BRIDGE_FRAME_TAKEN puts a COMMAND to a station through four tests in order. Known, free, reachable, room: the
first test failed decides the REJECT, counted by reason and in total and offered URGENT to the Bridge Port, to the
source of the COMMAND with its destination and tag; FULL also counts the transmit drop. A SPEED COMMAND takes the
place of a waiting NORMAL one for the same station, whatever the occupancy, which for the bridge's own frames is the
model's reading (log entry 19). A COMMAND that passes is queued NORMAL on the steered line, unchanged. That a full
line's drop is counted first, then the reason, the total and last the REJECT's own drop, is the model's choice (log
entry 35). (R2, R9, R14, R27, log entry 19, log entry 35) -/
def Obligations.BridgeCommandFourTests : Prop :=
  ∀ (s : State) (f : Frame) (rest : List Frame) (a : Addr), s.resetHeld = false →
    (s.port .bridge).rx = f :: rest → f.destination = addrByte a → f.kind = 0x02#8 →
    1 ≤ f.payload.length → f.payload.length ≤ 5 →
    let taken : State := { s with ports := s.ports.put .bridge { s.port .bridge with rx := rest } }
    let rejected (reason : Byte) (ctr : CounterId) (t : State) : State :=
      sendTx .bridge .urgent ⟨f.source, 0x00#8, 0x09#8, f.tag, .bytes [reason, f.destination, f.tag]⟩
        (bump .global 12 1 (bump .global ctr 1 t))
    let known : Prop := (s.stations.get a).role ≠ .unused ∧ (s.stations.get a).rxEnable = true
    (¬known → exec .bridgeFrameTaken s = .next (settle (rejected 0x03#8 10 taken))) ∧
    (known → s.owners.get a ≠ .free → exec .bridgeFrameTaken s = .next (settle (rejected 0x01#8 8 taken))) ∧
    (known → s.owners.get a = .free → steer a taken = none →
      exec .bridgeFrameTaken s = .next (settle (rejected 0x04#8 11 taken))) ∧
    let speed : Prop := f.payload.head? = some 0x30#8
    let replaced (e : TxEntry) : Prop :=
      e.cls = .normal ∧ e.frame.isSpeed = true ∧ e.frame.destination = f.destination
    (∀ d : Deck, known → s.owners.get a = .free → steer a taken = some d →
      12 ≤ (s.port (deckPort d)).tx.length → ¬speed ∨ (∀ e ∈ (s.port (deckPort d)).tx, ¬replaced e) →
      exec .bridgeFrameTaken s = .next (settle (rejected 0x02#8 9 (bump (portSet (deckPort d)) 11 1 taken)))) ∧
    (∀ (d : Deck) (pre post : List TxEntry) (e : TxEntry), known → s.owners.get a = .free → steer a taken = some d →
      (s.port (deckPort d)).tx = pre ++ e :: post → speed → replaced e → (∀ x ∈ pre, ¬replaced x) →
      exec .bridgeFrameTaken s = .next (settle
        { taken with
          ports := taken.ports.put (deckPort d)
            { s.port (deckPort d) with tx := pre ++ ⟨.normal, f.forward⟩ :: post } })) ∧
    (∀ d : Deck, known → s.owners.get a = .free → steer a taken = some d →
      (s.port (deckPort d)).tx.length < 12 →
      exec .bridgeFrameTaken s = .next (settle (sendTx (deckPort d) .normal f.forward taken)))

/-- BRIDGE_FRAME_TAKEN answers a QUERY from a fresh mirror line or forwards it, and copies a broadcast to every UP
line. A QUERY is a hit when the line is valid with the station's tag, its age at most the freshness limit and the
station HEARD: one hit is counted and a REPLY of source MIRROR with the line's contents and age is offered NORMAL;
else one miss is counted and the QUERY is steered, or rejected LINE, or, with 12 frames waiting, counted as a transmit
drop and rejected FULL; unknown stations are rejected UNKNOWN. That the hit or miss is counted first is the model's
order (log entry 25). A broadcast COMMAND while any station is owned is rejected OWNED before the line test; with no
line UP a broadcast is rejected LINE; else each UP line is offered a NORMAL copy. The order of the rises of a REJECT
and of a full line, and that Deck Line A's copy of a broadcast is offered before B's, are the model's choice (log
entry 35). (R2, R6, R28, R29, R47, log entry 25, log entry 35) -/
def Obligations.BridgeQueryAndBroadcast : Prop :=
  (∀ (s : State) (f : Frame) (rest : List Frame) (a : Addr), s.resetHeld = false →
     (s.port .bridge).rx = f :: rest → f.destination = addrByte a → f.kind = 0x03#8 → f.payload = [] →
     let taken : State := { s with ports := s.ports.put .bridge { s.port .bridge with rx := rest } }
     let rejected (reason : Byte) (ctr : CounterId) (t : State) : State :=
       sendTx .bridge .urgent ⟨f.source, 0x00#8, 0x09#8, f.tag, .bytes [reason, f.destination, f.tag]⟩
         (bump .global 12 1 (bump .global ctr 1 t))
     let cfg := s.stations.get a
     let known : Prop := cfg.role ≠ .unused ∧ cfg.rxEnable = true
     let l := s.mirror.get (mirrorIndex a)
     let hit : Prop := l.valid = true ∧ l.tag = mirrorTag a ∧ l.age ≤ cfg.freshness ∧
       (s.stationDyn.get a).status = .heard
     let condition : Byte := match l.condition with | .ok => 0x00#8 | .warn => 0x01#8 | .fault => 0x02#8
     let value : List Byte :=
       match l.value with | none => [] | some v => [v.extractLsb' 8 8, v.extractLsb' 0 8]
     (¬known → exec .bridgeFrameTaken s = .next (settle (rejected 0x03#8 10 taken))) ∧
     (known → hit →
       exec .bridgeFrameTaken s = .next (settle (sendTx .bridge .normal
         ⟨f.source, f.destination, 0x04#8, f.tag, .bytes
           ([l.inputs.extractLsb' 8 8, l.inputs.extractLsb' 0 8, condition, 0x01#8, BitVec.ofNat 8 l.age] ++ value)⟩
         (bump .global 0 1 taken)))) ∧
     (known → ¬hit → steer a taken = none →
       exec .bridgeFrameTaken s = .next (settle (rejected 0x04#8 11 (bump .global 1 1 taken)))) ∧
     (∀ d : Deck, known → ¬hit → steer a taken = some d → (s.port (deckPort d)).tx.length < 12 →
       exec .bridgeFrameTaken s = .next (settle
         (sendTx (deckPort d) .normal f.forward (bump .global 1 1 taken)))) ∧
     (∀ d : Deck, known → ¬hit → steer a taken = some d → 12 ≤ (s.port (deckPort d)).tx.length →
       exec .bridgeFrameTaken s = .next (settle
         (rejected 0x02#8 9 (bump (portSet (deckPort d)) 11 1 (bump .global 1 1 taken)))))) ∧
  (∀ (s : State) (f : Frame) (rest : List Frame), s.resetHeld = false → (s.port .bridge).rx = f :: rest →
     f.destination = 0xFF#8 →
     (f.kind = 0x02#8 ∧ 1 ≤ f.payload.length ∧ f.payload.length ≤ 5) ∨ (f.kind = 0x03#8 ∧ f.payload = []) →
     let taken : State := { s with ports := s.ports.put .bridge { s.port .bridge with rx := rest } }
     let rejected (reason : Byte) (ctr : CounterId) : State :=
       sendTx .bridge .urgent ⟨f.source, 0x00#8, 0x09#8, f.tag, .bytes [reason, 0xFF#8, f.tag]⟩
         (bump .global 12 1 (bump .global ctr 1 taken))
     let barred : Prop := f.kind = 0x02#8 ∧ ∃ a : Addr, s.owners.get a ≠ .free
     let upA := (s.port .deckA).up
     let upB := (s.port .deckB).up
     (barred → exec .bridgeFrameTaken s = .next (settle (rejected 0x01#8 8))) ∧
     (¬barred → upA = false → upB = false → exec .bridgeFrameTaken s = .next (settle (rejected 0x04#8 11))) ∧
     (¬barred → upA = true → upB = false →
       exec .bridgeFrameTaken s = .next (settle (sendTx .deckA .normal f.forward taken))) ∧
     (¬barred → upA = false → upB = true →
       exec .bridgeFrameTaken s = .next (settle (sendTx .deckB .normal f.forward taken))) ∧
     (¬barred → upA = true → upB = true →
       exec .bridgeFrameTaken s = .next (settle
         (sendTx .deckB .normal f.forward (sendTx .deckA .normal f.forward taken)))))

/-- A frame to a station is steered by R30; a claim is granted on a FREE station or to its owner. Attachment A gives
Deck A and B gives Deck B while the line is UP; BOTH follows the seven rows of the table. A claim on a FREE station
makes the claimant the owner, one by the owner changes nothing, one on another owner's station is refused; a release
by the owner makes the station FREE, by any other party it changes nothing; nothing else changes. (R30, R32) -/
def Obligations.SteeringAndOwnership : Prop :=
  (∀ (s : State) (a : Addr),
     let upA := (s.port .deckA).up
     let upB := (s.port .deckB).up
     let goodA : Prop := s.quality.a.grade = .good
     let goodB : Prop := s.quality.b.grade = .good
     ((s.stations.get a).attachment = .a → steer a s = if upA = true then some .a else none) ∧
     ((s.stations.get a).attachment = .b → steer a s = if upB = true then some .b else none) ∧
     ((s.stations.get a).attachment = .both →
       (upA = true → goodA → steer a s = some .a) ∧
       (upA = true → ¬goodA → upB = true → goodB → steer a s = some .b) ∧
       (upA = false → upB = true → goodB → steer a s = some .b) ∧
       (upA = true → ¬goodA → upB = true → ¬goodB → steer a s = some .a) ∧
       (upA = true → ¬goodA → upB = false → steer a s = some .a) ∧
       (upA = false → upB = true → ¬goodB → steer a s = some .b) ∧
       (upA = false → upB = false → steer a s = none))) ∧
  (∀ (s : State) (a : Addr) (o : Owner), o ≠ .free →
     (s.owners.get a = .free → claim a o s = (true, { s with owners := Tab.put s.owners a o })) ∧
     (s.owners.get a = o → claim a o s = (true, s)) ∧
     (s.owners.get a ≠ .free → s.owners.get a ≠ o → claim a o s = (false, s)) ∧
     (s.owners.get a = o → release a o s = { s with owners := Tab.put s.owners a .free }) ∧
     (s.owners.get a ≠ o → release a o s = s))

/-- SUPERVISION_EXPIRY counts silence, samples the filters and ages the mirror. Every supervised HEARD station's
silence count rises by 1 and it becomes SILENT at its limit; every station with a check time counts down and is
sampled at 0, a point changing when two consecutive samples show the same new value; the valid mirror lines age by 1
up to 255, those of stations that become SILENT are invalidated; raw points, condition, value, tables, ports' receive
queues and device state are unchanged. That silences are judged before samples and ages is the model's choice (log
entry 25). That the countdown of an UNUSED record falls too is the model's choice (log entry 42). (R34, R36, R37, R46,
R49, log entry 25, log entry 42) -/
def Obligations.SupervisionExpiry : Prop :=
  ∀ s : State, s.resetHeld = false →
    let counts (a : Addr) : Prop :=
      (s.stations.get a).role ≠ .unused ∧ (s.stations.get a).rxEnable = true ∧
        0 < (s.stations.get a).silenceLimit ∧ (s.stationDyn.get a).status = .heard
    let falls (a : Addr) : Prop := counts a ∧ (s.stations.get a).silenceLimit ≤ (s.stationDyn.get a).silence + 1
    ∃ t : State, exec .supervisionExpiry s = .next (settle t) ∧
      (∀ a : Addr,
        let check := (s.stations.get a).checkTime
        let d := s.stationDyn.get a
        let e := t.stationDyn.get a
        e.raw = d.raw ∧ e.condition = d.condition ∧ e.value = d.value ∧
        (counts a → e.silence = min 255 (d.silence + 1)) ∧ (¬counts a → e.silence = d.silence) ∧
        (falls a → e.status = .silent) ∧ (¬falls a → e.status = d.status) ∧
        (check = 0 → e.countdown = d.countdown ∧ e.filtered = d.filtered ∧ e.candidates = d.candidates) ∧
        (check ≠ 0 → 2 ≤ d.countdown →
          e.countdown = d.countdown - 1 ∧ e.filtered = d.filtered ∧ e.candidates = d.candidates) ∧
        (check ≠ 0 → d.countdown ≤ 1 → e.countdown = check / 100 ∧
          ∀ n : Fin 16,
            let raw := d.raw.getLsbD n.val
            let old := d.filtered.getLsbD n.val
            let seen := d.candidates.getLsbD n.val
            (raw = old → e.filtered.getLsbD n.val = old ∧ e.candidates.getLsbD n.val = false) ∧
            (raw ≠ old → seen = false → e.filtered.getLsbD n.val = old ∧ e.candidates.getLsbD n.val = true) ∧
            (raw ≠ old → seen = true → e.filtered.getLsbD n.val = raw ∧ e.candidates.getLsbD n.val = false))) ∧
      (∀ i : Fin 64,
        let l := s.mirror.get i
        let gone : Prop := ∃ a : Addr, lineStation i l = some a ∧ falls a
        (l.valid = false → t.mirror.get i = l) ∧
        (l.valid = true → gone → t.mirror.get i = { l with valid := false }) ∧
        (l.valid = true → ¬gone → t.mirror.get i = { l with age := min 255 (l.age + 1) })) ∧
      t.kept = { s.kept with
        stationDyn := t.stationDyn, mirror := t.mirror, mapCounts := t.mapCounts, timerDyn := t.timerDyn
        supervisionDue := (s.now / 10000 + 1) * 10000 }

/-- STATION_WRITE stores its clamped record and resets the station's state; it is refused out of range, for an owned
station or a new role in service. Freshness is clamped to 1..255, the check time to the least of 0, 100, 200, 400, 800
ms not below it, the silence limit to 255, a point to 15; a role, attachment or policy outside its list, a zone above
7, a code above 63 and an address outside 1..254 are refused RANGE, as are more than 4 maps (log entries 17 and 29).
In CONFIG the record is replaced; with the role unchanged the filtered points take the raw values, candidates are
cleared and the countdown reloaded; with a new role the dynamic state takes its power-on values and the owner is FREE;
the mirror copy is invalidated and the counts of active maps exchange the old record's maps for the new one's. In RUN
and AUTONOMOUS an owned station is refused BUSY, then a new role STATE, changing nothing; else the write is accepted.
The points that the reset to raw changes are told to the station's job and then to the timer channels, before the copy
and the maps (log entries 25 and 36); a new role tells nothing. The condition of each code whose count passes to or
from 0 is reported. (R18, R35, R39, R40, R49, log entry 17, log entry 29, R19, log entry 25, log entry 36) -/
def Obligations.StationWriteJudged : Prop :=
  ((∀ (s : State) (h : Header) (a : Addr) (f : StationFields) (r : StationRecord), s.resetHeld = false →
      3 ≤ h.authority → s.device = .config → stationOf f = some r →
      let old := s.stations.get a
      let d := s.stationDyn.get a
      let e : StationDyn :=
        if r.role = old.role then { d with filtered := d.raw, candidates := 0, countdown := r.checkTime / 100 }
        else
          { raw := 0, filtered := 0, candidates := 0, countdown := r.checkTime / 100, condition := .ok, value := none
            silence := 0, status := .heard }
      let l := s.mirror.get (mirrorIndex a)
      ∃ t : State,
        exec (.stationWrite h (a.val + 1) f) s =
          .next (answer h .stationWrite (.done (.stationStored r)) (settle t)) ∧
        t.stationDyn = Tab.put s.stationDyn a e ∧
        (r.role ≠ old.role → t.owners = Tab.put s.owners a .free) ∧
        t.mirror = (if l.valid = true ∧ l.tag = mirrorTag a then
          Tab.put s.mirror (mirrorIndex a) { l with valid := false } else s.mirror) ∧
        (∀ c : Code, mapCountOf old d.filtered c ≤ s.mapCounts.get c →
          t.mapCounts.get c = s.mapCounts.get c - mapCountOf old d.filtered c + mapCountOf r e.filtered c) ∧
        (∀ c : Code, mapCountOf old d.filtered c ≤ s.mapCounts.get c →
          let same : Prop := s.mapCounts.get c = 0 ↔ t.mapCounts.get c = 0
          (same → (t.codes.get c).mapCond = (s.codes.get c).mapCond) ∧
          (¬same → (t.codes.get c).mapCond = decide (t.mapCounts.get c ≠ 0))) ∧
        let told := (List.finRange 16).foldl
          (fun v p =>
            if d.filtered.getLsbD p.val ≠ d.raw.getLsbD p.val then
              sourceChanged (.station a p) (d.raw.getLsbD p.val) v
            else v)
          (roleReport a d.filtered d.raw
            { s with
              stations := Tab.put s.stations a r
              stationDyn := Tab.put s.stationDyn a
                { d with filtered := d.raw, candidates := 0, countdown := r.checkTime / 100 } })
        (r.role = old.role →
          t = { told with mirror := t.mirror, mapCounts := t.mapCounts, codes := t.codes }) ∧
        (r.role ≠ old.role →
          t = { s with
            stations := Tab.put s.stations a r, stationDyn := t.stationDyn, owners := t.owners, mirror := t.mirror
            mapCounts := t.mapCounts, codes := t.codes }) ∧
        t.kept = { s.kept with
          stations := Tab.put s.stations a r, stationDyn := t.stationDyn, mirror := t.mirror
          mapCounts := t.mapCounts, timerDyn := t.timerDyn }) ∧
   (∀ (s : State) (h : Header) (a : Addr) (f : StationFields) (r : StationRecord), s.resetHeld = false →
      3 ≤ h.authority → s.device ≠ .config → stationOf f = some r →
      (s.owners.get a ≠ .free →
        exec (.stationWrite h (a.val + 1) f) s = .next (answer h .stationWrite (.refused .busy none) s)) ∧
      (s.owners.get a = .free → r.role ≠ (s.stations.get a).role →
        exec (.stationWrite h (a.val + 1) f) s = .next (answer h .stationWrite (.refused .state none) s)) ∧
      (s.owners.get a = .free → r.role = (s.stations.get a).role →
        let d := s.stationDyn.get a
        let told := (List.finRange 16).foldl
          (fun v p =>
            if d.filtered.getLsbD p.val ≠ d.raw.getLsbD p.val then
              sourceChanged (.station a p) (d.raw.getLsbD p.val) v
            else v)
          (roleReport a d.filtered d.raw
            { s with
              stations := Tab.put s.stations a r
              stationDyn := Tab.put s.stationDyn a
                { d with filtered := d.raw, candidates := 0, countdown := r.checkTime / 100 } })
        ∃ t : State,
          exec (.stationWrite h (a.val + 1) f) s =
            .next (answer h .stationWrite (.done (.stationStored r)) (settle t)) ∧
          t.stations = Tab.put s.stations a r ∧
          (t.stationDyn.get a).filtered = (s.stationDyn.get a).raw ∧
          (t.stationDyn.get a).silence = (s.stationDyn.get a).silence ∧
          t = { told with mirror := t.mirror, mapCounts := t.mapCounts, codes := t.codes }))) ∧
  (∀ f : StationFields,
     let outside : Prop := f.role = none ∨ f.attachment = none ∨ f.policy = none ∨
       (∃ z : Nat, f.zone = some z ∧ 8 ≤ z) ∨ (∃ c : Nat, f.silenceCode = some c ∧ 64 ≤ c) ∨ 4 < f.maps.length ∨
       ∃ m ∈ f.maps, 64 ≤ m.code
     (outside → stationOf f = none) ∧
     (¬outside → ∃ r : StationRecord, stationOf f = some r ∧
       some r.role = f.role ∧ (r.zone.map fun z => z.val) = f.zone ∧ some r.attachment = f.attachment ∧
       r.rxEnable = f.rxEnable ∧ some r.policy = f.policy ∧ r.mirrorAllowed = f.mirrorAllowed ∧
       r.freshness = min 255 (max 1 f.freshness) ∧
       r.checkTime = (if f.checkTime = 0 then 0 else if f.checkTime ≤ 100 then 100
         else if f.checkTime ≤ 200 then 200 else if f.checkTime ≤ 400 then 400 else 800) ∧
       r.silenceLimit = min 255 f.silenceLimit ∧ (r.silenceCode.map fun c => c.val) = f.silenceCode ∧
       (r.maps.map fun m => (m.point.val, m.activeHigh, m.code.val)) =
         f.maps.map fun m => (min 15 m.point, m.activeHigh, m.code))) ∧
  (∀ (s : State) (h : Header) (n : Nat) (f : StationFields), s.resetHeld = false → 3 ≤ h.authority →
     n = 0 ∨ 255 ≤ n ∨ stationOf f = none →
     exec (.stationWrite h n f) s = .next (answer h .stationWrite (.refused .range none) s))

/-- A frame given to the mirror fills the line of its station when it may; MIRROR_PURGE invalidates the lines of its
scope and answers how many. The line of address s is s modulo 64 and its tag s divided by 64. With mirroring allowed
and the attachment BOTH, or its one deck line UP and GOOD, the line becomes valid with the tag, the contents, age 0
and the fill source; filling a valid line of another tag counts one eviction; otherwise nothing changes. A purge of
ALL invalidates every valid line, of ADDRESS the valid line that holds the station's tag, of INDEX a valid line
whatever its tag; each keeps its tag, contents, age and source; the reply carries the number of lines invalidated. An
address outside 1..254 or an index above 63 is refused RANGE and touches no line. Nothing but the mirror changes.
(R43, R44, R49, R51) -/
def Obligations.MirrorFillAndPurge : Prop :=
  (∀ (s : State) (a : Addr) (r : Report) (src : FillSource),
     let i := mirrorIndex a
     let cfg := s.stations.get a
     let sound (d : Deck) : Prop := (s.port (deckPort d)).up = true ∧ (s.quality.at d).grade = .good
     let allowed : Prop := cfg.mirrorAllowed = true ∧
       (cfg.attachment = .both ∨ (cfg.attachment = .a ∧ sound .a) ∨ (cfg.attachment = .b ∧ sound .b))
     i.val = (a.val + 1) % 64 ∧ (mirrorTag a).val = (a.val + 1) / 64 ∧
     (¬allowed → fillMirror a r src s = s) ∧
     (allowed →
       let filled : State :=
         { s with mirror := Tab.put s.mirror i ⟨true, mirrorTag a, r.inputs, r.condition, r.value, 0, src⟩ }
       fillMirror a r src s =
         if (s.mirror.get i).valid = true ∧ (s.mirror.get i).tag ≠ mirrorTag a then bump .global 2 1 filled
         else filled)) ∧
  (∀ (s : State) (h : Header), s.resetHeld = false → 2 ≤ h.authority →
     let off (l : MirrorLine) : MirrorLine := { l with valid := false }
     let sent (n : Nat) (m : Vector MirrorLine 64) : Host.Outcome State Fault Refusal :=
       .next (answer h .mirrorPurge (.done (.purged n)) (settle { s with mirror := m }))
     exec (.mirrorPurge h .all) s =
       sent ((List.finRange 64).countP fun i => (s.mirror.get i).valid) (s.mirror.map off) ∧
     (∀ a : Addr,
       let l := s.mirror.get (mirrorIndex a)
       exec (.mirrorPurge h (.address (a.val + 1))) s =
         if l.valid = true ∧ l.tag = mirrorTag a then sent 1 (Tab.put s.mirror (mirrorIndex a) (off l))
         else sent 0 s.mirror) ∧
     (∀ i : Fin 64,
       exec (.mirrorPurge h (.index i.val)) s =
         if (s.mirror.get i).valid = true then sent 1 (Tab.put s.mirror i (off (s.mirror.get i)))
         else sent 0 s.mirror) ∧
     (∀ n : Nat, n = 0 ∨ 255 ≤ n →
       exec (.mirrorPurge h (.address n)) s = .next (answer h .mirrorPurge (.refused .range none) s)) ∧
     (∀ n : Nat, 64 ≤ n →
       exec (.mirrorPurge h (.index n)) s = .next (answer h .mirrorPurge (.refused .range none) s)))

/-- MIRROR_READ answers the items of the line and changes nothing. With any authority, an index from 0 to 63 is
answered DONE with the line as it stands, valid or not, and the address i plus 64 times the tag, 0 when the sum is 0;
an index above 63 is refused RANGE; the line, its age and every counter of the mirror stay as they were. (R52) -/
def Obligations.MirrorReadShowsLine : Prop :=
  ∀ (s : State) (h : Header), s.resetHeld = false →
    (∀ i : Fin 64,
      exec (.mirrorRead h i.val) s = .next (answer h .mirrorRead
        (.done (.mirrorLine (s.mirror.get i) (i.val + 64 * (s.mirror.get i).tag.val))) (settle s))) ∧
    (∀ n : Nat, 64 ≤ n →
      exec (.mirrorRead h n) s = .next (answer h .mirrorRead (.refused .range none) s)) ∧
    (settle s).mirror = s.mirror ∧
    (∀ (i : CounterId) (r : Result), i.val ≤ 2 →
      (answer h .mirrorRead r (settle s)).mirror = s.mirror ∧
      counter (answer h .mirrorRead r (settle s)) .global i = counter s .global i)

/-- PIN_CHANGE changes an input line's reading; DIRECT_LINE_SAMPLE lets a change through when two samples show it. The
reading is active while input enable is yes and the level matches the polarity; with check time 0 the filtered value
takes it at once. A sample reloads the countdown; a reading equal to the filtered value clears the candidate; one that
differs becomes the candidate or, already the candidate, the filtered value. No other line's filter and no table
changes. On an output line only the pin changes; pins change while RESET is asserted too (log entries 8 and 10). (R55,
R56, R60, log entry 8, log entry 10) -/
def Obligations.InputLineFilter : Prop :=
  (∀ (s : State) (n : LineId) (high : Bool),
     let e := s.lines.get n
     let reading : Bool := e.enable && (high == e.activeHigh)
     let pins := Tab.put s.pins n high
     (s.pins.get n = high → exec (.pinChange n high) s = .next (settle s)) ∧
     (s.pins.get n ≠ high → e.fn.isOutput = true →
       exec (.pinChange n high) s = .next (settle { s with pins := pins })) ∧
     (s.pins.get n ≠ high →
       (e.fn = .generalIn ∨ e.fn = .stopLoop ∨ e.fn = .alarmButton ∨ e.fn = .unassigned) →
       ∃ t : State, exec (.pinChange n high) s = .next (settle t) ∧
         (t.lineDyn.get n).reading = reading ∧
         (t.lineDyn.get n).filtered = (if e.checkTime = 0 then reading else (s.lineDyn.get n).filtered) ∧
         (t.lineDyn.get n).countdown = (s.lineDyn.get n).countdown ∧
         (∀ m : LineId, m ≠ n → t.lineDyn.get m = s.lineDyn.get m) ∧
         t.kept = { s.kept with
           pins := pins, lineDyn := t.lineDyn, lineCounts := t.lineCounts, timerDyn := t.timerDyn })) ∧
  (∀ (s : State) (n : LineId), s.resetHeld = false →
     let e := s.lines.get n
     let d := s.lineDyn.get n
     (e.checkTime = 0 → exec (.directLineSample n) s = .next (settle s)) ∧
     ((e.fn = .generalIn ∨ e.fn = .stopLoop ∨ e.fn = .alarmButton ∨ e.fn = .unassigned) → 0 < e.checkTime →
       ∃ t : State, exec (.directLineSample n) s = .next (settle t) ∧
         (d.reading = d.filtered →
           t = { s with lineDyn := Tab.put s.lineDyn n { d with candidate := none, countdown := e.checkTime } }) ∧
         (d.reading ≠ d.filtered → d.candidate ≠ some d.reading →
           t = { s with
             lineDyn := Tab.put s.lineDyn n { d with candidate := some d.reading, countdown := e.checkTime } }) ∧
         (d.reading ≠ d.filtered → d.candidate = some d.reading →
           t.lineDyn = Tab.put s.lineDyn n ⟨d.reading, d.reading, none, e.checkTime⟩ ∧
           t.kept = { s.kept with
             lineDyn := t.lineDyn, lineCounts := t.lineCounts, timerDyn := t.timerDyn })))

/-- A GENERAL_IN line raises its code and an ALARM_BUTTON line the general alarm on becoming active; a STOP_LOOP line
opens the loop on falling. An activation of an unfiltered GENERAL_IN line sets the latch of its present EDGE code with
origin INTERNAL, no station, no zone and the line number; the count of active lines follows. That these attributes
stay rests on the condition being reported first, which is read from the spec (log entry 7). An activation of an
ALARM_BUTTON line makes an INACTIVE alarm ACTIVE in RUN and AUTONOMOUS, with the line number as detail and every ramp
held; in CONFIG one lost raise is counted. A release raises nothing. Of any change of any input line, filtered or not,
the function's user is told, then the timer channels that use the line (log entry 25). A STOP_LOOP line that falls
while the loop is closed opens it: the ramp enables are de-energised, then every ramp is held with cause 2 (in this
order by log entry 36); one that falls while it is open, and one that rises, acts on nothing but the Timer Bank, and
after a rise the loop is open just while another STOP_LOOP line is inactive. (R55, R56, R57, R59, R72, R73, R87, log
entry 7, log entry 25, R58, log entry 36) -/
def Obligations.InputLineRaises : Prop :=
  ((∀ (s : State) (n : LineId) (high : Bool) (c : Code),
      let e := s.lines.get n
      let v := s.vectors.get c
      e.fn = .generalIn → e.code = some c → e.checkTime = 0 → e.enable = true → s.pins.get n ≠ high →
      (s.lineDyn.get n).filtered = !(high == e.activeHigh) → (∀ ch : ChannelId, (s.timerDyn.get ch).running = false) →
      3 ≤ c.val → v.present = true → v.level ≠ 0 → v.sense = .edge → s.device ≠ .config →
      ∃ t : State, exec (.pinChange n high) s = .next (settle t) ∧
        (t.codes.get c).latch = ((high == e.activeHigh) || (s.codes.get c).latch) ∧
        (high = e.activeHigh → (t.codes.get c).attrs = ⟨.internal, none, none, BitVec.ofNat 16 n.val⟩) ∧
        t.lineCounts.get c =
          (if high = e.activeHigh then s.lineCounts.get c + 1 else s.lineCounts.get c - 1)) ∧
   (∀ (s : State) (n : LineId) (high : Bool),
      let e := s.lines.get n
      e.fn = .alarmButton → e.checkTime = 0 → e.enable = true → s.pins.get n ≠ high →
      (s.lineDyn.get n).filtered = !(high == e.activeHigh) →
      ∃ t : State, exec (.pinChange n high) s = .next (settle t) ∧
        (high ≠ e.activeHigh → t.ga = s.ga) ∧
        (high = e.activeHigh → s.device ≠ .config → s.ga.active = false →
          t.ga = ⟨true, some (.internal, BitVec.ofNat 16 n.val)⟩ ∧
            ∀ r : RampId, (t.rampDyn.get r).state.isActive = false) ∧
        (high = e.activeHigh → s.device = .config →
          t.ga = s.ga ∧ t.counters = (bump .global 7 1 s).counters))) ∧
  (∀ (s : State) (n : LineId) (active : Bool),
     let e := s.lines.get n
     let t : State :=
       { s with lineDyn := Tab.put s.lineDyn n { s.lineDyn.get n with filtered := active, candidate := none } }
     let told (u : State) : Prop := lineChanges n active s = sourceChanged (.line n) active u
     (∀ c : Code, e.fn = .generalIn → e.code = some c →
       let k := s.lineCounts.get c
       let counted (m : Nat) : State := { t with lineCounts := Tab.put s.lineCounts c m }
       let holds (b : Bool) (m : Nat) : State := reportCondition .line c b ⟨.internal, none, none, 0⟩ (counted m)
       let raised (u : State) : State := raiseCode ⟨c, ⟨.internal, none, none, BitVec.ofNat 16 n.val⟩, true⟩ u
       (active = true → k = 0 → told (raised (holds true 1))) ∧
       (active = true → 0 < k → told (raised (counted (k + 1)))) ∧
       (active = false → k = 1 → told (holds false 0)) ∧
       (active = false → 2 ≤ k → told (counted (k - 1)))) ∧
     (e.fn = .alarmButton →
       (active = true → told (alarmRaise .internal (BitVec.ofNat 16 n.val) t).2) ∧ (active = false → told t)) ∧
     (e.fn = .stopLoop →
       (active = false → stopLoopOpen s = false → stopLoopOpen t = true ∧
         told (holdAll 2
           { t with
             outputs := Tab.of fun m => if (s.lines.get m).fn.isRampEnable = true then false else s.outputs.get m })) ∧
       (active = false → stopLoopOpen s = true → stopLoopOpen t = true ∧ told t) ∧
       (active = true → told t ∧
         (stopLoopOpen t = true ↔ ∃ m : LineId, m ≠ n ∧ (s.lines.get m).fn = .stopLoop ∧
           (s.lineDyn.get m).filtered = false))) ∧
     (e.fn = .unassigned ∨ (e.fn = .generalIn ∧ e.code = none) → told t)) ∧
  ((∀ (s : State) (n : LineId) (high : Bool),
     let e := s.lines.get n
     let reading : Bool := e.enable && (high == e.activeHigh)
     e.fn.isInput = true → e.checkTime = 0 → s.pins.get n ≠ high → (s.lineDyn.get n).filtered ≠ reading →
     exec (.pinChange n high) s = .next (settle (lineChanges n reading
       { s with
         pins := Tab.put s.pins n high
         lineDyn := Tab.put s.lineDyn n { s.lineDyn.get n with reading := reading } }))) ∧
   (∀ (s : State) (n : LineId), s.resetHeld = false →
     let e := s.lines.get n
     let d := s.lineDyn.get n
     e.fn.isInput = true → 0 < e.checkTime → d.reading ≠ d.filtered → d.candidate = some d.reading →
     exec (.directLineSample n) s = .next (settle (lineChanges n d.reading
       { s with lineDyn := Tab.put s.lineDyn n { d with countdown := e.checkTime } }))))

/-- The opening of the stop loop drops every ramp enable and holds every ramp; an output order is carried out only on
the line of the ordering job's function. When an unfiltered STOP_LOOP line's pin takes its inactive level while the
loop is closed, every RAMP_ENABLE_OUT line is DE-ENERGISED, a ramp in CLEARING or MOVING is HELD, a homing ramp is
UNREFERENCED, every other ramp keeps its state, no other output changes, and the loop is open. De-energise is carried
out when the line has the function; energise also needs RUN or AUTONOMOUS and, for a ramp enable, the stop loop
closed; an order not carried out changes nothing; an ENERGISED line drives its pin to the active level of its
polarity, a DE-ENERGISED one to the inactive level, and a line that is no output line drives nothing. That the enables
are de-energised before the ramps are held is the model's choice (log entry 36). The loop is open just while a
STOP_LOOP line is inactive. (R58, R60, R152, log entry 36) -/
def Obligations.StopLoopAndOutputs : Prop :=
  ((∀ (s : State) (n : LineId) (high : Bool),
      let e := s.lines.get n
      e.fn = .stopLoop → e.checkTime = 0 → e.enable = true → high ≠ e.activeHigh → s.pins.get n ≠ high →
      stopLoopOpen s = false →
      ∃ t : State, exec (.pinChange n high) s = .next (settle t) ∧ stopLoopOpen t = true ∧
        (∀ m : LineId, t.outputs.get m =
          if (s.lines.get m).fn.isRampEnable = true then false else s.outputs.get m) ∧
        ∀ r : RampId, (t.rampDyn.get r).state =
          match (s.rampDyn.get r).state with
          | .clearing | .moving => .held
          | .homing => .unreferenced
          | other => other) ∧
   ((∀ (s : State) (r : RampId) (n : LineId), (s.ramps.get r).enableLine = some n →
      let fits : Prop := (s.lines.get n).fn = .rampEnable r
      (fits → orderEnable r false s = { s with outputs := Tab.put s.outputs n false }) ∧
      (fits → s.device ≠ .config → stopLoopOpen s = false →
        orderEnable r true s = { s with outputs := Tab.put s.outputs n true }) ∧
      (¬fits → orderEnable r false s = s) ∧
      (¬fits ∨ s.device = .config ∨ stopLoopOpen s = true → orderEnable r true s = s)) ∧
    (∀ (s : State) (z : ZoneId) (n : LineId), (s.zones.get z).doorHold = some n →
      let fits : Prop := (s.lines.get n).fn = .doorHold z
      (fits → orderDoorHold z false s = { s with outputs := Tab.put s.outputs n false }) ∧
      (fits → s.device ≠ .config → orderDoorHold z true s = { s with outputs := Tab.put s.outputs n true }) ∧
      (¬fits → orderDoorHold z false s = s) ∧
      (¬fits ∨ s.device = .config → orderDoorHold z true s = s)) ∧
    (∀ (s : State) (n : LineId),
      ((s.lines.get n).fn.isOutput = true → s.outputs.get n = true →
        drivenLevel s n = some (s.lines.get n).activeHigh) ∧
      ((s.lines.get n).fn.isOutput = true → s.outputs.get n = false →
        drivenLevel s n = some (!(s.lines.get n).activeHigh)) ∧
      ((s.lines.get n).fn.isOutput = false → drivenLevel s n = none)))) ∧
  ((∀ s : State, stopLoopOpen s = true ↔
     ∃ n : LineId, (s.lines.get n).fn = .stopLoop ∧ (s.lineDyn.get n).filtered = false) ∧
   (∀ fn : LineFn,
     (fn.isInput = true ↔ fn = .generalIn ∨ fn = .stopLoop ∨ fn = .alarmButton ∨ fn = .unassigned) ∧
     (fn.isRampEnable = true ↔ ∃ r : RampId, fn = .rampEnable r) ∧
     (fn.isOutput = true ↔ (∃ r : RampId, fn = .rampEnable r) ∨ ∃ z : ZoneId, fn = .doorHold z)))

/-- SUPERVISION_EXPIRY makes a quiet station SILENT, which its job is told; it frees the codes answered busy and lets
FAULT lines recover. A supervised HEARD station's count rises by 1 and at its limit it becomes SILENT: its job is
told, its mirror copy invalidated, and its silence code raised with origin INTERNAL, the station, its zone and the
limit. A door of a passing station takes its derived state, CLOSING, OPENING or OBSTRUCTED by its command, or UNKNOWN
when SILENT; a drive that falls silent faults its ramp; an amplifier that falls silent fails its line, and one heard
again may let it recover. Every code answered busy may be offered again. A FAULT line with an amplifier HEARD and not
in LINE_FAULT or PLAYING becomes FREE, and a pass follows. The order within the expiry is the model's (log entry 25).
So is the order of a SILENT station's report, its copy and its silence code (log entry 36). A station with check time
0 is not sampled; one whose countdown has not ended only counts down; one whose countdown ends reloads it, takes as
candidates the points that differ and were none before, and has those that were candidates changed and told as
EventMapsRaise states. That an UNUSED record's countdown falls too is the model's choice (log entry 42). (R23, R36,
R37, R49, R79, R103, R134, R135, R153, log entry 25, log entry 36, log entry 42) -/
def Obligations.SilenceAndRecovery : Prop :=
  ((∀ s : State, s.resetHeld = false →
      let due : State := { s with supervisionDue := (s.now / 10000 + 1) * 10000 }
      let counted := (List.finRange 254).foldl (fun t a => countSilence a t) due
      let sampled := (List.finRange 254).foldl (fun t a => countSample a t) counted
      exec .supervisionExpiry s = .next (settle
        ((List.finRange 8).foldl (fun t z => recoverLine z t) (reofferBusy (ageMirror sampled))))) ∧
   (∀ (s : State) (a : Addr),
      let cfg := s.stations.get a
      let d := s.stationDyn.get a
      let counts : Prop := cfg.role ≠ .unused ∧ cfg.rxEnable = true ∧ 0 < cfg.silenceLimit ∧ d.status = .heard
      let risen : StationDyn := { d with silence := min 255 (d.silence + 1) }
      (¬counts → countSilence a s = s) ∧
      (counts → d.silence + 1 < cfg.silenceLimit →
        countSilence a s = { s with stationDyn := Tab.put s.stationDyn a risen }) ∧
      (counts → cfg.silenceLimit ≤ d.silence + 1 →
        let told := supervisionReport a true
          { s with stationDyn := Tab.put s.stationDyn a { risen with status := .silent } }
        let l := s.mirror.get (mirrorIndex a)
        let off : State := if l.valid = true ∧ l.tag = mirrorTag a then
          { told with mirror := Tab.put s.mirror (mirrorIndex a) { l with valid := false } } else told
        countSilence a s =
          raiseInternal cfg.silenceCode (some a) cfg.zone (BitVec.ofNat 16 cfg.silenceLimit) off)) ∧
   ((∀ (s : State) (a : Addr) (d : DoorId) (silent : Bool), (s.stations.get a).role = .door →
      (∀ e : DoorId, (s.doors.get e).station = some a ↔ e = d) →
      let x := s.doorDyn.get d
      let heard : Prop := (s.stationDyn.get a).status = .heard
      let seen (st : DoorState) : DoorState := if heard then st else .unknown
      let derived : DoorState :=
        if ¬heard then .unknown
        else if pointOn s a 4 = true then .failed
        else if pointOn s a 0 = true ∧ pointOn s a 1 = false then .closed
        else if pointOn s a 1 = true ∧ pointOn s a 0 = false then .opened
        else .between
      let y : DoorDyn := match x.command with
        | .none => { x with state := derived, held := false }
        | .close => { x with state := seen (if x.retryTimer = .stopped then .closing else .obstructed) }
        | .open => { x with state := seen .opening }
      let t := supervisionReport a silent s
      t = { s with doorDyn := Tab.put s.doorDyn d y, zoneDyn := t.zoneDyn } ∧
        ∀ z : ZoneId, t.zoneDyn.get z =
          if z = (s.doors.get d).zone ∧ (s.zoneDyn.get z).state.isRest = true then
            { s.zoneDyn.get z with state := restState t z }
          else s.zoneDyn.get z) ∧
    (∀ (s : State) (a : Addr) (r : RampId), (s.stations.get a).role = .rampDrive →
      (∀ q : RampId, (s.ramps.get q).drive = some a ↔ q = r) →
      supervisionReport a true s = faultRamp r .driveSilent s ∧ supervisionReport a false s = s) ∧
    (∀ (s : State) (a : Addr) (z : ZoneId), (s.stations.get a).role = .amplifier →
      (∀ y : ZoneId, (s.zones.get y).amplifier = some a ↔ y = z) →
      let l := s.zoneLines.get z
      let t := supervisionReport a true s
      supervisionReport a false s = recoverLine z s ∧
      (l.state = .fault → t = s) ∧
      (l.state ≠ .fault →
        t.zoneLines.get z = ⟨.fault, none, .stopped, .stopped, .stopped⟩ ∧ t.owners.get a ≠ .line z ∧
          ∀ k : Nat, l.carried = some k → ∀ c ∈ t.calls, c.stamp = k → z ∉ c.zones ∧ c.incomplete = true) ∧
      (l.state = .free → l.carried = none → s.calls = [] →
        t = raiseInternal s.record.lineFaultCode (some a) (some z) 4 (release a (.line z)
          { s with zoneLines := Tab.put s.zoneLines z ⟨.fault, none, .stopped, .stopped, .stopped⟩ }))) ∧
    (∀ (s : State) (a : Addr) (silent : Bool),
      (s.stations.get a).role ≠ .door → (s.stations.get a).role ≠ .rampDrive → (s.stations.get a).role ≠ .amplifier →
      supervisionReport a silent s = s)) ∧
   ((∀ (s : State) (z : ZoneId),
      let healthy : Prop := (s.zoneLines.get z).state = .fault ∧ ∃ a : Addr, (s.zones.get z).amplifier = some a ∧
        (s.stationDyn.get a).status = .heard ∧ pointOn s a 1 = false ∧ pointOn s a 0 = false
      (healthy → recoverLine z s = arbitrate
        { s with zoneLines := Tab.put s.zoneLines z ⟨.free, none, .stopped, .stopped, .stopped⟩ }) ∧
      (¬healthy → recoverLine z s = s)) ∧
    (∀ s : State, reofferBusy s = { s with codes := (reofferBusy s).codes } ∧
      ∀ c : Code, (reofferBusy s).codes.get c =
        if (s.codes.get c).answer = some .busy then { s.codes.get c with answer := none } else s.codes.get c))) ∧
  ((∀ (s : State) (a : Addr),
     let check := (s.stations.get a).checkTime
     let d := s.stationDyn.get a
     let differs := d.raw ^^^ d.filtered
     (check = 0 → countSample a s = s) ∧
     (check ≠ 0 → 2 ≤ d.countdown →
       countSample a s = { s with stationDyn := Tab.put s.stationDyn a { d with countdown := d.countdown - 1 } }) ∧
     (check ≠ 0 → d.countdown ≤ 1 →
       countSample a s = pointsBecome a (d.filtered ^^^ (differs &&& d.candidates))
         { s with
           stationDyn := Tab.put s.stationDyn a
             { d with countdown := check / 100, candidates := differs &&& ~~~d.candidates } })) ∧
   (∀ s : State, ageMirror s = { s with mirror := Tab.of fun i =>
     let l := s.mirror.get i
     if l.valid = true then { l with age := min 255 (l.age + 1) } else l }))

/-- LINE_WRITE in CONFIG replaces the entry and sets the line afresh. The check time is stored as the least of 0, 1,
2, 4, 8, 16, 32, 64 ms not below it, or 64; a function outside the list or with a ramp above 3 or a zone above 7, a
code above 63 and a line above 15 are refused RANGE (log entry 17). In CONFIG the entry is replaced, the line is
DE-ENERGISED, and an input line's reading and filtered value are taken from its pin at once with no candidate and the
countdown at the new check time; no other line, table or station changes and no latch is set; a ramp newly given or
losing an encoder line loses its reference. Outside CONFIG the write is refused STATE and changes nothing. Such a ramp
is UNREFERENCED from IDLE and HELD and else keeps its state; P and its other items stay, the period meter and last
edge period are 65535 and the B level low. A ramp in no motion that neither gains nor loses an encoder line is not
changed. (R54, R61, R147, log entry 17, log entry 20) -/
def Obligations.LineWriteResetsLine : Prop :=
  (∀ (s : State) (h : Header) (n : LineId) (f : LineFields) (e : LineEntry), s.resetHeld = false →
     3 ≤ h.authority → lineOf f = some e →
     let reading : Bool := e.fn.isInput && (e.enable && (s.pins.get n == e.activeHigh))
     (s.device ≠ .config →
       exec (.lineWrite h n.val f) s = .next (answer h .lineWrite (.refused .state none) s)) ∧
     (s.device = .config →
       ∃ t : State,
         exec (.lineWrite h n.val f) s = .next (answer h .lineWrite (.done (.lineStored e)) (settle t)) ∧
         t.lineDyn = Tab.put s.lineDyn n ⟨reading, reading, none, e.checkTime⟩ ∧
         t.outputs.get n = false ∧
         (∀ c : Code, (t.codes.get c).latch = (s.codes.get c).latch) ∧ t.ga = s.ga ∧
         (∀ r : RampId, (s.lines.get n).fn ≠ e.fn →
           (s.lines.get n).fn.encoderOf = some r ∨ e.fn.encoderOf = some r →
           (t.rampDyn.get r).referenced = false ∧ (t.rampDyn.get r).meter = 65535 ∧
             (t.rampDyn.get r).lastPeriod = 65535 ∧ (t.rampDyn.get r).bHigh = false) ∧
         (∀ r : RampId, (s.rampDyn.get r).state.isActive = false →
           let d := s.rampDyn.get r
           let lost : Prop := (s.lines.get n).fn ≠ e.fn ∧
             ((s.lines.get n).fn.encoderOf = some r ∨ e.fn.encoderOf = some r)
           (lost → d.state = .idle ∨ d.state = .held → t.rampDyn.get r =
             { d with
               state := .unreferenced, referenced := false, meter := 65535, lastPeriod := 65535, bHigh := false }) ∧
           (lost → d.state = .unreferenced ∨ d.state = .fault → t.rampDyn.get r =
             { d with referenced := false, meter := 65535, lastPeriod := 65535, bHigh := false }) ∧
           (¬lost → t.rampDyn.get r = d)) ∧
         t.kept = { s.kept with
           lines := Tab.put s.lines n e, lineDyn := t.lineDyn, lineCounts := t.lineCounts })) ∧
  (∀ f : LineFields,
     let outside : Prop := f.fn = .outside ∨
       (∃ n : Nat, 4 ≤ n ∧ (f.fn = .encoderA n ∨ f.fn = .encoderB n ∨ f.fn = .rampEnable n)) ∨
       (∃ n : Nat, 8 ≤ n ∧ f.fn = .doorHold n) ∨ ∃ c : Nat, 64 ≤ c ∧ f.code = some c
     let times : List Nat := [0, 1, 2, 4, 8, 16, 32, 64]
     (outside → lineOf f = none) ∧
     (¬outside → ∃ e : LineEntry, lineOf f = some e ∧
       (match f.fn with
         | .generalIn => e.fn = .generalIn
         | .encoderA n => ∃ r : RampId, r.val = n ∧ e.fn = .encoderA r
         | .encoderB n => ∃ r : RampId, r.val = n ∧ e.fn = .encoderB r
         | .stopLoop => e.fn = .stopLoop
         | .alarmButton => e.fn = .alarmButton
         | .rampEnable n => ∃ r : RampId, r.val = n ∧ e.fn = .rampEnable r
         | .doorHold n => ∃ z : ZoneId, z.val = n ∧ e.fn = .doorHold z
         | .unassigned => e.fn = .unassigned
         | .outside => False) ∧
       e.enable = f.enable ∧ e.activeHigh = f.activeHigh ∧ (e.code.map fun c => c.val) = f.code ∧
       e.checkTime ∈ times ∧ (64 < f.checkTime → e.checkTime = 64) ∧
       (f.checkTime ≤ 64 → f.checkTime ≤ e.checkTime ∧ ∀ x ∈ times, f.checkTime ≤ x → e.checkTime ≤ x))) ∧
  (∀ (s : State) (h : Header) (n : Nat) (f : LineFields), s.resetHeld = false → 3 ≤ h.authority →
     16 ≤ n ∨ lineOf f = none →
     exec (.lineWrite h n f) s = .next (answer h .lineWrite (.refused .range none) s))

/-- TIMER_WRITE replaces the record of a STOPPED channel; TIMER_START loads and runs it; TIMER_STOP stops it and keeps
the count. The reload is clamped to 1..65535 and a point to 15; a mode or tick outside its list, a code above 63, a
line above 15, an address outside 1..254, and COUNT or WIDTH without a source are refused RANGE (log entry 17). A
RUNNING channel refuses a write BUSY; START is refused STATE in CONFIG, else the count is the reload, a WIDTH channel
TIMING when its source is active and WAITING when not, the next tick at the next multiple of the tick length since
power-on; STOP is taken in every device state; both answer the count after the request; a channel above 7 is refused
RANGE by all three; nothing else changes. (R63, R64, R67, log entry 17) -/
def Obligations.TimerRequests : Prop :=
  ((∀ (s : State) (h : Header) (f : TimerFields) (r : TimerRecord), s.resetHeld = false → 3 ≤ h.authority →
      timerOf f = some r →
      (∀ ch : ChannelId,
        exec (.timerWrite h ch.val f) s =
          if (s.timerDyn.get ch).running = true then .next (answer h .timerWrite (.refused .busy none) s)
          else .next (answer h .timerWrite (.done (.timerStored r))
            (settle { s with timers := Tab.put s.timers ch r }))) ∧
      (∀ n : Nat, 8 ≤ n → exec (.timerWrite h n f) s = .next (answer h .timerWrite (.refused .range none) s))) ∧
   (∀ (s : State) (h : Header) (ch : ChannelId), s.resetHeld = false → 2 ≤ h.authority →
      let r := s.timers.get ch
      let len : Nat := match r.tick with | .ms1 => 100 | .ms10 => 1000 | .ms100 => 10000 | .s1 => 100000
      let active : Bool :=
        match r.source with
        | none => false
        | some (.line n) => (s.lines.get n).fn.isInput && (s.lineDyn.get n).filtered
        | some (.station a p) => (s.stationDyn.get a).filtered.getLsbD p.val
      let phase : Option WidthPhase :=
        if r.mode = .width then some (if active then .timing else .waiting) else none
      (s.device = .config →
        exec (.timerStart h ch.val) s = .next (answer h .timerStart (.refused .state none) s)) ∧
      (s.device ≠ .config →
        exec (.timerStart h ch.val) s = .next (answer h .timerStart (.done (.timerCount r.reload)) (settle
          { s with timerDyn := Tab.put s.timerDyn ch ⟨true, r.reload, phase, (s.now / len + 1) * len⟩ }))) ∧
      exec (.timerStop h ch.val) s = .next (answer h .timerStop (.done (.timerCount (s.timerDyn.get ch).count)) (settle
        { s with timerDyn := Tab.put s.timerDyn ch { s.timerDyn.get ch with running := false, phase := none } })) ∧
      (∀ n : Nat, 8 ≤ n → exec (.timerStop h n) s = .next (answer h .timerStop (.refused .range none) s)))) ∧
  (∀ f : TimerFields,
     let outside : Prop := f.mode = none ∨ f.tick = none ∨ (∃ c : Nat, 64 ≤ c ∧ f.code = some c) ∨
       (∃ n : Nat, 16 ≤ n ∧ f.source = .line n) ∨ (∃ a p : Nat, (a = 0 ∨ 255 ≤ a) ∧ f.source = .station a p) ∨
       ((f.mode = some .count ∨ f.mode = some .width) ∧ f.source = .absent)
     (outside → timerOf f = none) ∧
     (¬outside → ∃ r : TimerRecord, timerOf f = some r ∧
       some r.mode = f.mode ∧ some r.tick = f.tick ∧ r.reload = min 65535 (max 1 f.reload) ∧
       (r.code.map fun c => c.val) = f.code ∧
       match f.source with
       | .absent => r.source = none
       | .line n => ∃ i : LineId, i.val = n ∧ r.source = some (.line i)
       | .station b p =>
         ∃ (a : Addr) (q : Fin 16), a.val + 1 = b ∧ q.val = min 15 p ∧ r.source = some (.station a q))) ∧
  (∀ (s : State) (h : Header) (n : Nat), s.resetHeld = false →
     (∀ f : TimerFields, 3 ≤ h.authority → timerOf f = none →
       exec (.timerWrite h n f) s = .next (answer h .timerWrite (.refused .range none) s)) ∧
     (2 ≤ h.authority → 8 ≤ n →
       exec (.timerStart h n) s = .next (answer h .timerStart (.refused .range none) s)))

/-- TIMER_TICK and the changes of its source count a channel down, and its code is raised at 0. A tick counts an
INTERVAL, ONE_SHOT or TIMING channel down; at 0 an INTERVAL channel reloads, a ONE_SHOT one is STOPPED with count 0, a
TIMING one TRIPPED with count 0, and the code is raised with the channel number; a COUNT or WIDTH channel's raise
carries its source station with the zone, an INTERVAL or ONE_SHOT channel uses no source, whatever its record holds. A
source activation counts a COUNT channel down, which reloads at 0, and makes a WAITING one TIMING from the reload; a
source that ends makes a WIDTH channel WAITING. A STOPPED channel does not change. A change of a point or a line
reaches the channel that uses it. Several channels of one source are told in order of channel (log entry 25). (R19,
R63, R64, R65, R66, R67, log entry 25) -/
def Obligations.TimerModes : Prop :=
  ((∀ (s : State) (ch : ChannelId), s.resetHeld = false →
      let r := s.timers.get ch
      let d := s.timerDyn.get ch
      let len : Nat := match r.tick with | .ms1 => 100 | .ms10 => 1000 | .ms100 => 10000 | .s1 => 100000
      let d' : TimerDyn := { d with nextTick := (s.now / len + 1) * len }
      let becomes (x : TimerDyn) : State := { s with timerDyn := Tab.put s.timerDyn ch x }
      let timed (t : State) : State := raiseInternal r.code none none (BitVec.ofNat 16 ch.val) t
      let raised (t : State) : State :=
        match r.source with
        | some (.station a _) => raiseInternal r.code (some a) (s.stations.get a).zone (BitVec.ofNat 16 ch.val) t
        | _ => raiseInternal r.code none none (BitVec.ofNat 16 ch.val) t
      let result (t : State) : Prop := exec (.timerTick ch) s = .next (settle t)
      (d.running = false → result s) ∧
      (d.running = true → r.mode = .interval ∨ r.mode = .oneShot → 2 ≤ d.count →
        result (becomes { d' with count := d.count - 1 })) ∧
      (d.running = true → r.mode = .interval → d.count = 1 → result (timed (becomes { d' with count := r.reload }))) ∧
      (d.running = true → r.mode = .oneShot → d.count = 1 →
        result (timed (becomes { d' with running := false, phase := none, count := 0 }))) ∧
      (d.running = true → r.mode = .width → d.phase = some .timing → 2 ≤ d.count →
        result (becomes { d' with count := d.count - 1 })) ∧
      (d.running = true → r.mode = .width → d.phase = some .timing → d.count = 1 →
        result (raised (becomes { d' with count := 0, phase := some .tripped }))) ∧
      (d.running = true → r.mode = .count ∨ (r.mode = .width ∧ d.phase ≠ some .timing) → result (becomes d'))) ∧
   (∀ (s : State) (ch : ChannelId),
      let r := s.timers.get ch
      let d := s.timerDyn.get ch
      let becomes (x : TimerDyn) : State := { s with timerDyn := Tab.put s.timerDyn ch x }
      let raised (t : State) : State :=
        match r.source with
        | some (.station a _) => raiseInternal r.code (some a) (s.stations.get a).zone (BitVec.ofNat 16 ch.val) t
        | _ => raiseInternal r.code none none (BitVec.ofNat 16 ch.val) t
      (d.running = true → r.mode = .count →
        channelSource ch false s = s ∧
        (2 ≤ d.count → channelSource ch true s = becomes { d with count := d.count - 1 }) ∧
        (d.count = 1 → channelSource ch true s = raised (becomes { d with count := r.reload }))) ∧
      (d.running = true → r.mode = .width →
        channelSource ch false s = becomes { d with phase := some .waiting } ∧
        (d.phase = some .waiting →
          channelSource ch true s = becomes { d with count := r.reload, phase := some .timing }) ∧
        (d.phase ≠ some .waiting → channelSource ch true s = s)) ∧
      (∀ active : Bool, d.running = false ∨ r.mode = .interval ∨ r.mode = .oneShot → channelSource ch active s = s))) ∧
  ((∀ (s : State) (src : TimerSource) (active : Bool),
     let uses (ch : ChannelId) : Prop := (s.timers.get ch).source = some src ∧
       ((s.timers.get ch).mode = .count ∨ (s.timers.get ch).mode = .width)
     (let told (ch : ChannelId) : Bool := decide ((s.timers.get ch).source = some src) &&
        (decide ((s.timers.get ch).mode = .count) || decide ((s.timers.get ch).mode = .width))
      sourceChanged src active s =
        ((List.finRange 8).filter told).foldl (fun v ch => channelSource ch active v) s) ∧
     ((∀ ch : ChannelId, ¬uses ch) → sourceChanged src active s = s) ∧
     (∀ ch : ChannelId, (∀ x : ChannelId, uses x ↔ x = ch) →
       sourceChanged src active s = channelSource ch active s)) ∧
   (∀ (s : State) (a : Addr) (old new : Word16),
     (old = new → timerReports a old new s = s) ∧
     (∀ p : Fin 16, (∀ q : Fin 16, old.getLsbD q.val ≠ new.getLsbD q.val ↔ q = p) →
       timerReports a old new s = sourceChanged (.station a p) (new.getLsbD p.val) s)))

/-- An activation sets its latch, is masked, or is a vector fault; a condition report is recorded; a code is pending
under four conditions. An activation changes nothing in CONFIG; of code 0, 1, 2 or an absent code it sets the latch of
code 1 with the code as detail; of level 0 it is masked; else the attributes are taken and the latch is set for sense
EDGE or a block that reports no condition. A condition report is recorded in every device state; one that makes its
condition hold gives the attributes; when a condition begins in RUN or AUTONOMOUS an absent entry latches code 1 and a
present DISPATCH LEVEL entry of level above 0 its own code. A code is pending exactly in service, with a present entry
of level above 0, a set latch or a holding LEVEL condition, and no record outstanding. A raise of origin INTERNAL by a
block without conditions is such an activation when the code is present, and nothing when it is absent. (R72, R73,
R74, R75) -/
def Obligations.RaisingAndPending : Prop :=
  ((∀ (s : State) (c : Code) (a : Attributes) (withCondition : Bool),
      let v := s.vectors.get c
      let k := s.codes.get c
      let result := raiseCode ⟨c, a, withCondition⟩ s
      let latched (d : Code) (b : Attributes) (k' : CodeState) : Prop :=
        k'.latch = true ∧ k'.attrs = b ∧ k'.mapCond = (s.codes.get d).mapCond ∧ k'.lineCond = (s.codes.get d).lineCond
      (s.device = .config → result = s) ∧
      (s.device ≠ .config → c.val ≤ 2 ∨ v.present = false →
        ∃ k' : CodeState, latched 1 { a with detail := BitVec.ofNat 16 c.val } k' ∧
          result = { s with codes := Tab.put s.codes 1 k' }) ∧
      (s.device ≠ .config → 3 ≤ c.val → v.present = true → v.level = 0 → result = s) ∧
      (s.device ≠ .config → 3 ≤ c.val → v.present = true → v.level ≠ 0 → v.sense = .edge ∨ withCondition = false →
        ∃ k' : CodeState, latched c a k' ∧ result = { s with codes := Tab.put s.codes c k' }) ∧
      (s.device ≠ .config → 3 ≤ c.val → v.present = true → v.level ≠ 0 → v.sense = .level → withCondition = true →
        result = { s with codes := Tab.put s.codes c { k with attrs := a } })) ∧
   (∀ (s : State) (src : CondSource) (c : Code) (holds : Bool) (a : Attributes),
      let k := s.codes.get c
      let v := s.vectors.get c
      let t := reportCondition src c holds a s
      let k' := t.codes.get c
      let begins : Prop := holds = true ∧ k.mapCond = false ∧ k.lineCond = false
      (∀ d : Code, d ≠ c → d ≠ 1 → t.codes.get d = s.codes.get d) ∧ t = { s with codes := t.codes } ∧
      (match src with
        | .map => k'.mapCond = holds ∧ k'.lineCond = k.lineCond
        | .line => k'.lineCond = holds ∧ k'.mapCond = k.mapCond) ∧
      (c.val ≤ 2 → k'.latch = k.latch ∧ k'.attrs = k.attrs ∧ (c ≠ 1 → t.codes.get 1 = s.codes.get 1)) ∧
      (3 ≤ c.val → holds = true → k.condOf src = false → k'.attrs = a) ∧
      (3 ≤ c.val → ¬begins ∨ s.device = .config → k'.latch = k.latch ∧ t.codes.get 1 = s.codes.get 1) ∧
      (3 ≤ c.val → begins → s.device ≠ .config → v.present = false →
        k'.latch = k.latch ∧ (t.codes.get 1).latch = true ∧
          (t.codes.get 1).attrs = { a with detail := BitVec.ofNat 16 c.val }) ∧
      (3 ≤ c.val → begins → s.device ≠ .config → v.present = true →
        (k'.latch = true ↔ k.latch = true ∨ (v.level ≠ 0 ∧ v.gate = .dispatch ∧ v.sense = .level)) ∧
          t.codes.get 1 = s.codes.get 1)) ∧
   (∀ (s : State) (c : Code),
      let v := s.vectors.get c
      let k := s.codes.get c
      let held : Prop :=
        if c.val = 2 then s.alerts.escalation ≠ none
        else (∃ r ∈ s.alerts.stack, r.code = c) ∨ ∃ r ∈ s.alerts.pass, r.code = c
      isPending s c = true ↔
        s.device ≠ .config ∧ (c.val = 1 ∨ c.val = 2 ∨ (3 ≤ c.val ∧ v.present = true ∧ 0 < v.level)) ∧
          (k.latch = true ∨ ((v.gate = .hold ∨ v.gate = .pass) ∧ v.sense = .level ∧
            (k.mapCond = true ∨ k.lineCond = true))) ∧ ¬held)) ∧
  ((∀ (s : State) (a : Option Addr) (z : Option ZoneId) (detail : Word16),
     raiseInternal none a z detail s = s ∧
     ∀ c : Code, raiseInternal (some c) a z detail s = raiseCode ⟨c, ⟨.internal, a, z, detail⟩, false⟩ s) ∧
   (∀ (s : State) (c : Code) (a : Attributes),
     let k := s.codes.get c
     let latched : CodeState :=
       { k with latch := true, attrs := a, answer := if k.latch = true then k.answer else none }
     setLatch c a s = { s with codes := Tab.put s.codes c latched }))

/-- The next acceptance is the general-alarm slot's, then the escalation slot's, then that of the best candidate.
Nothing is accepted outside RUN, with the Bridge Port DOWN, or with 32 frames waiting. An owed general alarm fills its
empty slot; else pending code 2 its empty slot; else, among the pending HOLD and PASS codes, the one of highest level
and lowest code is accepted when its level is above AL and its store has a place, and no lower code is accepted past
it. The ALERT carries the level, gate and attributes; the latch is cleared; a HOLD record tops the stack and AL takes
its level, a PASS record ends the list. That the latch is cleared before the ALERT is counted as sent is the model's
choice (log entry 41). The judgement that ends a command makes every acceptance: with a next one, it leaves what the
judgement of the state after that acceptance leaves, and that state itself when nothing more is to be accepted or
offered. (R77, R78, R84, R88, log entry 41) -/
def Obligations.AcceptanceOrder : Prop :=
  (∀ s : State,
     let open_ : Prop := s.device = .run ∧ (s.port .bridge).up = true ∧ (s.port .bridge).tx.length < 32
     let record (c : Code) (level : Nat) (gate : Gate) (a : Attributes) : AlertRecord :=
       ⟨c, level, gate, a, .running (s.now + 100000 * s.record.ackLimit), false⟩
     let sent (c : Code) (level : Nat) (gate : Gate) (a : Attributes) (t : State) : State :=
       bump .global 3 1 (sendTx .bridge .urgent (alertFrame c level gate a) t)
     let unlatched (c : Code) : State :=
       { s with codes := Tab.put s.codes c { s.codes.get c with latch := false, answer := none } }
     let owed : Prop := s.alerts.gaSlot = none ∧ s.ga.remembered ≠ none
     let unanswered : Prop := s.alerts.escalation = none ∧ isPending s 2 = true
     let eligible (c : Code) : Prop := isPending s c = true ∧ (s.vectors.get c).gate ≠ .dispatch ∧ c ≠ 2
     let level (c : Code) : Nat := (s.vectors.get c).level
     let best (c : Code) : Prop := eligible c ∧
       ∀ d : Code, eligible d → level d < level c ∨ (level d = level c ∧ c.val ≤ d.val)
     (¬open_ → nextAcceptance s = none) ∧
     (∀ (o : Origin) (detail : Word16), open_ → s.alerts.gaSlot = none → s.ga.remembered = some (o, detail) →
       let a : Attributes := ⟨o, none, none, detail⟩
       let t := sent 0 16 .hold a { s with ga := { s.ga with remembered := none } }
       nextAcceptance s = some { t with alerts := { s.alerts with gaSlot := some (record 0 16 .hold a) } }) ∧
     (open_ → ¬owed → unanswered →
       let a := (s.codes.get 2).attrs
       nextAcceptance s = some { sent 2 15 .hold a (unlatched 2) with
         alerts := { s.alerts with escalation := some (record 2 15 .hold a) } }) ∧
     (open_ → ¬owed → ¬unanswered → (∀ c : Code, ¬eligible c) → nextAcceptance s = none) ∧
     (∀ c : Code, open_ → ¬owed → ¬unanswered → best c →
       let a := (s.codes.get c).attrs
       let gate := (s.vectors.get c).gate
       let t := sent c (level c) gate a (unlatched c)
       let r := record c (level c) gate a
       (level c ≤ s.alerts.al ∨ (gate = .hold ∧ 4 ≤ s.alerts.stack.length) ∨
         (gate = .pass ∧ 8 ≤ s.alerts.pass.length) → nextAcceptance s = none) ∧
       (s.alerts.al < level c → gate = .hold → s.alerts.stack.length < 4 →
         nextAcceptance s = some { t with
           alerts := { s.alerts with stack := s.alerts.stack ++ [r], al := level c } }) ∧
       (s.alerts.al < level c → gate = .pass → s.alerts.pass.length < 8 →
         nextAcceptance s = some { t with alerts := { s.alerts with pass := s.alerts.pass ++ [r] } }))) ∧
  (∀ s t : State, nextAcceptance s = some t →
     settle s = settle t ∧ (nextAcceptance t = none → nextOffer t = none → settle s = t))

/-- A judgement changes no table, input or device state; outside RUN it accepts no alert, and in CONFIG it changes
nothing. The judgement that ends a command leaves every table, station, direct line, timer, mirror line, receive
queue, line state, quality monitor and the device state as they were; when nothing can be accepted or offered it
changes nothing; outside RUN the Alert Stack, the Pass List, AL, both slots, GA state and remembered stay. (R78, R79,
R92) -/
def Obligations.JudgementFrame : Prop :=
  (∀ s : State, (settle s).kept = s.kept ∧ (s.device = .config → settle s = s) ∧
     (nextAcceptance s = none → nextOffer s = none → settle s = s)) ∧
  (∀ s : State, s.device ≠ .run → (settle s).alerts = s.alerts ∧ (settle s).ga = s.ga)

/-- A pending DISPATCH code is offered to its target, whose answer clears or keeps the latch, is counted and is told.
The code offered next is the pending DISPATCH code of highest level and lowest code that has not been answered busy
since the last supervision expiry; with none there is no offer. A zone takes a close as ZONE CLOSE does, or refuses it
where that has no effect; takes an open as ZONE OPEN does, refuses it under fire or in OPENING, and is busy in a fire
close; a ramp takes a hold with cause 8, all ramps in index order (log entry 25); a call is taken, busy on a full
queue, refused for a message not in use. Taken clears the latch; busy keeps it; refused clears it and counts one
refused dispatch. With notify, the Bridge Port UP and fewer than 32 frames waiting, taken and refused are told by an
ALERT of gate DISPATCH, with detail FFFF hex for refused, counted as sent. That the latch is cleared after the answer,
and the rounds of a judgement, are the model's (log entries 5 and 6). So is that a refused dispatch is counted before
its notice (log entry 35). That the latch is cleared before the refused dispatch or the notice is counted is the
model's choice too (log entry 41). (R79, R80, R111, R119, R127, R141, R161, log entry 5, log entry 6, log entry 25,
log entry 35, log entry 41) -/
def Obligations.OfferAnswers : Prop :=
  ((∀ (s : State) (c : Code),
     let k := s.codes.get c
     let v := s.vectors.get c
     let tell : Prop := v.notify = true ∧ (s.port .bridge).up = true ∧ (s.port .bridge).tx.length < 32
     let sent (a : Attributes) (t : State) : State :=
       bump .global 3 1 (sendTx .bridge .urgent (alertFrame c v.level .dispatch a) t)
     let marked (latch : Bool) (ans : Answer) : State :=
       { s with codes := Tab.put s.codes c { k with latch := latch, answer := some ans } }
     actOnAnswer c .busy s = marked k.latch .busy ∧
     (tell → actOnAnswer c .taken s = sent k.attrs (marked false .taken)) ∧
     (¬tell → actOnAnswer c .taken s = marked false .taken) ∧
     (¬tell → actOnAnswer c .refused s = bump .global 6 1 (marked false .refused)) ∧
     (tell →
       let u := bump .global 6 1 (marked false .refused)
       actOnAnswer c .refused s = sent { (u.codes.get c).attrs with detail := 0xFFFF#16 } u)) ∧
   (∀ s : State,
     let offered (d : Code) : Prop := isPending s d = true ∧ (s.vectors.get d).gate = .dispatch ∧
       (s.codes.get d).answer ≠ some .busy
     let level (d : Code) : Nat := (s.vectors.get d).level
     (nextOffer s = none ↔ ∀ d : Code, ¬offered d) ∧
     ∀ c : Code, nextOffer s = some c ↔
       offered c ∧ ∀ d : Code, offered d → level d < level c ∨ (level d = level c ∧ c.val ≤ d.val)) ∧
   (∀ (s : State) (c : Code), nextAcceptance s = none → nextOffer s = some c →
     let q := offerTo c (s.vectors.get c).target s
     let t := actOnAnswer c q.1 q.2
     nextAcceptance t = none → nextOffer t = none → settle s = t)) ∧
  ((∀ (s : State) (c : Code) (z : ZoneId) (cause : CloseCause),
     let d := s.zoneDyn.get z
     let target : Target := match cause with
       | .routine => .zoneCloseRoutine z
       | .fire => .zoneCloseFire z
     let running : Prop := d.state = .calling ∨ d.state = .countdown ∨ d.state = .closing
     let idle : Prop := running ∧ (cause = .routine ∨ d.cause ≠ .routine)
     (idle → offerTo c target s = (.refused, s)) ∧
     (¬idle → ∃ t : State, offerTo c target s = (.taken, t) ∧
       ∀ h : Header, s.resetHeld = false → s.device ≠ .config → 2 ≤ h.authority →
         exec (.zoneClose h z.val cause) s = .next (answer h .zoneClose
           (.done (.zone (t.zoneDyn.get z).state (t.zoneDyn.get z).cause false)) (settle t)))) ∧
   (∀ (s : State) (c : Code) (z : ZoneId),
     let d := s.zoneDyn.get z
     let running : Prop := d.state = .calling ∨ d.state = .countdown ∨ d.state = .closing
     (d.fire = true ∨ d.state = .opening → offerTo c (.zoneOpen z) s = (.refused, s)) ∧
     (d.fire = false → running → d.cause ≠ .routine → offerTo c (.zoneOpen z) s = (.busy, s)) ∧
     (d.fire = false → d.state ≠ .opening → (running → d.cause = .routine) →
       ∃ t : State, offerTo c (.zoneOpen z) s = (.taken, t) ∧
         ∀ h : Header, s.resetHeld = false → s.device ≠ .config → 2 ≤ h.authority →
           exec (.zoneOpen h z.val) s = .next (answer h .zoneOpen
             (.done (.zone (t.zoneDyn.get z).state (t.zoneDyn.get z).cause false)) (settle t)))) ∧
   (∀ (s : State) (c : Code),
     (∀ r : RampId, offerTo c (.rampHold (some r)) s = (.taken, holdRamp r 8 s)) ∧
     offerTo c (.rampHold none) s = (.taken, holdRamp 3 8 (holdRamp 2 8 (holdRamp 1 8 (holdRamp 0 8 s))))) ∧
   (∀ (s : State) (c : Code) (m : MsgId) (zones : List ZoneId) (p n : Nat),
     let q := requestCall ⟨.event c, m, zones, p, n⟩ s
     let answered := offerTo c (.call m zones p n) s
     (q.1 = .notInUse → answered = (.refused, s)) ∧
     (q.1 = .full → answered = (.busy, s)) ∧
     (∀ k : Nat, q.1 = .queued k ∨ q.1 = .merged k ∨ (∃ old : CallRecord, q.1 = .evicted k old) →
       answered = (.taken, arbitrate q.2))))

/-- An ACK removes the record of its code or is stray; ACK_TIMER_EXPIRY marks a record overdue and sets the latch of
code 2. Code 0 empties the general-alarm slot, code 2 the escalation slot; any other code leaves the stack, with AL
the level of the new top, or the list; with no record one stray ack is counted; when no overdue record remains the
latch of code 2 is cleared. An expiry of a record of the stack, the list or the general-alarm slot counts one overdue
record, marks it, stops its timer and sets the latch of code 2 with origin INTERNAL, the record's station and zone and
its code as detail; a code with no running timer is not changed (log entry 4). That the record is counted before code
2 is latched is the model's choice (log entry 35). (R76, R81, R82, R83, log entry 4, log entry 35) -/
def Obligations.AcksAndOverdueRecords : Prop :=
  (∀ s : State,
     let x := s.alerts
     let late (y : Alerts) : Prop :=
       (∃ r ∈ y.stack, r.overdue = true) ∨ (∃ r ∈ y.pass, r.overdue = true) ∨ ∃ r, y.gaSlot = some r ∧ r.overdue = true
     let left (y : Alerts) (t : State) : Prop :=
       (late y → t = { s with alerts := y }) ∧
       (¬late y → t = { s with
         alerts := y, codes := Tab.put s.codes 2 { s.codes.get 2 with latch := false, answer := none } })
     (x.gaSlot ≠ none → left { x with gaSlot := none } (ackCode 0 s)) ∧
     (x.gaSlot = none → ackCode 0 s = bump .global 5 1 s) ∧
     (x.escalation ≠ none → ackCode 2 s = { s with alerts := { x with escalation := none } }) ∧
     (x.escalation = none → ackCode 2 s = bump .global 5 1 s) ∧
     (∀ (c : Code) (pre post : List AlertRecord) (r : AlertRecord), c ≠ 0 → c ≠ 2 → x.stack = pre ++ r :: post →
       r.code = c → (∀ q ∈ pre ++ post, q.code ≠ c) →
       left { x with stack := pre ++ post, al := topLevel (pre ++ post) } (ackCode c s)) ∧
     (∀ (c : Code) (pre post : List AlertRecord) (r : AlertRecord), c ≠ 0 → c ≠ 2 → (∀ q ∈ x.stack, q.code ≠ c) →
       x.pass = pre ++ r :: post → r.code = c → (∀ q ∈ pre ++ post, q.code ≠ c) →
       left { x with pass := pre ++ post } (ackCode c s)) ∧
     (∀ c : Code, c ≠ 0 → c ≠ 2 → (∀ q ∈ x.stack ++ x.pass, q.code ≠ c) → ackCode c s = bump .global 5 1 s)) ∧
  ((∀ (s : State) (c : Code) (pre post : List AlertRecord) (r : AlertRecord) (due : Nat), s.resetHeld = false →
     c ≠ 0 → s.alerts.stack = pre ++ r :: post → r.code = c → r.ackTimer = .running due →
     (∀ q ∈ pre ++ post ++ s.alerts.pass, q.code ≠ c) → (∀ q, s.alerts.gaSlot = some q → q.code ≠ c) →
     let x := { s.alerts with stack := pre ++ { r with overdue := true, ackTimer := .stopped } :: post }
     exec (.ackTimerExpiry c) s = .next (settle (setLatch 2
       ⟨.internal, r.attrs.station, r.attrs.zone, BitVec.ofNat 16 c.val⟩ (bump .global 4 1 { s with alerts := x })))) ∧
   (∀ (s : State) (c : Code) (pre post : List AlertRecord) (r : AlertRecord) (due : Nat), s.resetHeld = false →
     c ≠ 0 → s.alerts.pass = pre ++ r :: post → r.code = c → r.ackTimer = .running due →
     (∀ q ∈ s.alerts.stack ++ (pre ++ post), q.code ≠ c) → (∀ q, s.alerts.gaSlot = some q → q.code ≠ c) →
     let x := { s.alerts with pass := pre ++ { r with overdue := true, ackTimer := .stopped } :: post }
     exec (.ackTimerExpiry c) s = .next (settle (setLatch 2
       ⟨.internal, r.attrs.station, r.attrs.zone, BitVec.ofNat 16 c.val⟩ (bump .global 4 1 { s with alerts := x })))) ∧
   (∀ (s : State) (r : AlertRecord) (due : Nat), s.resetHeld = false → s.alerts.gaSlot = some r → r.code = 0 →
     r.ackTimer = .running due → (∀ q ∈ s.alerts.stack ++ s.alerts.pass, q.code ≠ 0) →
     let x := { s.alerts with gaSlot := some { r with overdue := true, ackTimer := .stopped } }
     exec (.ackTimerExpiry 0) s = .next (settle (setLatch 2
       ⟨.internal, r.attrs.station, r.attrs.zone, 0⟩ (bump .global 4 1 { s with alerts := x })))) ∧
   (∀ (s : State) (c : Code), s.resetHeld = false →
     (∀ q ∈ s.alerts.stack ++ s.alerts.pass ++ s.alerts.gaSlot.toList, q.code ≠ c ∨ q.ackTimer = .stopped) →
     exec (.ackTimerExpiry c) s = .next (settle s)))

/-- ESCALATION_TIMER_EXPIRY in RUN takes the part to AUTONOMOUS. One overdue record is counted and the part enters
AUTONOMOUS: every record is discarded and AL is 0; the codes of discarded records of sense EDGE are latched again; a
general-alarm record becomes remembered; the latch of code 2 is clear; no ramp is in CLEARING, MOVING or HOMING. When
no ramp was in motion and the count makes no unmasked mark, the codes latched again hold the records' attributes,
those of sense LEVEL and every other code keep their state, and nothing else changes; the sense is the entry's as it
stands (log entry 22). With no escalation record, or outside RUN, nothing changes. That the records are discarded
before the ramps are held is the model's choice (log entry 36). The loss of the bridge enters AUTONOMOUS in the same
way. (R85, R90, R91, R152, log entry 22, log entry 36) -/
def Obligations.EscalationEntersAutonomous : Prop :=
  (((∀ (s : State) (r : AlertRecord) (due : Nat), s.resetHeld = false → s.device = .run →
      s.alerts.escalation = some r → r.ackTimer = .running due →
      ∃ t : State, exec .escalationTimerExpiry s = .next (settle t) ∧
        t.device = .autonomous ∧ t.alerts = ⟨[], [], 0, none, none⟩ ∧
        t.counters.global.get 4 = s.counters.global.get 4 + 1#32 ∧
        (t.codes.get 2).latch = false ∧
        (∀ q : AlertRecord, q ∈ s.alerts.stack ++ s.alerts.pass → (s.vectors.get q.code).sense = .edge →
          q.code ≠ 2 → (t.codes.get q.code).latch = true) ∧
        (∀ g : AlertRecord, s.alerts.gaSlot = some g → s.ga.active = true → s.ga.remembered = none →
          t.ga = ⟨true, some (g.attrs.origin, g.attrs.detail)⟩) ∧
        (∀ o : Origin × Word16, s.ga.remembered = some o → t.ga = s.ga) ∧
        ∀ x : RampId, (t.rampDyn.get x).state.isActive = false) ∧
    (∀ s : State, s.resetHeld = false → s.device ≠ .run ∨ s.alerts.escalation = none →
      exec .escalationTimerExpiry s = .next (settle s))) ∧
   (∀ (s : State) (r : AlertRecord) (due : Nat), s.resetHeld = false → s.device = .run →
      s.alerts.escalation = some r → r.ackTimer = .running due → AlertsOk s.alerts →
      (∀ q ∈ s.alerts.stack ++ s.alerts.pass, q.code ≠ 2) →
      (∀ x : RampId, (s.rampDyn.get x).state.isActive = false) → (bump .global 4 1 s).codes = s.codes →
      let gone := s.alerts.stack ++ s.alerts.pass
      ∃ t : State, exec .escalationTimerExpiry s = .next (settle t) ∧
        (∀ q ∈ gone, (s.vectors.get q.code).sense = .edge →
          (t.codes.get q.code).latch = true ∧ (t.codes.get q.code).attrs = q.attrs) ∧
        (∀ q ∈ gone, (s.vectors.get q.code).sense = .level → t.codes.get q.code = s.codes.get q.code) ∧
        (∀ c : Code, c ≠ 2 → (∀ q ∈ gone, q.code ≠ c) → t.codes.get c = s.codes.get c) ∧
        t = { bump .global 4 1 s with
          device := .autonomous, alerts := t.alerts, ga := t.ga, codes := t.codes })) ∧
  (∀ s : State, (s.device ≠ .run → enterAutonomous s = s) ∧
     (s.device = .run → AlertsOk s.alerts → (∀ q ∈ s.alerts.stack ++ s.alerts.pass, q.code ≠ 2) →
       let again (c : Code) (q : AlertRecord) : Bool :=
         decide (q.code = c) && decide ((s.vectors.get c).sense = .edge)
       enterAutonomous s = holdAll 3
         { s with
           device := .autonomous, alerts := ⟨[], [], 0, none, none⟩
           ga := match s.alerts.gaSlot, s.ga.remembered, s.ga.active with
             | some g, none, true => ⟨true, some (g.attrs.origin, g.attrs.detail)⟩
             | _, _, _ => s.ga
           codes := Tab.of fun c =>
             let k := s.codes.get c
             if c = 2 then { k with latch := false, answer := none }
             else match (s.alerts.stack ++ s.alerts.pass).find? (again c) with
               | none => k
               | some q =>
                 { k with latch := true, attrs := q.attrs, answer := if k.latch = true then k.answer else none } }))

/-- GENERAL_ALARM is taken by device state, GA state and remembered; GENERAL_ALARM_CLEAR makes the alarm INACTIVE and
keeps its slot. Both are refused STATE in CONFIG. INACTIVE becomes ACTIVE, remembered takes REQUEST and detail 0, the
GA call is requested and every ramp held with cause 1; ACTIVE with remembered no, remembered becomes yes; ACTIVE with
remembered yes, one lost raise is counted and the reply says lost. The clear makes an ACTIVE alarm INACTIVE with
remembered no, cancels its call, keeps the slot and starts no ramp; an INACTIVE alarm is not changed. The replies show
the three items after the judgement (log entry 5). That the call is requested before the ramps are held is the model's
choice (log entry 36). A raise by an ALARM_BUTTON line is judged in the same way, but in CONFIG it is counted lost.
(R87, R89, R138, R139, R152, log entry 5, log entry 36) -/
def Obligations.GeneralAlarmRequests : Prop :=
  ((∀ (s : State) (h : Header), s.resetHeld = false → 2 ≤ h.authority →
      let replied (lost : Bool) (t : State) : Host.Outcome State Fault Refusal :=
        let u := settle t
        .next (answer h .generalAlarm
          (.done (.alarm u.ga.active u.alerts.gaSlot.isSome u.ga.remembered.isSome lost)) u)
      let gaCall : CallRequest := ⟨.alarm, 0, List.finRange 8, 16, 0⟩
      (s.device = .config →
        exec (.generalAlarm h) s = .next (answer h .generalAlarm (.refused .state none) s)) ∧
      (s.device ≠ .config → s.ga.active = false →
        exec (.generalAlarm h) s =
          replied false (holdAll 1 (postCall gaCall { s with ga := ⟨true, some (.request, 0)⟩ }).2)) ∧
      (s.device ≠ .config → s.ga.active = true → s.ga.remembered = none →
        exec (.generalAlarm h) s = replied false { s with ga := ⟨true, some (.request, 0)⟩ }) ∧
      (s.device ≠ .config → s.ga.active = true → s.ga.remembered ≠ none →
        exec (.generalAlarm h) s = replied true (bump .global 7 1 s))) ∧
   (∀ (s : State) (h : Header), s.resetHeld = false → 3 ≤ h.authority →
      let replied (t : State) : Host.Outcome State Fault Refusal :=
        let u := settle t
        .next (answer h .generalAlarmClear
          (.done (.alarm u.ga.active u.alerts.gaSlot.isSome u.ga.remembered.isSome false)) u)
      (s.device = .config →
        exec (.generalAlarmClear h) s = .next (answer h .generalAlarmClear (.refused .state none) s)) ∧
      (s.device ≠ .config → s.ga.active = false → exec (.generalAlarmClear h) s = replied s) ∧
      (s.device ≠ .config → s.ga.active = true →
        ∃ t : State, exec (.generalAlarmClear h) s = replied t ∧
          t = (cancelCall .alarm 0 { s with ga := ⟨false, none⟩ }).2 ∧
          t.ga = ⟨false, none⟩ ∧ t.alerts = s.alerts ∧
          ∀ r : RampId, (s.rampDyn.get r).state.isActive = false → t.rampDyn.get r = s.rampDyn.get r))) ∧
  (∀ (s : State) (o : Origin) (detail : Word16),
     let raised : State := { s with ga := ⟨true, some (o, detail)⟩ }
     (s.device = .config → alarmRaise o detail s = (true, bump .global 7 1 s)) ∧
     (s.device ≠ .config → s.ga.active = false →
       alarmRaise o detail s = (false, holdAll 1 (postCall ⟨.alarm, 0, List.finRange 8, 16, 0⟩ raised).2)) ∧
     (s.device ≠ .config → s.ga.active = true → s.ga.remembered = none → alarmRaise o detail s = (false, raised)) ∧
     (s.device ≠ .config → s.ga.active = true → s.ga.remembered ≠ none →
       alarmRaise o detail s = (true, bump .global 7 1 s)))

/-- START, STOP, RESTART and RESUME move the device state and reset or start every block. START in CONFIG with the
Bridge Port UP runs the check: a failure is refused TABLE and changes nothing, a pass enters RUN. STOP in RUN or
AUTONOMOUS resets every block and enters CONFIG; RESTART, with the Bridge Port UP, does the same and, when the check
passes, enters RUN, else answers the failure and stays in CONFIG. Entry to RUN derives the doors and zones, sets and
raises the burning zones and moves no ramp; only RESTART re-energises door holds. RESUME with the Bridge Port UP takes
AUTONOMOUS back to RUN. Else they are refused STATE. After the flush STOP is queued to the amplifiers of the STARTING,
PLAYING and STOPPING lines, then SPEED 0 to the drives of the ramps in CLEARING, MOVING and HOMING (in this order by
log entry 25), and nothing else. At entry to RUN the fire code of a burning zone has origin FRAME and the detector of
lowest address (log entry 32), and that of a zone set before origin INTERNAL and detail 1, where no other zone on fire
names the code. That a RESTART whose check passes answers its device state is the model's choice (log entry 40). The
detector named is the one of lowest address with ALARM active, and there is none just when no detector of the zone has
it active. (R93, R178, R180, R181, R42, R97, R121, R123, R142, R164, log entry 25, log entry 40) -/
def Obligations.DeviceStates : Prop :=
  ((let reset (s u : State) : Prop :=
      u.kept = { s.kept with
        device := .config, stationDyn := u.stationDyn, mapCounts := u.mapCounts, mirror := u.mirror
        timerDyn := u.timerDyn, rx := ⟨[], [], []⟩ } ∧
      (∀ p : Port, (u.counters.at (portSet p)).get 12 = (s.counters.at (portSet p)).get 12 +
          BitVec.ofNat 32 ((s.port p).rx.length + (s.port p).tx.length) ∧
        ∀ f : TxFrame, (s.port p).sending = some f → (u.port p).sending = some f) ∧
      (u.port .bridge).tx = [] ∧
      (let empty (q : PortUnit) : PortUnit := { q with rx := [], tx := [] }
       let flushed : State := { s with ports := ⟨empty s.ports.deckA, empty s.ports.deckB, empty s.ports.bridge⟩ }
       let stops := ((List.finRange 8).filter fun z => decide ((s.zoneLines.get z).state = .starting) ||
           decide ((s.zoneLines.get z).state = .playing) || decide ((s.zoneLines.get z).state = .stopping)).foldl
         (fun v z => jobCommand? (s.zones.get z).amplifier [0x12#8] v) flushed
       let speeds := ((List.finRange 4).filter fun r => decide ((s.rampDyn.get r).state = .clearing) ||
           decide ((s.rampDyn.get r).state = .moving) || decide ((s.rampDyn.get r).state = .homing)).foldl
         (fun v r => jobCommand? (s.ramps.get r).drive [0x30#8, 0x00#8, 0x00#8] v) stops
       u.ports = speeds.ports ∧
         ∀ p : Port, (u.counters.at (portSet p)).get 11 = (speeds.counters.at (portSet p)).get 11) ∧
      (∀ a : Addr, u.owners.get a = .free ∧
        u.stationDyn.get a = { s.stationDyn.get a with
          filtered := (s.stationDyn.get a).raw, candidates := 0, countdown := (s.stations.get a).checkTime / 100
          silence := 0, status := .heard }) ∧
      (∀ i : Fin 64, u.mirror.get i = { s.mirror.get i with valid := false }) ∧
      (∀ n : LineId, u.outputs.get n = false) ∧
      (∀ ch : ChannelId, u.timerDyn.get ch =
        { s.timerDyn.get ch with running := false, phase := none }) ∧
      u.alerts = ⟨[], [], 0, none, none⟩ ∧ u.ga = ⟨false, none⟩ ∧
      (∀ c : Code, (u.codes.get c).latch = false ∧ ((u.codes.get c).mapCond = true ↔ 0 < u.mapCounts.get c) ∧
        ((u.codes.get c).lineCond = true ↔ 0 < s.lineCounts.get c)) ∧
      (∀ d : DoorId, u.doorDyn.get d = ⟨.unknown, .none, .stopped, .stopped, 0, false, .no, false⟩) ∧
      (∀ z : ZoneId, (u.zoneDyn.get z).state = (if members s z = [] then .opened else .partly) ∧
        (u.zoneDyn.get z).cause = .none ∧ (u.zoneDyn.get z).clear = false ∧ (u.zoneDyn.get z).remaining = 0 ∧
        (u.zoneDyn.get z).awaitingClear = false ∧ (u.zoneDyn.get z).callRef = none ∧
        (u.zoneDyn.get z).callWait = .stopped ∧ (u.zoneDyn.get z).fire = (s.zoneDyn.get z).fire ∧
        (u.zoneDyn.get z).override = (s.zoneDyn.get z).override) ∧
      u.calls = [] ∧
      (∀ z : ZoneId, u.zoneLines.get z = ⟨match (s.zones.get z).amplifier with
        | none => .fault
        | some a => if pointOn u a 1 = true then .fault else .free, none, .stopped, .stopped, .stopped⟩) ∧
      (∀ r : RampId,
        let d : RampDyn := { s.rampDyn.get r with overspeed := 0, direction := 0, stall := 0 }
        let still : RampDyn := { d with vset := 0, control := .stopped, clearance := .stopped, callRef := none }
        u.rampDyn.get r = match d.state with
          | .clearing | .moving => { still with state := .held }
          | .homing => { still with state := .unreferenced, referenced := false }
          | _ => d)
    let entered (restart : Bool) (u t : State) : Prop :=
      t.kept = { u.kept with device := .run } ∧ t.alerts = u.alerts ∧ t.ga = u.ga ∧ t.calls = u.calls ∧
      t.rampDyn = u.rampDyn ∧ t.zoneLines = u.zoneLines ∧ t.owners = u.owners ∧
      (∀ (d : DoorId) (a : Addr), (u.doors.get d).station = some a → (u.doorDyn.get d).command = .none →
        (t.doorDyn.get d).state = derivedDoor u a) ∧
      (∀ z : ZoneId, (t.zoneDyn.get z).state = restState t z ∧
        (t.zoneDyn.get z).fire = ((u.zoneDyn.get z).fire || (burningDetector u z).isSome) ∧
        (t.zoneDyn.get z).override = (u.zoneDyn.get z).override) ∧
      (∀ (z : ZoneId) (c : Code), (t.zoneDyn.get z).fire = true → (u.zones.get z).fireCode = some c → 3 ≤ c.val →
        (u.vectors.get c).present = true → 0 < (u.vectors.get c).level → (t.codes.get c).latch = true ∧
          ((∀ y : ZoneId, y ≠ z → (t.zoneDyn.get y).fire = true → (u.zones.get y).fireCode ≠ some c) →
            (t.codes.get c).attrs = if (u.zoneDyn.get z).fire = true then ⟨.internal, none, some z, 1⟩
              else ⟨.frame, burningDetector u z, some z, 0⟩)) ∧
      (restart = false → ∀ n : LineId, t.outputs.get n = true → u.outputs.get n = true) ∧
      (restart = true → ∀ (z : ZoneId) (n : LineId), (u.zones.get z).doorHold = some n →
        (u.lines.get n).fn = .doorHold z →
        (t.outputs.get n = true ↔ (t.zoneDyn.get z).fire = false ∧ (t.zoneDyn.get z).state ≠ .closed))
    (∀ (s : State) (h : Header), s.resetHeld = false → 3 ≤ h.authority →
      (s.device ≠ .config ∨ (s.port .bridge).up = false →
        exec (.start h) s = .next (answer h .start (.refused .state none) s)) ∧
      (∀ f : CheckFailure, s.device = .config → (s.port .bridge).up = true → checkTables s = some f →
        exec (.start h) s = .next (answer h .start (.refused .table (some f)) s)) ∧
      (s.device = .config → (s.port .bridge).up = true → checkTables s = none →
        (∀ r : RampId, (s.rampDyn.get r).state.isActive = false) →
        (∀ z : ZoneId, (s.zoneDyn.get z).state.isRest = true) →
        ∃ t : State, exec (.start h) s = .next (answer h .start (.done .none) (settle t)) ∧ entered false s t)) ∧
    (∀ (s : State) (h : Header), s.resetHeld = false → 3 ≤ h.authority →
      (s.device = .config → exec (.stop h) s = .next (answer h .stop (.refused .state none) s)) ∧
      (s.device ≠ .config →
        ∃ u : State, exec (.stop h) s = .next (answer h .stop (.done .none) (settle u)) ∧ reset s u)) ∧
    (∀ (s : State) (h : Header), s.resetHeld = false → 3 ≤ h.authority →
      (s.device = .config ∨ (s.port .bridge).up = false →
        exec (.restart h) s = .next (answer h .restart (.refused .state none) s)) ∧
      (∀ f : CheckFailure, s.device ≠ .config → (s.port .bridge).up = true → checkTables s = some f →
        ∃ u : State,
          exec (.restart h) s = .next (answer h .restart (.done (.restarted .config (some f))) (settle u)) ∧
          reset s u) ∧
      (s.device ≠ .config → (s.port .bridge).up = true → checkTables s = none →
        ∃ u t : State,
          exec (.restart h) s = .next (answer h .restart (.done (.restarted .run none)) (settle t)) ∧
          reset s u ∧ entered true u t))) ∧
   (∀ (s : State) (h : Header), s.resetHeld = false → 2 ≤ h.authority →
      (s.device = .autonomous → (s.port .bridge).up = true →
        exec (.resume h) s = .next (answer h .resume (.done .none) (settle { s with device := .run }))) ∧
      (s.device ≠ .autonomous ∨ (s.port .bridge).up = false →
        exec (.resume h) s = .next (answer h .resume (.refused .state none) s)))) ∧
  ((∀ (s : State) (z : ZoneId),
     let burns (a : Addr) : Prop := (s.stations.get a).role = .detector ∧ (s.stations.get a).zone = some z ∧
       (s.stationDyn.get a).filtered.getLsbD 0 = true
     (∀ a : Addr, burningDetector s z = some a ↔ burns a ∧ ∀ b : Addr, b < a → ¬burns b) ∧
     (burningDetector s z = none ↔ ∀ a : Addr, ¬burns a)) ∧
   (∀ (s : State) (a : Addr),
     let d := s.stationDyn.get a
     derivedDoor s a =
       if d.status = .silent then .unknown
       else if d.filtered.getLsbD 4 = true then .failed
       else if d.filtered.getLsbD 0 = true ∧ d.filtered.getLsbD 1 = false then .closed
       else if d.filtered.getLsbD 1 = true ∧ d.filtered.getLsbD 0 = false then .opened
       else .between))

/-- TEST_RAISE is tested in order and raises its code; WITHDRAW clears the latch of a code of sense EDGE. Authority
below 2 is refused AUTHORITY, then code 0, 1, 2 or above 63 RANGE, then CONFIG STATE, then a present entry of greater
authority AUTHORITY; an absent code latches code 1; level 0 is masked; else the latch is set with origin REQUEST,
detail 0. WITHDRAW changes nothing for sense LEVEL, is refused RANGE for code 0 and above 63, touches no record. That
the replies give the code's state after the judgement, the latch and whether the code is pending then, is the model's
choice (log entry 5). So is the state vectorFault in the reply for an absent code (log entry 37). (R73, R94, R95, log
entry 5, log entry 37) -/
def Obligations.TestRaiseAndWithdraw : Prop :=
  (∀ (s : State) (h : Header), s.resetHeld = false →
     let refused (n : Nat) (reason : Reason) : Prop :=
       exec (.testRaise h n) s = .next (answer h .testRaise (.refused reason none) s)
     let replied (n : Nat) (d : Data) (t : State) : Prop :=
       exec (.testRaise h n) s = .next (answer h .testRaise (.done d) (settle t))
     (∀ n : Nat, h.authority < 2 → refused n .authority) ∧
     (∀ n : Nat, 2 ≤ h.authority → n < 3 ∨ 64 ≤ n → refused n .range) ∧
     (∀ c : Code, 2 ≤ h.authority → 3 ≤ c.val → s.device = .config → refused c.val .state) ∧
     (∀ c : Code, 2 ≤ h.authority → 3 ≤ c.val → s.device ≠ .config →
       let v := s.vectors.get c
       (v.present = true → min 3 h.authority < v.authority → refused c.val .authority) ∧
       (v.present = false →
         replied c.val (.testRaise .vectorFault) (setLatch 1 ⟨.request, none, none, BitVec.ofNat 16 c.val⟩ s)) ∧
       (v.present = true → v.authority ≤ min 3 h.authority → v.level = 0 →
         replied c.val (.testRaise .masked) s) ∧
       (v.present = true → v.authority ≤ min 3 h.authority → v.level ≠ 0 →
         let t := setLatch c ⟨.request, none, none, 0⟩ s
         replied c.val (.testRaise (raiseState c (settle t))) t))) ∧
  (∀ (s : State) (h : Header), s.resetHeld = false → 2 ≤ h.authority →
     (∀ c : Code, c ≠ 0 →
       let k := s.codes.get c
       let t : State :=
         match (s.vectors.get c).sense with
         | .edge => { s with codes := Tab.put s.codes c { k with latch := false, answer := none } }
         | .level => s
       exec (.withdraw h c.val) s =
         .next (answer h .withdraw (.done (.withdraw k.latch (isPending (settle t) c))) (settle t))) ∧
     (∀ n : Nat, n = 0 ∨ 64 ≤ n → exec (.withdraw h n) s = .next (answer h .withdraw (.refused .range none) s)))

/-- VECTOR_WRITE replaces the entry of a code 3 to 63 and clears its latch when the entry is absent or masked. The
level is clamped to 0..15, the authority to 0..3, a target call's priority to 15 and its repeats to 8; a gate or sense
outside its list and a target naming a zone above 7, a ramp above 3, a message above 255 or no zone are refused RANGE
(log entry 17). Taken in every device state; codes 0, 1, 2 and above 63 are refused RANGE; a present entry of level
above 0 keeps the latch; the conditions, the attributes, every outstanding record and AL are kept. That the code is
offered afresh is the model's (log entry 6). (R69, R71, log entry 6, log entry 17) -/
def Obligations.VectorWriteKeepsConditions : Prop :=
  (∀ (s : State) (h : Header) (f : VectorFields) (v : VectorEntry), s.resetHeld = false → 3 ≤ h.authority →
     vectorOf f = some v →
     (∀ c : Code, 3 ≤ c.val →
       let k := s.codes.get c
       exec (.vectorWrite h c.val f) s = .next (answer h .vectorWrite (.done (.vectorStored v)) (settle
         { s with
           vectors := Tab.put s.vectors c v
           codes := Tab.put s.codes c
             { k with latch := k.latch && v.present && decide (v.level ≠ 0), answer := none } }))) ∧
     (∀ n : Nat, n < 3 ∨ 64 ≤ n →
       exec (.vectorWrite h n f) s = .next (answer h .vectorWrite (.refused .range none) s))) ∧
  (∀ f : VectorFields,
     let away : Prop := match f.target with
       | .zoneCloseRoutine z => 8 ≤ z
       | .zoneCloseFire z => 8 ≤ z
       | .zoneOpen z => 8 ≤ z
       | .rampHold r => ∃ i : Nat, r = some i ∧ 4 ≤ i
       | .call m zones _ _ => 256 ≤ m ∨ zones = [] ∨ ∃ z ∈ zones, 8 ≤ z
       | .outside => True
     let outside : Prop := f.gate = none ∨ f.sense = none ∨ away
     (outside → vectorOf f = none) ∧
     (¬outside → ∃ v : VectorEntry, vectorOf f = some v ∧
       v.present = f.present ∧ some v.gate = f.gate ∧ v.level = min 15 f.level ∧ some v.sense = f.sense ∧
       v.notify = f.notify ∧ v.authority = min 3 f.authority ∧
       match f.target with
       | .zoneCloseRoutine z => ∃ y : ZoneId, y.val = z ∧ v.target = .zoneCloseRoutine y
       | .zoneCloseFire z => ∃ y : ZoneId, y.val = z ∧ v.target = .zoneCloseFire y
       | .zoneOpen z => ∃ y : ZoneId, y.val = z ∧ v.target = .zoneOpen y
       | .rampHold r => ∃ x : Option RampId, (x.map fun i => i.val) = r ∧ v.target = .rampHold x
       | .call m zones p n => ∃ msg : MsgId, msg.val = m ∧
         v.target = .call msg ((List.finRange 8).filter fun z => zones.contains z.val) (min 15 p) (min 8 n)
       | .outside => False)) ∧
  (∀ (s : State) (h : Header) (n : Nat) (f : VectorFields), s.resetHeld = false → 3 ≤ h.authority →
     vectorOf f = none → exec (.vectorWrite h n f) s = .next (answer h .vectorWrite (.refused .range none) s))

/-- Every step keeps the Alert Stack, the Pass List and AL as R76 says. If the stack holds at most four HOLD records
of strictly rising level, the list at most eight PASS records, no two records share a code and AL is the level of the
top, or 0, then the same holds after every step. (R76, R75) -/
def Obligations.AlertStoresInvariant : Prop :=
  (∀ s t : State, AlertsOk s.alerts → step s = .next t → AlertsOk t.alerts) ∧
  ((topLevel [] = 0 ∧ ∀ (l : List AlertRecord) (r : AlertRecord), topLevel (l ++ [r]) = r.level))

/-- ZONE_CLOSE begins, upgrades or has no effect by the zone's state and cause, claiming the members' stations.
Refused STATE in CONFIG and RANGE for a zone above 7; DONE with no effect while a close of the same or of cause FIRE
runs; from a rest state the members are claimed (a refused claim marks the door skipped CLAIM), in OPENING the doors
under OPEN take their derived states, and the zone enters CALLING with its clear flag cleared and awaits its call, or,
the call refused, raises its partial code and enters COUNTDOWN. A FIRE close against a routine one cancels the awaited
call in CALLING and requests the fire call; in COUNTDOWN leaves the lesser of the remaining and the fire warning time,
closing at 0; in CLOSING clears the local skips and sends CLOSE to every member neither CLOSED nor under CLOSE whose
claim was not refused. That the reference is set before the one pass that follows, after an eviction too, is the
model's choice (log entry 13). That the reply shows what the request left, before the judgement, is the model's choice
(log entry 5). An upgrade in CLOSING offers CLOSE, a COMMAND with payload 10 hex, URGENT and steered, to every member
it commands, in order of door. (R32, R111, R112, R114, R118, log entry 13, log entry 5, R31) -/
def Obligations.ZoneClose : Prop :=
  ((∀ (s : State) (h : Header) (z : ZoneId) (cause : CloseCause), s.resetHeld = false → 2 ≤ h.authority →
      let d := s.zoneDyn.get z
      let cfg := s.zones.get z
      let c : Cause := match cause with | .routine => .routine | .fire => .fire
      let msg : MsgId := match cause with | .routine => cfg.warningMsg | .fire => cfg.fireMsg
      let priority : Nat := match cause with | .routine => cfg.routinePriority | .fire => cfg.firePriority
      let replied (noEffect : Bool) (t : State) : Prop :=
        exec (.zoneClose h z.val cause) s = .next (answer h .zoneClose
          (.done (.zone (t.zoneDyn.get z).state (t.zoneDyn.get z).cause noEffect)) (settle t))
      let running : Prop := d.state = .calling ∨ d.state = .countdown ∨ d.state = .closing
      let awaits (called : State) : Prop :=
        let q := requestCall ⟨.zone z, msg, [z], priority, 1⟩ called
        (∀ k : Nat, q.1.stamp? = some k →
          replied false (arbitrate { q.2 with
            zoneDyn := Tab.put q.2.zoneDyn z
              { q.2.zoneDyn.get z with
                callRef := some ⟨msg, k⟩, callWait := .running (q.2.now + 100000 * cfg.callWait) } })) ∧
        (q.1.stamp? = none →
          replied false (enterCountdown z (raiseInternal cfg.partialCode none (some z) 1 called)))
      (s.device = .config →
        exec (.zoneClose h z.val cause) s = .next (answer h .zoneClose (.refused .state none) s)) ∧
      (∀ n : Nat, 8 ≤ n →
        exec (.zoneClose h n cause) s = .next (answer h .zoneClose (.refused .range none) s)) ∧
      (s.device ≠ .config → running → cause = .routine ∨ d.cause ≠ .routine → replied true s) ∧
      (s.device ≠ .config → d.state = .opened ∨ d.state = .partly ∨ d.state = .closed →
        let called : State :=
          { claimMembers z s with
            zoneDyn := Tab.put s.zoneDyn z { d with state := .calling, cause := c, clear := false } }
        awaits called) ∧
      (s.device ≠ .config → d.state = .opening →
        awaits { cancelMotions z .open s with
          zoneDyn := Tab.put s.zoneDyn z { d with state := .calling, cause := c, clear := false } }) ∧
      (s.device ≠ .config → d.state = .calling → d.cause = .routine → cause = .fire →
        let upgraded : State :=
          { s with zoneDyn := Tab.put s.zoneDyn z { d with cause := .fire, callRef := none, callWait := .stopped } }
        (d.callRef = none → awaits upgraded) ∧
        (∀ ref : CallRef, d.callRef = some ref → awaits (cancelCall (.zone z) ref.message upgraded).2)) ∧
      (s.device ≠ .config → d.state = .countdown → d.cause = .routine → cause = .fire →
        0 < min d.remaining cfg.fireWarn →
        replied false { s with
          zoneDyn := Tab.put s.zoneDyn z
            { d with cause := .fire, remaining := min d.remaining cfg.fireWarn, awaitingClear := false } }) ∧
      (s.device ≠ .config → d.state = .countdown → d.cause = .routine → cause = .fire →
        min d.remaining cfg.fireWarn = 0 →
        replied false (enterClosing z { s with
          zoneDyn := Tab.put s.zoneDyn z { d with cause := .fire, remaining := 0, awaitingClear := false } })) ∧
      (s.device ≠ .config → d.state = .closing → d.cause = .routine → cause = .fire →
        let sends (e : DoorId) : Bool := decide ((s.doorDyn.get e).state ≠ .closed) &&
          decide ((s.doorDyn.get e).command = .none) && decide ((s.doorDyn.get e).skipped ≠ .claim)
        ∃ t : State, replied false t ∧ t.zoneDyn = Tab.put s.zoneDyn z { d with cause := .fire } ∧
          t = ((members s z).filter sends).foldl (fun u e => jobCommand? (s.doors.get e).station [0x10#8] u)
            { s with zoneDyn := t.zoneDyn, doorDyn := t.doorDyn } ∧
          (∀ e : DoorId, e ∉ members s z → t.doorDyn.get e = s.doorDyn.get e) ∧
          ∀ (e : DoorId) (a : Addr), e ∈ members s z → (s.doors.get e).station = some a →
            let x := s.doorDyn.get e
            let kept : Skipped := if x.skipped = .localControl then .no else x.skipped
            let sent : Prop := x.state ≠ .closed ∧ x.command = .none ∧ x.skipped ≠ .claim
            (¬sent → t.doorDyn.get e = { x with skipped := kept }) ∧
            (sent → t.doorDyn.get e =
              { x with
                skipped := kept, state := if (s.stationDyn.get a).status = .heard then .closing else .unknown
                command := .close, closeTimer := .running (s.now + 100000 * (s.doors.get e).closeLimit)
                held := false }))) ∧
   (∀ (s : State) (z : ZoneId),
      (∀ d e : DoorId, d ∈ members s z → e ∈ members s z → (s.doors.get d).station = (s.doors.get e).station → d = e) →
      let t := claimMembers z s
      (∀ (d : DoorId) (a : Addr), d ∈ members s z → (s.doors.get d).station = some a →
        let granted : Prop := s.owners.get a = .free ∨ s.owners.get a = .zone z
        (granted → t.owners.get a = .zone z) ∧ (¬granted → t.owners.get a = s.owners.get a) ∧
        (granted → t.doorDyn.get d = { s.doorDyn.get d with obstructions := 0, warned := false, skipped := .no }) ∧
        (¬granted →
          t.doorDyn.get d = { s.doorDyn.get d with obstructions := 0, warned := false, skipped := .claim })) ∧
      (∀ d : DoorId, d ∉ members s z → t.doorDyn.get d = s.doorDyn.get d) ∧
      (∀ a : Addr, (∀ d ∈ members s z, (s.doors.get d).station ≠ some a) → t.owners.get a = s.owners.get a) ∧
      t = { s with owners := t.owners, doorDyn := t.doorDyn })) ∧
  (∀ (s : State) (z : ZoneId) (command : DoorCommand), (s.zoneDyn.get z).state.isRest = false →
     let t := cancelMotions z command s
     t = { s with doorDyn := t.doorDyn } ∧
     (∀ e : DoorId, e ∉ members s z ∨ (s.doorDyn.get e).command ≠ command → t.doorDyn.get e = s.doorDyn.get e) ∧
     ∀ (e : DoorId) (a : Addr), e ∈ members s z → (s.doorDyn.get e).command = command →
       (s.doors.get e).station = some a →
       t.doorDyn.get e =
         { s.doorDyn.get e with
           state := derivedDoor s a, command := .none, closeTimer := .stopped, retryTimer := .stopped, held := false })

/-- COUNTDOWN_EXPIRY, CALL_WAIT_EXPIRY, CLOSE_NOW and ZONE_CLEAR lead a close to CLOSING, which commands the doors
R116 does not except. The countdown's end enters CLOSING for a FIRE close, or when no clear is needed or the flag is
set, else awaits clear; the call wait's end and the referenced call's notice enter COUNTDOWN with the cause's warning
time; CLOSE NOW enters CLOSING from COUNTDOWN only; ZONE CLEAR sets the flag and ends a wait for it. CLOSING
de-energises the door-hold output and sends CLOSE to every member but doors of refused claims, CLOSED doors and, in a
ROUTINE close, doors in local control. R115 names only the state for CLOSE NOW's reply: that it carries the cause too
is the model's choice (log entry 33), as is that it shows what the request left, before the judgement (log entry 5),
and that an expiry acts whenever its timer runs, whether or not its time has come (log entry 4). Each CLOSE is a
COMMAND with payload 10 hex, offered URGENT on the steered line in order of door; with every member excepted the close
ends at once: members released, none skipped, cause NONE, rest state. The call wait's end cancels the referenced call,
and it and a notice that is not complete raise the partial code with detail 1 (R105). A warning time of 0 ends the
countdown as it begins. (R101, R109, R110, R113, R114, R115, R116, log entry 33, log entry 4, log entry 5, R31, R117)
-/
def Obligations.ClosingOfZone : Prop :=
  (((∀ (s : State) (z : ZoneId) (d0 : DoorId),
       let cause := (s.zoneDyn.get z).cause
       let localOn (d : DoorId) : Prop := ∃ a : Addr, (s.doors.get d).station = some a ∧ pointOn s a 3 = true
       let excepted (d : DoorId) : Prop :=
         (s.doorDyn.get d).skipped = .claim ∨ (cause = .routine ∧ localOn d) ∨ (s.doorDyn.get d).state = .closed
       d0 ∈ members s z → ¬excepted d0 →
       let t := enterClosing z s
       t.zoneDyn.get z = { s.zoneDyn.get z with state := .closing, remaining := 0, awaitingClear := false } ∧
       (∀ n : LineId, (s.zones.get z).doorHold = some n → (s.lines.get n).fn = .doorHold z → t.outputs.get n = false) ∧
       (∀ (d : DoorId) (a : Addr), d ∈ members s z → (s.doors.get d).station = some a → ¬excepted d →
         t.doorDyn.get d =
           { s.doorDyn.get d with
             state := if (s.stationDyn.get a).status = .heard then .closing else .unknown
             command := .close, closeTimer := .running (s.now + 100000 * (s.doors.get d).closeLimit), held := false }) ∧
       (∀ d : DoorId, excepted d ∨ d ∉ members s z →
         t.doorDyn.get d =
           if d ∈ members s z ∧ (s.doorDyn.get d).skipped ≠ .claim ∧ cause = .routine ∧ localOn d then
             { s.doorDyn.get d with skipped := .localControl }
           else s.doorDyn.get d)) ∧
    ((∀ (s : State) (z : ZoneId), s.resetHeld = false →
       let d := s.zoneDyn.get z
       (d.state ≠ .countdown ∨ d.awaitingClear = true → exec (.countdownExpiry z) s = .next (settle s)) ∧
       (d.state = .countdown → d.awaitingClear = false →
         d.cause = .fire ∨ (s.zones.get z).clearRequired = false ∨ d.clear = true →
         exec (.countdownExpiry z) s = .next (settle (enterClosing z s))) ∧
       (d.state = .countdown → d.awaitingClear = false → d.cause ≠ .fire → (s.zones.get z).clearRequired = true →
         d.clear = false →
         exec (.countdownExpiry z) s = .next (settle
           { s with zoneDyn := Tab.put s.zoneDyn z { d with remaining := 0, awaitingClear := true } }))) ∧
     (∀ (s : State) (z : ZoneId), s.resetHeld = false →
       let d := s.zoneDyn.get z
       let warn : Nat := if d.cause = .fire then (s.zones.get z).fireWarn else (s.zones.get z).routineWarn
       let counting : ZoneDyn :=
         { d with
           state := .countdown, remaining := warn, secondDue := s.now + 100000, awaitingClear := false
           callRef := none, callWait := .stopped }
       (d.state ≠ .calling ∨ d.callWait = .stopped → exec (.callWaitExpiry z) s = .next (settle s)) ∧
       (∀ due : Nat, d.state = .calling → d.callWait = .running due → 0 < warn →
         ∃ t : State, exec (.callWaitExpiry z) s = .next (settle t) ∧ t.zoneDyn.get z = counting) ∧
       (∀ (ref : CallRef) (complete : Bool), d.state = .calling → d.callRef = some ref → 0 < warn →
         (zoneNotice z ref complete s).zoneDyn = Tab.put s.zoneDyn z counting ∧
         (complete = true → zoneNotice z ref complete s = { s with zoneDyn := Tab.put s.zoneDyn z counting })) ∧
       (∀ (ref : CallRef) (complete : Bool), d.state ≠ .calling ∨ d.callRef ≠ some ref →
         zoneNotice z ref complete s = s))) ∧
    (∀ (s : State) (h : Header) (z : ZoneId), s.resetHeld = false →
       let d := s.zoneDyn.get z
       (2 ≤ h.authority → s.device ≠ .config → d.state = .countdown →
         let t := enterClosing z s
         exec (.closeNow h z.val) s = .next (answer h .closeNow
           (.done (.zone (t.zoneDyn.get z).state (t.zoneDyn.get z).cause false)) (settle t))) ∧
       (2 ≤ h.authority → s.device = .config ∨ d.state ≠ .countdown →
         exec (.closeNow h z.val) s = .next (answer h .closeNow (.refused .state none) s)) ∧
       (1 ≤ h.authority →
         let set : State := { s with zoneDyn := Tab.put s.zoneDyn z { d with clear := true } }
         exec (.zoneClear h z.val) s = .next (answer h .zoneClear (.done .none) (settle
           (if d.clear = true then s
            else if d.state = .countdown ∧ d.awaitingClear = true then enterClosing z set
            else set)))) ∧
       (∀ n : Nat, 8 ≤ n → 2 ≤ h.authority →
         exec (.closeNow h n) s = .next (answer h .closeNow (.refused .range none) s) ∧
         exec (.zoneClear h n) s = .next (answer h .zoneClear (.refused .range none) s)))) ∧
   (∀ (s : State) (z : ZoneId),
      let localOn (e : DoorId) : Bool := match (s.doors.get e).station with
        | none => false
        | some a => decide ((s.zoneDyn.get z).cause = .routine) && pointOn s a 3
      let excepted (e : DoorId) : Bool := decide ((s.doorDyn.get e).skipped = .claim) || localOn e ||
        decide ((s.doorDyn.get e).state = .closed)
      let moving (e : DoorId) : DoorState := match (s.doors.get e).station with
        | none => .unknown
        | some a => if (s.stationDyn.get a).status = .heard then .closing else .unknown
      let entered : State :=
        { orderDoorHold z false s with
          zoneDyn := Tab.put s.zoneDyn z
            { s.zoneDyn.get z with state := .closing, remaining := 0, awaitingClear := false }
          doorDyn := Tab.of fun e =>
            let x := s.doorDyn.get e
            if e ∉ members s z ∨ x.skipped = .claim then x
            else if localOn e = true then { x with skipped := .localControl }
            else if x.state = .closed then x
            else
              { x with
                state := moving e, command := .close
                closeTimer := .running (s.now + 100000 * (s.doors.get e).closeLimit), held := false } }
      let t := enterClosing z s
      ((∃ e ∈ members s z, excepted e = false) →
        t = ((members s z).filter fun e => !excepted e).foldl
          (fun u e => jobCommand? (s.doors.get e).station [0x10#8] u) entered) ∧
      ((∀ e ∈ members s z, excepted e = true) → t = judgeCloseEnd z entered ∧
        ((∀ e ∈ members s z, (s.doorDyn.get e).command ≠ .close) →
          (t.zoneDyn.get z).state = restState entered z ∧ (t.zoneDyn.get z).cause = .none ∧
          (∀ e ∈ members s z, (t.doorDyn.get e).skipped = .no) ∧
          ∀ e ∈ members s z, ∀ a : Addr, (s.doors.get e).station = some a → t.owners.get a ≠ .zone z)))) ∧
  (∀ (s : State) (z : ZoneId),
     let d := s.zoneDyn.get z
     let cfg := s.zones.get z
     let warn : Nat := if d.cause = .fire then cfg.fireWarn else cfg.routineWarn
     let counting : ZoneDyn :=
       { d with
         state := .countdown, remaining := warn, secondDue := s.now + 100000, awaitingClear := false
         callRef := none, callWait := .stopped }
     let becomes (x : ZoneDyn) : State := { s with zoneDyn := Tab.put s.zoneDyn z x }
     let ready : Prop := d.cause = .fire ∨ cfg.clearRequired = false ∨ d.clear = true
     let given : State := becomes { d with callRef := none, callWait := .stopped }
     let cancelled : State := match d.callRef with
       | none => given
       | some ref => (cancelCall (.zone z) ref.message given).2
     let told (u : State) : State := raiseInternal cfg.partialCode none (some z) 1 u
     (0 < warn → enterCountdown z s = becomes counting) ∧
     (warn = 0 → ready → enterCountdown z s = enterClosing z (becomes counting)) ∧
     (warn = 0 → ¬ready → enterCountdown z s = becomes { counting with awaitingClear := true }) ∧
     (∀ due : Nat, s.resetHeld = false → d.state = .calling → d.callWait = .running due →
       exec (.callWaitExpiry z) s = .next (settle (enterCountdown z (told cancelled)))) ∧
     (∀ ref : CallRef, d.state = .calling → d.callRef = some ref →
       zoneNotice z ref true s = enterCountdown z given ∧
       zoneNotice z ref false s = enterCountdown z (told given)))

/-- ZONE_OPEN is refused under fire, has no effect in OPENING, and else opens the zone; the open ends when no door has
command OPEN. Refused RANGE for a zone above 7, and STATE in CONFIG, with the fire flag set and against a fire close;
DONE with no effect in OPENING; from a rest state the members are claimed and the zone enters OPENING: cause NONE,
clear flag cleared, the door-hold output ordered energised, and every member not OPEN whose claim was not refused gets
OPEN with its timer; with no such member the open ends at once. A taken open against a routine close leaves the zone
without call reference. The end releases the members, gives the zone its rest state with the clear flag cleared,
requests the open message's call and, unless every member is OPEN, raises the partial code with the first member not
OPEN and detail 3. That the reply carries the state and cause is the model's choice (log entry 33). So is that the
reply shows what the request left, before the judgement (log entry 5), and that the open message's call comes before
the partial code (log entry 36). Each OPEN is a COMMAND with payload 11 hex, offered URGENT on the steered line in
order of door. An open against a routine close first gives up and cancels the awaited call, ends the motion of every
door under CLOSE in its derived state, and clears the members' obstruction counts, warned items and local skips; the
claims are kept, and the open begins as from rest. (R101, R105, R110, R119, R120, log entry 33, log entry 5, log entry
36, R31) -/
def Obligations.ZoneOpenJudged : Prop :=
  ((∀ (s : State) (h : Header) (z : ZoneId), s.resetHeld = false → 2 ≤ h.authority →
      let d := s.zoneDyn.get z
      let refused : Prop := exec (.zoneOpen h z.val) s = .next (answer h .zoneOpen (.refused .state none) s)
      let replied (noEffect : Bool) (t : State) : Prop :=
        exec (.zoneOpen h z.val) s = .next (answer h .zoneOpen
          (.done (.zone (t.zoneDyn.get z).state (t.zoneDyn.get z).cause noEffect)) (settle t))
      let rest : Prop := d.state = .opened ∨ d.state = .partly ∨ d.state = .closed
      let running : Prop := d.state = .calling ∨ d.state = .countdown ∨ d.state = .closing
      (s.device = .config → refused) ∧
      (s.device ≠ .config → d.fire = true → refused) ∧
      (s.device ≠ .config → d.fire = false → running → d.cause ≠ .routine → refused) ∧
      (s.device ≠ .config → d.fire = false → d.state = .opening → replied true s) ∧
      (s.device ≠ .config → d.fire = false → running → d.cause = .routine →
        ∃ t : State, replied false t ∧ (t.zoneDyn.get z).callRef = none ∧ (t.zoneDyn.get z).cause = .none) ∧
      (s.device ≠ .config → d.fire = false → rest → ∃ t : State, replied false t ∧
        (let claimed := claimMembers z s
         let opens (e : DoorId) : Prop := e ∈ members s z ∧ (s.doorDyn.get e).state ≠ .opened ∧
           (claimed.doorDyn.get e).skipped ≠ .claim
         (∃ e : DoorId, opens e) →
          t.zoneDyn.get z = { d with state := .opening, cause := .none, clear := false } ∧
          (∀ n : LineId, (s.zones.get z).doorHold = some n → (s.lines.get n).fn = .doorHold z →
            t.outputs.get n = true) ∧
          (∀ (e : DoorId) (a : Addr), opens e → (s.doors.get e).station = some a →
            t.doorDyn.get e =
              { claimed.doorDyn.get e with
                state := if (s.stationDyn.get a).status = .heard then .opening else .unknown
                command := .open, closeTimer := .running (s.now + 100000 * (s.doors.get e).closeLimit)
                held := false }) ∧
          (∀ e : DoorId, ¬opens e → t.doorDyn.get e = claimed.doorDyn.get e))) ∧
      (s.device ≠ .config → d.fire = false → rest →
        (∀ e ∈ members s z, (s.doorDyn.get e).state = .opened ∨ ((claimMembers z s).doorDyn.get e).skipped = .claim) →
        replied false (judgeOpenEnd z (orderDoorHold z true
          { claimMembers z s with
            zoneDyn := Tab.put s.zoneDyn z { d with state := .opening, cause := .none, clear := false } })))) ∧
   (∀ (s : State) (h : Header) (n : Nat), s.resetHeld = false → 2 ≤ h.authority → 8 ≤ n →
      exec (.zoneOpen h n) s = .next (answer h .zoneOpen (.refused .range none) s)) ∧
   (∀ (s : State) (z : ZoneId),
      let d := s.zoneDyn.get z
      let cfg := s.zones.get z
      let finished : Prop := d.state = .opening ∧ ∀ e ∈ members s z, (s.doorDyn.get e).command ≠ .open
      let ended : State :=
        { releaseMembers z s with
          zoneDyn := Tab.put s.zoneDyn z { d with state := restState s z, cause := .none, clear := false } }
      let called := (postCall ⟨.zone z, cfg.openMsg, [z], cfg.routinePriority, 1⟩ ended).2
      (¬finished → judgeOpenEnd z s = s) ∧
      (finished → (∀ e ∈ members s z, (s.doorDyn.get e).state = .opened) → judgeOpenEnd z s = called) ∧
      (∀ (e : DoorId) (a : Addr), finished → e ∈ members s z → (s.doors.get e).station = some a →
        (s.doorDyn.get e).state ≠ .opened → (∀ x ∈ members s z, x < e → (s.doorDyn.get x).state = .opened) →
        judgeOpenEnd z s = raiseInternal cfg.partialCode (some a) (some z) 3 called)) ∧
   (∀ (s : State) (z : ZoneId),
      let t := releaseMembers z s
      let mine (a : Addr) : Prop := s.owners.get a = .zone z ∧ ∃ e ∈ members s z, (s.doors.get e).station = some a
      t = { s with owners := t.owners } ∧
        ∀ a : Addr, (mine a → t.owners.get a = .free) ∧ (¬mine a → t.owners.get a = s.owners.get a))) ∧
  (∀ (s : State) (h : Header) (z : ZoneId), s.resetHeld = false → 2 ≤ h.authority → s.device ≠ .config →
     let d := s.zoneDyn.get z
     let replied (t : State) : Prop :=
       exec (.zoneOpen h z.val) s = .next (answer h .zoneOpen
         (.done (.zone (t.zoneDyn.get z).state (t.zoneDyn.get z).cause false)) (settle t))
     let moving (e : DoorId) : DoorState := match (s.doors.get e).station with
       | none => .unknown
       | some a => if (s.stationDyn.get a).status = .heard then .opening else .unknown
     let begun (v : State) : State :=
       let opens (e : DoorId) : Bool := decide (e ∈ members s z) && decide ((v.doorDyn.get e).state ≠ .opened) &&
         decide ((v.doorDyn.get e).skipped ≠ .claim)
       judgeOpenEnd z (((members s z).filter opens).foldl
         (fun u e => jobCommand? (s.doors.get e).station [0x11#8] u)
         { orderDoorHold z true v with
           zoneDyn := Tab.put v.zoneDyn z { v.zoneDyn.get z with state := .opening, cause := .none, clear := false }
           doorDyn := Tab.of fun e =>
             if opens e = true then
               { v.doorDyn.get e with
                 state := moving e, command := .open
                 closeTimer := .running (s.now + 100000 * (s.doors.get e).closeLimit), held := false }
             else v.doorDyn.get e })
     d.fire = false →
       (d.state = .opened ∨ d.state = .partly ∨ d.state = .closed → replied (begun (claimMembers z s))) ∧
       (d.state = .calling ∨ d.state = .countdown ∨ d.state = .closing → d.cause = .routine →
         let given : State :=
           { s with zoneDyn := Tab.put s.zoneDyn z { d with callRef := none, callWait := .stopped } }
         let u : State := match d.callRef with
           | none => given
           | some ref => (cancelCall (.zone z) ref.message given).2
         let stopped := cancelMotions z .close
           { u with
             zoneDyn := Tab.put u.zoneDyn z { u.zoneDyn.get z with remaining := 0, awaitingClear := false } }
         u.zoneDyn.get z = { d with callRef := none, callWait := .stopped } ∧ stopped.owners = u.owners ∧
         (∀ e : DoorId, u.doorDyn.get e = s.doorDyn.get e ∨ e ∉ members s z) ∧
         replied (begun
           { stopped with
             doorDyn := Tab.of fun e =>
               let x := stopped.doorDyn.get e
               if e ∈ members s z then
                 { x with
                   obstructions := 0, warned := false, skipped := if x.skipped = .claim then .claim else .no }
               else x })))

/-- FIRE_DECLARE sets the fire flag with all its effects; FIRE_CLEAR and FIRE_OVERRIDE change the flag and the
override. FIRE DECLARE of a clear flag sets it, de-energises the zone's door-hold output, leaves no ramp guarded by
the zone in CLEARING, MOVING or HOMING unless overridden, raises the zone's fire code with origin REQUEST, the zone
and detail 0, and leaves no door of an OPENING zone with command OPEN, the zone at rest; of a set flag it is answered
already set. Whoever sets the flag, the fire code takes the attributes given, and an absent code is a vector fault.
FIRE CLEAR is refused STATE while a detector of the zone has ALARM active, and else clears the flag and energises
nothing (log entry 24). FIRE OVERRIDE sets the override. All are taken in every device state; a zone above 7 is
refused RANGE. Ramps are held in index order (log entry 25). (R105, R106, R107, R108, R152, log entry 24, log entry
25) -/
def Obligations.FireFlagRequests : Prop :=
  (∀ (s : State) (h : Header) (z : ZoneId), s.resetHeld = false →
     let d := s.zoneDyn.get z
     let burning : Prop := ∃ a : Addr, (s.stations.get a).role = .detector ∧ (s.stations.get a).zone = some z ∧
       pointOn s a 0 = true
     (2 ≤ h.authority → d.fire = true →
       exec (.fireDeclare h z.val) s = .next (answer h .fireDeclare (.done (.fire true true)) (settle s))) ∧
     (2 ≤ h.authority → d.fire = false →
       ∃ t : State,
         exec (.fireDeclare h z.val) s = .next (answer h .fireDeclare (.done (.fire true false)) (settle t)) ∧
         (t.zoneDyn.get z).fire = true ∧ (t.zoneDyn.get z).override = d.override ∧
         (d.state ≠ .opening → t.zoneDyn.get z = { d with fire := true }) ∧
         (d.state = .opening → (t.zoneDyn.get z).state = restState t z ∧ (t.zoneDyn.get z).cause = .none ∧
           ∀ e ∈ members s z, (t.doorDyn.get e).command ≠ .open) ∧
         (∀ n : LineId, (s.zones.get z).doorHold = some n → (s.lines.get n).fn = .doorHold z →
           t.outputs.get n = false) ∧
         (∀ r : RampId, (s.ramps.get r).guardZone = z → d.override = false →
           (t.rampDyn.get r).state.isActive = false) ∧
         (∀ y : ZoneId, y ≠ z → t.zoneDyn.get y = s.zoneDyn.get y)) ∧
     (3 ≤ h.authority → d.fire = true → burning →
       exec (.fireClear h z.val) s = .next (answer h .fireClear (.refused .state none) s)) ∧
     (3 ≤ h.authority → d.fire = false ∨ ¬burning →
       exec (.fireClear h z.val) s = .next (answer h .fireClear (.done (.fire false false)) (settle
         { s with zoneDyn := Tab.put s.zoneDyn z { d with fire := false } }))) ∧
     (∀ on : Bool, 3 ≤ h.authority →
       ∃ t : State,
         exec (.fireOverride h z.val on) s =
           .next (answer h .fireOverride (.done (.fireOverride d.fire on)) (settle t)) ∧
         t.zoneDyn = Tab.put s.zoneDyn z { d with override := on } ∧
         (∀ r : RampId, (s.ramps.get r).guardZone = z → d.fire = true → on = false →
           (t.rampDyn.get r).state.isActive = false) ∧
         (on = true ∨ d.fire = false → t = { s with zoneDyn := t.zoneDyn }))) ∧
  ((∀ (s : State) (h : Header) (z : ZoneId), s.resetHeld = false → 2 ≤ h.authority →
     exec (.fireDeclare h z.val) s = .next (answer h .fireDeclare
       (.done (.fire true (s.zoneDyn.get z).fire)) (settle (setFire z ⟨.request, none, some z, 0⟩ s)))) ∧
   (∀ (s : State) (z : ZoneId) (a : Attributes),
     let d := s.zoneDyn.get z
     let t := setFire z a s
     let guarded (r : RampId) (u : State) : State :=
       if (s.ramps.get r).guardZone = z ∧ d.override = false then holdRamp r 4 u else u
     let held := guarded 3 (guarded 2 (guarded 1 (guarded 0
       (orderDoorHold z false { s with zoneDyn := Tab.put s.zoneDyn z { d with fire := true } }))))
     (d.fire = true → t = s) ∧
     (d.fire = false → d.state ≠ .opening → (s.zones.get z).fireCode = none → t = held) ∧
     (∀ c : Code, d.fire = false → d.state ≠ .opening → (s.zones.get z).fireCode = some c →
       t = raiseCode ⟨c, a, false⟩ held) ∧
     (∀ c : Code, d.fire = false → s.device ≠ .config → (s.zones.get z).fireCode = some c →
       let v := s.vectors.get c
       (3 ≤ c.val → v.present = true → v.level ≠ 0 → (t.codes.get c).latch = true ∧ (t.codes.get c).attrs = a) ∧
       (c.val ≤ 2 ∨ v.present = false → (t.codes.get 1).latch = true ∧
         (t.codes.get 1).attrs = { a with detail := BitVec.ofNat 16 c.val })))) ∧
  (∀ (s : State) (h : Header) (n : Nat), s.resetHeld = false → 3 ≤ h.authority → 8 ≤ n →
     exec (.fireDeclare h n) s = .next (answer h .fireDeclare (.refused .range none) s) ∧
     exec (.fireClear h n) s = .next (answer h .fireClear (.refused .range none) s) ∧
     ∀ on : Bool, exec (.fireOverride h n on) s = .next (answer h .fireOverride (.refused .range none) s))

/-- CLOSE_LIMIT_EXPIRY fails a door in motion; RETRY_TIMER_EXPIRY sends CLOSE again or fails the door; the close ends
when no door has command CLOSE. A close-limit expiry with a command in force makes the door FAILED and held with
command NONE and its timers stopped. A retry expiry with the obstruction count at most the retry limit, or in a fire
close, sends CLOSE again for the full close limit; else the door is FAILED and held. A timer that does not run changes
nothing. A close ends when no member has command CLOSE: the members are released, their skips cleared, the zone takes
its rest state with cause NONE; a CLOSED zone raises its closed code with detail 1 for ROUTINE and 2 for FIRE; any
other raises its partial code with the first member not CLOSED and detail 2. (R101, R102, R103, R105, R117, log entry
4) -/
def Obligations.DoorTimersExpire : Prop :=
  (∀ (s : State) (d : DoorId), s.resetHeld = false →
     let x := s.doorDyn.get d
     let z := (s.doors.get d).zone
     let failed (t : State) : Prop :=
       (t.doorDyn.get d).state = .failed ∧ (t.doorDyn.get d).command = .none ∧ (t.doorDyn.get d).held = true ∧
       (t.doorDyn.get d).closeTimer = .stopped ∧ (t.doorDyn.get d).retryTimer = .stopped ∧
       (∀ e : DoorId, e ≠ d → (s.doors.get e).zone = z →
         (t.doorDyn.get e).state = (s.doorDyn.get e).state ∧ (t.doorDyn.get e).command = (s.doorDyn.get e).command) ∧
       ((s.zoneDyn.get z).state = .closing → (∀ e ∈ members s z, e ≠ d → (s.doorDyn.get e).command ≠ .close) →
         (t.zoneDyn.get z).cause = .none ∧ (t.zoneDyn.get z).state = restState t z ∧
         ∀ e ∈ members s z, ∀ a : Addr, (s.doors.get e).station = some a → t.owners.get a ≠ .zone z)
     (x.closeTimer = .stopped ∨ x.command = .none → exec (.closeLimitExpiry d) s = .next (settle s)) ∧
     (∀ due : Nat, x.closeTimer = .running due → x.command ≠ .none →
       ∃ t : State, exec (.closeLimitExpiry d) s = .next (settle t) ∧ failed t) ∧
     (x.retryTimer = .stopped ∨ x.command ≠ .close → exec (.retryTimerExpiry d) s = .next (settle s)) ∧
     (∀ (due : Nat) (a : Addr), x.retryTimer = .running due → x.command = .close →
       (s.doors.get d).station = some a → (s.zoneDyn.get z).state = .closing →
       x.obstructions ≤ (s.doors.get d).retryLimit ∨ (s.zoneDyn.get z).cause = .fire →
       exec (.retryTimerExpiry d) s = .next (settle (jobCommand a [0x10#8]
         { s with
           doorDyn := Tab.put s.doorDyn d
             { x with
               state := if (s.stationDyn.get a).status = .heard then .closing else .unknown
               closeTimer := .running (s.now + 100000 * (s.doors.get d).closeLimit)
               retryTimer := .stopped, held := false } }))) ∧
     (∀ due : Nat, x.retryTimer = .running due → x.command = .close →
       (s.doors.get d).retryLimit < x.obstructions → (s.zoneDyn.get z).cause ≠ .fire →
       ∃ t : State, exec (.retryTimerExpiry d) s = .next (settle t) ∧ failed t)) ∧
  (∀ (s : State) (z : ZoneId),
     let d := s.zoneDyn.get z
     let cfg := s.zones.get z
     let finished : Prop := d.state = .closing ∧ ∀ e ∈ members s z, (s.doorDyn.get e).command ≠ .close
     let ended : State :=
       { releaseMembers z s with
         doorDyn := Tab.of fun e =>
           if e ∈ members s z then { s.doorDyn.get e with skipped := .no } else s.doorDyn.get e
         zoneDyn := Tab.put s.zoneDyn z { d with state := restState s z, cause := .none } }
     (¬finished → judgeCloseEnd z s = s) ∧
     (finished → restState s z = .closed →
       judgeCloseEnd z s = raiseInternal cfg.closedCode none (some z) (if d.cause = .fire then 2 else 1) ended) ∧
     (∀ (e : DoorId) (a : Addr), finished → e ∈ members s z → (s.doors.get e).station = some a →
       (s.doorDyn.get e).state ≠ .closed → (∀ x ∈ members s z, x < e → (s.doorDyn.get x).state = .closed) →
       judgeCloseEnd z s = raiseInternal cfg.partialCode (some a) (some z) 2 ended) ∧
     (finished → members s z = [] → judgeCloseEnd z s = raiseInternal cfg.partialCode none (some z) 2 ended) ∧
     (d.state = .closing → judgeEnd z s = judgeCloseEnd z s) ∧
     (d.state = .opening → judgeEnd z s = judgeOpenEnd z s) ∧
     (d.state ≠ .closing → d.state ≠ .opening → judgeEnd z s = s)) ∧
  (∀ (s : State) (d : DoorId) (due : Nat), s.resetHeld = false →
     let x := s.doorDyn.get d
     let z := (s.doors.get d).zone
     let failed : State :=
       { s with
         doorDyn := Tab.put s.doorDyn d
           { x with state := .failed, command := .none, closeTimer := .stopped, retryTimer := .stopped, held := true } }
     (s.zoneDyn.get z).state.isRest = false →
     (x.closeTimer = .running due → x.command ≠ .none →
       exec (.closeLimitExpiry d) s = .next (settle (judgeEnd z failed))) ∧
     (x.retryTimer = .running due → x.command = .close → (s.doors.get d).retryLimit < x.obstructions →
       (s.zoneDyn.get z).cause ≠ .fire → exec (.retryTimerExpiry d) s = .next (settle (judgeEnd z failed))))

/-- CALL requests a call, which merges, queues, evicts or is refused; CALL_CANCEL removes the bridge's record of a
message. A message not in use refuses; a record of the same origin and message takes the union of the zone sets and
the greater repeats and keeps its place; else a queue of fewer than 16 takes a new WAITING record after every record
of at least its priority; a full queue evicts the WAITING record of lowest priority and latest arrival below the
request's priority, or refuses. CALL answers the outcome, or STATE, FULL or RANGE; CALL CANCEL leaves no record of
origin BRIDGE and the message. Both are refused STATE in CONFIG. That the reply's place is taken before the one pass
that follows is read from the spec (log entry 26); that one pass follows an eviction and the entry is the model's
choice (log entry 13). So is that the reply of an eviction carries the new record's place (log entry 38). A
cancellation sends STOP, payload 12 hex, to the amplifiers of the record's STARTING and PLAYING lines, in order of
zone by log entry 25, which pass to STOPPING for 2 s; its other lines stop their start and duration timers; every line
stops carrying it, the record is removed, its origin told, and a pass follows. CALL CANCEL of a message above 255 is
refused RANGE. An eviction tells the evicted record's origin before the new record enters. A notice to ZONE is the
zone's and one to RAMP the ramp's, with the record's message and arrival stamp; to EVENT, ALARM and BRIDGE it changes
nothing. (R125, R126, R127, R138, R140, log entry 13, log entry 26, log entry 38, R131, log entry 25, R137) -/
def Obligations.CallsRequested : Prop :=
  (((∀ (s : State) (q : CallRequest),
       let new : CallRecord :=
         { origin := q.origin, message := q.message, zones := q.zones, priority := q.priority, repeats := q.repeats
           left := q.repeats, stamp := s.nextStamp, state := .waiting, incomplete := false, preempted := false
           sent := false, gapTimer := .stopped }
       let same (c : CallRecord) : Prop := c.origin = q.origin ∧ c.message = q.message
       let used : Prop := (s.messages.get q.message).inUse = true
       (¬used → requestCall q s = (.notInUse, s)) ∧
       (∀ (pre post : List CallRecord) (c : CallRecord), used → s.calls = pre ++ c :: post → same c →
         (∀ x ∈ pre, ¬same x) → (∀ x ∈ pre ++ post, x.stamp ≠ c.stamp) →
         let top := if c.repeats = 0 ∨ q.repeats = 0 then 0 else max c.repeats q.repeats
         let c' : CallRecord :=
           { c with
             zones := (List.finRange 8).filter fun z => c.zones.contains z || q.zones.contains z
             repeats := top
             left := if c.repeats ≠ 0 ∧ top ≠ 0 then c.left + (top - c.repeats) else c.left }
         requestCall q s = (.merged c.stamp, { s with calls := pre ++ c' :: post })) ∧
       (∀ (pre post : List CallRecord), used → (∀ x ∈ s.calls, ¬same x) → s.calls.length < 16 →
         s.calls = pre ++ post → (∀ x ∈ pre, q.priority ≤ x.priority) →
         (∀ x : CallRecord, post.head? = some x → x.priority < q.priority) →
         requestCall q s =
           (.queued s.nextStamp, { s with calls := pre ++ new :: post, nextStamp := s.nextStamp + 1 })) ∧
       (used → (∀ x ∈ s.calls, ¬same x) → 16 ≤ s.calls.length →
         (∀ x ∈ s.calls, x.state = .waiting → q.priority ≤ x.priority) → requestCall q s = (.full, s)) ∧
       (∀ old : CallRecord, used → (∀ x ∈ s.calls, ¬same x) → 16 ≤ s.calls.length → old ∈ s.calls →
         old.state = .waiting → old.priority < q.priority →
         (∀ x ∈ s.calls, x.state = .waiting → x = old ∨ old.priority < x.priority ∨
           (x.priority = old.priority ∧ x.stamp < old.stamp)) →
         ∃ u : State, requestCall q s = (.evicted s.nextStamp old, u) ∧ u.nextStamp = s.nextStamp + 1 ∧
           (∀ c : CallRecord, c ∈ u.calls ↔ (c ∈ s.calls ∧ c.stamp ≠ old.stamp) ∨ c = new) ∧
           ∀ pre post : List CallRecord, (s.calls.filter fun x => decide (x.stamp ≠ old.stamp)) = pre ++ post →
             (∀ x ∈ pre, q.priority ≤ x.priority) →
             (∀ x : CallRecord, post.head? = some x → x.priority < q.priority) →
             u = { notify old .evicted { s with calls := pre ++ post } with
               calls := pre ++ new :: post, nextStamp := s.nextStamp + 1 })) ∧
    ((∀ (s : State) (h : Header) (m : MsgId) (zones : List Nat) (zs : List ZoneId) (p n : Nat), s.resetHeld = false →
       1 ≤ h.authority → zones ≠ [] → (∀ z ∈ zones, z < 8) →
       zs = (List.finRange 8).filter (fun z => zones.contains z.val) →
       let q := requestCall ⟨.bridge, m, zs, min 15 p, min 8 n⟩ s
       let place (k : Nat) : Nat := q.2.calls.findIdx (·.stamp == k)
       let refused (reason : Reason) : Prop :=
         exec (.call h m.val zones p n) s = .next (answer h .call (.refused reason none) s)
       let done (o : CallOutcome) : Prop :=
         exec (.call h m.val zones p n) s = .next (answer h .call (.done (.call o)) (settle (arbitrate q.2)))
       (s.device = .config → refused .state) ∧
       (s.device ≠ .config → q.1 = .notInUse → refused .state) ∧
       (s.device ≠ .config → q.1 = .full → refused .full) ∧
       (∀ k : Nat, s.device ≠ .config → q.1 = .queued k → done (.queued (place k))) ∧
       (∀ (k : Nat) (c : CallRecord), s.device ≠ .config → q.1 = .merged k → q.2.call? k = some c →
         done (.merged (place k) c.repeats c.zones)) ∧
       (∀ (k : Nat) (old : CallRecord), s.device ≠ .config → q.1 = .evicted k old →
         done (.evicted (place k) old.origin old.message))) ∧
     (∀ (s : State) (h : Header) (m : Nat) (zones : List Nat) (p n : Nat), s.resetHeld = false → 1 ≤ h.authority →
       256 ≤ m ∨ zones = [] ∨ (∃ z ∈ zones, 8 ≤ z) →
       exec (.call h m zones p n) s = .next (answer h .call (.refused .range none) s)) ∧
     (∀ (s : State) (h : Header) (m : MsgId), s.resetHeld = false → 1 ≤ h.authority →
       (s.device = .config →
         exec (.callCancel h m.val) s = .next (answer h .callCancel (.refused .state none) s)) ∧
       (s.device ≠ .config → (∀ c ∈ s.calls, ¬(c.origin = .bridge ∧ c.message = m)) →
         exec (.callCancel h m.val) s = .next (answer h .callCancel (.done (.callCancel true)) (settle s))) ∧
       (s.device ≠ .config → CallsOk s → (∃ c ∈ s.calls, c.origin = .bridge ∧ c.message = m) →
         ∃ t : State,
           exec (.callCancel h m.val) s = .next (answer h .callCancel (.done (.callCancel false)) (settle t)) ∧
           ∀ c ∈ t.calls, ¬(c.origin = .bridge ∧ c.message = m)) ∧
       (s.device ≠ .config → (∃ c ∈ s.calls, c.origin = .bridge ∧ c.message = m) →
         exec (.callCancel h m.val) s =
           .next (answer h .callCancel (.done (.callCancel false)) (settle (cancelCall .bridge m s).2))) ∧
       ∀ n : Nat, 256 ≤ n →
         exec (.callCancel h n) s = .next (answer h .callCancel (.refused .range none) s)))) ∧
   (∀ (s : State) (o : CallOrigin) (m : MsgId),
      let same (c : CallRecord) : Prop := c.origin = o ∧ c.message = m
      ((∀ c ∈ s.calls, ¬same c) → cancelCall o m s = (false, s)) ∧
      (∀ (pre post : List CallRecord) (c : CallRecord), s.calls = pre ++ c :: post → same c → (∀ x ∈ pre, ¬same x) →
        (∀ x ∈ pre ++ post, x.stamp ≠ c.stamp) →
        let mine (z : ZoneId) : Bool := decide ((s.zoneLines.get z).carried = some c.stamp)
        let sounding (z : ZoneId) : Bool :=
          decide ((s.zoneLines.get z).state = .starting) || decide ((s.zoneLines.get z).state = .playing)
        let removed : State :=
          { ((List.finRange 8).filter fun z => mine z && sounding z).foldl
              (fun u z => jobCommand? (s.zones.get z).amplifier [0x12#8] u) s with
            calls := pre ++ post
            zoneLines := Tab.of fun z =>
              let l := s.zoneLines.get z
              if mine z = false then l
              else if sounding z = true then ⟨.stopping, none, .stopped, .stopped, .running (s.now + 200000)⟩
              else { l with carried := none, startTimer := .stopped, durationTimer := .stopped } }
        cancelCall o m s = (true, arbitrate (notify c .cancelled removed)) ∧
        (o = .bridge → cancelCall o m s = (true, arbitrate removed))))) ∧
  ((∀ (s : State) (c : CallRecord) (n : Notice),
     (∀ z : ZoneId, c.origin = .zone z →
       notify c n s = zoneNotice z ⟨c.message, c.stamp⟩ (decide (n = .complete)) s) ∧
     (∀ r : RampId, c.origin = .ramp r → notify c n s = rampNotice r ⟨c.message, c.stamp⟩ s) ∧
     ((∃ e : Code, c.origin = .event e) ∨ c.origin = .alarm ∨ c.origin = .bridge → notify c n s = s)) ∧
   (∀ (s : State) (q : CallRequest),
     let x := requestCall q s
     (x.1 = .notInUse ∨ x.1 = .full → x.1.stamp? = none ∧ postCall q s = x) ∧
     (∀ k : Nat, x.1 = .queued k ∨ x.1 = .merged k ∨ (∃ old : CallRecord, x.1 = .evicted k old) →
       x.1.stamp? = some k ∧ postCall q s = (x.1, arbitrate x.2))))

/-- A pass walks the queue from the front: a call starts, completes without a sound line, or waits and reserves its
zones; a lower call is preempted. A WAITING call whose sound zones are all available starts; else it reserves them,
and no later WAITING call that names one of them starts in the pass. With one WAITING call of one zone, whose line is
FREE and carries nothing and whose amplifier can be claimed, the line is claimed and STARTING for 2 s and PLAY is sent
with the message and its chime; of two zones, PLAY is sent in order of zone, and waits while one line is STOPPING;
with its only line FAULT the call completes as incomplete and its origin is told. A preempted call loses the wanted
lines to the winner; its STARTING and PLAYING lines are STOPPING for 2 s, its other FREE lines carry nothing; it is
WAITING when it carries no line, else STOPPING, with its repeats left kept. A zone is available when it is not
reserved, its line not FAULT and carrying nothing or a call of strictly lower priority. A preemption sends STOP,
payload 12 hex, to the amplifiers of its STARTING and PLAYING lines in order of zone (log entry 25). A STARTING,
PLAYING or GAP call with zones it does not carry drops those whose line is FAULT, becoming incomplete, takes those
available, which preempts a lower call, and reserves the others; one left without zone or line completes as
incomplete. A call that starts drops its FAULT zones, becoming incomplete, completes when none is left, and else takes
its lines, becomes STARTING and goes on as ZoneLinePlaying states. That a growing call takes only the zones available
to it, also from a call it preempts that carries a reserved zone of its set, is the model's choice (log entry 43).
(R125, R129, R130, R131, log entry 25, log entry 43) -/
def Obligations.ArbitrationPass : Prop :=
  ((((∀ (s : State) (c : CallRecord) (z : ZoneId) (a : Addr), s.calls = [c] → c.state = .waiting → c.zones = [z] →
       (s.zoneLines.get z).state = .free → (s.zoneLines.get z).carried = none →
       (∀ y : ZoneId, (s.zoneLines.get y).carried ≠ some c.stamp) → (s.zones.get z).amplifier = some a →
       s.owners.get a = .free ∨ s.owners.get a = .line z →
       let chime : Byte := if (s.messages.get c.message).chime = true then 0x01#8 else 0x00#8
       arbitrate s = jobCommand a [0x20#8, BitVec.ofNat 8 c.message.val, chime]
         { s with
           owners := Tab.put s.owners a (.line z)
           zoneLines := Tab.put s.zoneLines z ⟨.starting, some c.stamp, .running (s.now + 200000), .stopped, .stopped⟩
           calls := [{ c with state := .starting, sent := true, gapTimer := .stopped }] }) ∧
     (∀ (s : State) (c : CallRecord) (z : ZoneId), s.calls = [c] → c.state = .waiting → c.zones = [z] →
       (s.zoneLines.get z).state = .fault → (∀ y : ZoneId, (s.zoneLines.get y).carried ≠ some c.stamp) →
       arbitrate s = notify c .incomplete { s with calls := [] }) ∧
     (∀ (s : State) (reserved : List ZoneId) (p : Nat) (z : ZoneId),
       isAvailable s reserved p z = true ↔
         z ∉ reserved ∧ (s.zoneLines.get z).state ≠ .fault ∧
           ∀ (k : Nat) (c : CallRecord), (s.zoneLines.get z).carried = some k → s.call? k = some c → c.priority < p) ∧
     (∀ (s : State) (pre post : List CallRecord) (c : CallRecord) (wanted : List ZoneId) (w : Nat),
       s.calls = pre ++ c :: post → (∀ x ∈ pre ++ post, x.stamp ≠ c.stamp) → w ≠ c.stamp →
       let t := preemptCall c.stamp wanted w s
       let mine (z : ZoneId) : Prop := (s.zoneLines.get z).carried = some c.stamp
       let sounding (z : ZoneId) : Prop :=
         (s.zoneLines.get z).state = .starting ∨ (s.zoneLines.get z).state = .playing
       (∀ z : ZoneId, ¬mine z → t.zoneLines.get z = s.zoneLines.get z) ∧
       (∀ z : ZoneId, mine z → sounding z → (t.zoneLines.get z).state = .stopping ∧
         (t.zoneLines.get z).stopTimer = .running (s.now + 200000)) ∧
       (∀ z : ZoneId, mine z → ¬sounding z → (t.zoneLines.get z).state = (s.zoneLines.get z).state ∧
         (t.zoneLines.get z).stopTimer = (s.zoneLines.get z).stopTimer) ∧
       (∀ z : ZoneId, mine z → (t.zoneLines.get z).startTimer = .stopped ∧
         (t.zoneLines.get z).durationTimer = .stopped) ∧
       (∀ z : ZoneId, mine z → z ∈ wanted → (t.zoneLines.get z).carried = some w) ∧
       (∀ z : ZoneId, mine z → z ∉ wanted → (s.zoneLines.get z).state = .free → (t.zoneLines.get z).carried = none) ∧
       (∀ z : ZoneId, mine z → z ∉ wanted → (s.zoneLines.get z).state ≠ .free →
         (t.zoneLines.get z).carried = some c.stamp) ∧
       t = { ((List.finRange 8).filter fun z => decide ((s.zoneLines.get z).carried = some c.stamp) &&
             (decide ((s.zoneLines.get z).state = .starting) || decide ((s.zoneLines.get z).state = .playing))).foldl
               (fun u z => jobCommand? (s.zones.get z).amplifier [0x12#8] u) s with
             zoneLines := t.zoneLines, calls := t.calls } ∧
       ∃ st : CallState, t.calls = pre ++
           { c with gapTimer := .stopped, preempted := true, sent := false, state := st } :: post ∧
         ((∀ z : ZoneId, mine z → z ∈ wanted ∨ (s.zoneLines.get z).state = .free) → st = .waiting) ∧
         ((∃ z : ZoneId, mine z ∧ z ∉ wanted ∧ (s.zoneLines.get z).state ≠ .free) → st = .stopping))) ∧
    ((∀ s : State,
       onePass s = ((s.calls.map fun c => c.stamp).foldl (fun x k => judgeCall k x.1 x.2) (([] : List ZoneId), s)).2 ∧
       (onePass s = s → arbitrate s = s)) ∧
     (∀ (s : State) (k : Nat) (c : CallRecord) (reserved : List ZoneId), s.call? k = some c →
       let sound := c.zones.filter fun z => (s.zoneLines.get z).state ≠ .fault
       (c.state = .waiting → (∀ z ∈ sound, isAvailable s reserved c.priority z = true) →
         judgeCall k reserved s = (reserved, startCall c s)) ∧
       (c.state = .waiting → (∃ z ∈ sound, isAvailable s reserved c.priority z = false) →
         judgeCall k reserved s = (reserved ++ sound, s)) ∧
       (c.state = .stopping → judgeCall k reserved s = (reserved, s)) ∧
       (c.state ≠ .waiting → (∀ z ∈ c.zones, (s.zoneLines.get z).carried = some c.stamp) →
         judgeCall k reserved s = (reserved, s)) ∧
       ∀ (n : Nat) (e : CallRecord) (y z : ZoneId), c.state = .waiting → y ∈ sound →
         isAvailable s reserved c.priority y = false → s.call? n = some e → e.state = .waiting → z ∈ e.zones →
         z ∈ sound →
         let q := judgeCall k reserved s
         judgeCall n q.1 q.2 =
            (reserved ++ sound ++ e.zones.filter (fun x => (s.zoneLines.get x).state ≠ .fault), s))) ∧
    (∀ (s : State) (c : CallRecord) (y z : ZoneId) (a b : Addr), s.calls = [c] → c.state = .waiting → y < z →
       c.zones = [y, z] → (∀ x : ZoneId, (s.zoneLines.get x).carried ≠ some c.stamp) →
       (s.zoneLines.get y).state = .free → (s.zoneLines.get y).carried = none → (s.zoneLines.get z).carried = none →
       (s.zones.get y).amplifier = some a → (s.zones.get z).amplifier = some b → a ≠ b →
       s.owners.get a = .free ∨ s.owners.get a = .line y → s.owners.get b = .free ∨ s.owners.get b = .line z →
       let chime : Byte := if (s.messages.get c.message).chime = true then 0x01#8 else 0x00#8
       let play : List Byte := [0x20#8, BitVec.ofNat 8 c.message.val, chime]
       let starting : ZoneLine := ⟨.starting, some c.stamp, .running (s.now + 200000), .stopped, .stopped⟩
       ((s.zoneLines.get z).state = .free →
         arbitrate s = jobCommand b play (jobCommand a play
           { s with
             owners := Tab.put (Tab.put s.owners a (.line y)) b (.line z)
             zoneLines := Tab.put (Tab.put s.zoneLines y starting) z starting
             calls := [{ c with state := .starting, sent := true, gapTimer := .stopped }] })) ∧
       ((s.zoneLines.get z).state = .stopping →
         arbitrate s =
           { s with
             zoneLines := Tab.put (Tab.put s.zoneLines y { s.zoneLines.get y with carried := some c.stamp }) z
               { s.zoneLines.get z with carried := some c.stamp }
             calls := [{ c with state := .starting, sent := false, gapTimer := .stopped }] }))) ∧
   ((∀ (s : State) (pre post : List CallRecord) (c : CallRecord) (reserved : List ZoneId),
      s.calls = pre ++ c :: post → (∀ x ∈ pre ++ post, x.stamp ≠ c.stamp) →
      c.state = .starting ∨ c.state = .playing ∨ c.state = .gap →
      let mine (z : ZoneId) : Bool := decide ((s.zoneLines.get z).carried = some c.stamp)
      let fault (z : ZoneId) : Bool := decide ((s.zoneLines.get z).state = .fault)
      let missing := c.zones.filter fun z => !mine z
      let sound := missing.filter fun z => !fault z
      let taken := sound.filter fun z => isAvailable s reserved c.priority z
      let blocked := sound.filter fun z => !isAvailable s reserved c.priority z
      let c' : CallRecord :=
        { c with
          zones := c.zones.filter fun z => mine z || !fault z, incomplete := c.incomplete || missing.any fault }
      let grown := takeLines taken c.stamp { s with calls := pre ++ c' :: post }
      missing ≠ [] →
        judgeCall c.stamp reserved s = (reserved ++ blocked, refreshCall c.stamp grown) ∧
        (c'.zones ≠ [] → c.state = .gap ∨ (c.state = .playing ∧ c.sent = true ∧
            (∃ y : ZoneId, mine y = true ∧ (s.zoneLines.get y).state = .playing) ∧
            ∀ y : ZoneId, mine y = true ∨ y ∈ taken → (s.zoneLines.get y).state ≠ .starting) →
          judgeCall c.stamp reserved s = (reserved ++ blocked, grown)) ∧
        (c'.zones = [] → (∀ y : ZoneId, mine y = false) →
          judgeCall c.stamp reserved s = (reserved, notify c' .incomplete { s with calls := pre ++ post }))) ∧
    (∀ (s : State) (wanted : List ZoneId) (w : Nat),
      let t := takeLines wanted w s
      (∀ z ∈ wanted, (t.zoneLines.get z).carried = some w) ∧
      ((∀ z ∈ wanted, (s.zoneLines.get z).carried = none ∨ (s.zoneLines.get z).carried = some w) →
        t = { s with
          zoneLines := Tab.of fun z =>
            if z ∈ wanted then { s.zoneLines.get z with carried := some w } else s.zoneLines.get z }) ∧
      ∀ (z : ZoneId) (k : Nat), wanted = [z] → (s.zoneLines.get z).carried = some k → k ≠ w →
        t = preemptCall k [z] w s))) ∧
  (∀ (s : State) (pre post : List CallRecord) (c : CallRecord), s.calls = pre ++ c :: post →
     (∀ x ∈ pre ++ post, x.stamp ≠ c.stamp) → c.zones ≠ [] →
     (∀ z : ZoneId, (s.zoneLines.get z).carried ≠ some c.stamp) →
     let sound := c.zones.filter fun z => decide ((s.zoneLines.get z).state ≠ .fault)
     let c' : CallRecord := { c with zones := sound, incomplete := c.incomplete || decide (sound ≠ c.zones) }
     let taken := takeLines sound c.stamp { s with calls := pre ++ c' :: post }
     (sound = [] → startCall c s = notify c .incomplete { s with calls := pre ++ post }) ∧
     (sound ≠ [] → startCall c s = refreshCall c.stamp
       { taken with calls := taken.calls.map fun x =>
           if x.stamp = c.stamp then { x with state := .starting, sent := false, gapTimer := .stopped } else x }))

/-- The amplifier's PLAYING point, START_TIMER_EXPIRY, DURATION_TIMER_EXPIRY, STOP_TIMER_EXPIRY and GAP_TIMER_EXPIRY
move a zone line and its call. The rise of PLAYING starts the duration timer, its fall ends the repetition: the call
completes, or waits out its gap. A start or duration expiry makes the line FAULT, carrying nothing, its amplifier
given up, the zone gone from an incomplete call; a stop expiry frees a STOPPING line: the call STARTING that waited
for it sends PLAY, and a preempted call is WAITING again and starts in the pass that follows; a gap expiry sends PLAY
again. A timer that does not run in its state changes nothing (log entry 4). At a start or duration expiry STOP,
payload 12 hex, is sent to the amplifier and the line fault code is raised with detail 1 or 2; a claim refused at PLAY
fails the line with detail 5 and no STOP. The fall of PLAYING on a STOPPING line acts as the stop expiry; rises and
falls in the other line states change nothing. After a change of a line its call completes without zones, waits while
PLAY is owed and a line is not FREE, sends PLAY in order of zone, is STARTING while a line is, then PLAYING while one
is, and else ends its repetition (log entry 34); a preempted call is WAITING when no line of it is STOPPING. (R129,
R130, R132, R133, R134, R136, R137, log entry 4, log entry 34) -/
def Obligations.ZoneLinePlaying : Prop :=
  ((((∀ (s : State) (z : ZoneId), s.resetHeld = false →
       let l := s.zoneLines.get z
       let failed (t : State) : Prop :=
         t.zoneLines.get z = ⟨.fault, none, .stopped, .stopped, .stopped⟩ ∧
         (∀ a : Addr, (s.zones.get z).amplifier = some a → t.owners.get a ≠ .line z) ∧
         ∀ k : Nat, l.carried = some k → ∀ c ∈ t.calls, c.stamp = k → z ∉ c.zones ∧ c.incomplete = true
       (l.state ≠ .starting ∨ l.startTimer = .stopped → exec (.startTimerExpiry z) s = .next (settle s)) ∧
       (∀ due : Nat, l.state = .starting → l.startTimer = .running due →
         ∃ t : State, exec (.startTimerExpiry z) s = .next (settle t) ∧ failed t) ∧
       (l.state ≠ .playing ∨ l.durationTimer = .stopped → exec (.durationTimerExpiry z) s = .next (settle s)) ∧
       (∀ due : Nat, l.state = .playing → l.durationTimer = .running due →
         ∃ t : State, exec (.durationTimerExpiry z) s = .next (settle t) ∧ failed t) ∧
       (l.state ≠ .stopping ∨ l.stopTimer = .stopped → exec (.stopTimerExpiry z) s = .next (settle s)) ∧
       (∀ (due : Nat) (a : Addr), l.state = .stopping → l.stopTimer = .running due → s.calls = [] → l.carried = none →
         (s.zones.get z).amplifier = some a → s.owners.get a = .line z →
         exec (.stopTimerExpiry z) s = .next (settle
           { s with
             zoneLines := Tab.put s.zoneLines z ⟨.free, none, .stopped, .stopped, .stopped⟩
             owners := Tab.put s.owners a .free }))) ∧
     (∀ (s : State) (k : Nat), s.resetHeld = false →
       ((∀ c ∈ s.calls, c.stamp = k → c.state ≠ .gap ∨ c.gapTimer = .stopped) →
         exec (.gapTimerExpiry k) s = .next (settle s)) ∧
       (∀ (c : CallRecord) (z : ZoneId) (a : Addr) (due : Nat), s.calls = [c] → c.stamp = k → c.state = .gap →
         c.gapTimer = .running due → c.zones = [z] → (s.zoneLines.get z).state = .free →
         (∀ y : ZoneId, (s.zoneLines.get y).carried = some k ↔ y = z) → (s.zones.get z).amplifier = some a →
         s.owners.get a = .free ∨ s.owners.get a = .line z →
         let chime : Byte := if (s.messages.get c.message).chime = true then 0x01#8 else 0x00#8
         exec (.gapTimerExpiry k) s = .next (settle (jobCommand a [0x20#8, BitVec.ofNat 8 c.message.val, chime]
           { s with
             owners := Tab.put s.owners a (.line z)
             zoneLines := Tab.put s.zoneLines z ⟨.starting, some k, .running (s.now + 200000), .stopped, .stopped⟩
             calls := [{ c with state := .starting, sent := true, gapTimer := .stopped }] }))))) ∧
    (∀ (s : State) (c : CallRecord) (z : ZoneId) (a : Addr), s.calls = [c] → c.sent = true → c.zones = [z] →
       (∀ y : ZoneId, (s.zoneLines.get y).carried = some c.stamp ↔ y = z) → (s.zones.get z).amplifier = some a →
       s.owners.get a = .line z →
       let msg := s.messages.get c.message
       let freed (carried : Option Nat) (calls : List CallRecord) : State :=
         { s with
           owners := Tab.put s.owners a .free
           zoneLines := Tab.put s.zoneLines z ⟨.free, carried, .stopped, .stopped, .stopped⟩
           calls := calls }
       (c.state = .starting → (s.zoneLines.get z).state = .starting →
         playingRises z s =
           { s with
             zoneLines := Tab.put s.zoneLines z
               ⟨.playing, some c.stamp, .stopped, .running (s.now + 100000 * msg.durationLimit), .stopped⟩
             calls := [{ c with state := .playing }] }) ∧
       (c.state = .playing → (s.zoneLines.get z).state = .playing → c.repeats ≠ 0 → c.left = 1 →
         c.incomplete = false → playingFalls z s = notify c .complete (freed none [])) ∧
       (c.state = .playing → (s.zoneLines.get z).state = .playing → c.repeats = 0 ∨ 2 ≤ c.left →
         0 < msg.repeatGap →
         playingFalls z s = freed (some c.stamp)
           [{ c with
             state := .gap, sent := false, gapTimer := .running (s.now + 100000 * msg.repeatGap)
             left := if c.repeats = 0 then c.left else c.left - 1 }]))) ∧
   (∀ (s : State) (c : CallRecord) (z : ZoneId) (a : Addr) (due : Nat), s.resetHeld = false → s.calls = [c] →
      c.zones = [z] → (∀ y : ZoneId, (s.zoneLines.get y).carried = some c.stamp ↔ y = z) →
      (s.zoneLines.get z).state = .stopping → (s.zoneLines.get z).stopTimer = .running due →
      (s.zones.get z).amplifier = some a → s.owners.get a = .free ∨ s.owners.get a = .line z →
      let chime : Byte := if (s.messages.get c.message).chime = true then 0x01#8 else 0x00#8
      let played (c' : CallRecord) : State := jobCommand a [0x20#8, BitVec.ofNat 8 c.message.val, chime]
        { s with
          owners := Tab.put s.owners a (.line z)
          zoneLines := Tab.put s.zoneLines z ⟨.starting, some c.stamp, .running (s.now + 200000), .stopped, .stopped⟩
          calls := [c'] }
      (c.state = .starting → c.sent = false →
        exec (.stopTimerExpiry z) s = .next (settle (played { c with sent := true }))) ∧
      (c.state = .stopping →
        exec (.stopTimerExpiry z) s =
          .next (settle (played { c with state := .starting, sent := true, gapTimer := .stopped }))))) ∧
  ((∀ (s : State) (z : ZoneId),
     let l := s.zoneLines.get z
     let amp := (s.zones.get z).amplifier
     let givenUp : Vector Owner 254 := match amp with
       | none => s.owners
       | some a => if s.owners.get a = .line z then Tab.put s.owners a .free else s.owners
     let goesOn (u : State) : State := match l.carried with
       | none => arbitrate u
       | some k => arbitrate (refreshCall k u)
     let fails (detail : Word16) : State :=
       goesOn (raiseInternal s.record.lineFaultCode amp (some z) detail
         { jobCommand? amp [0x12#8] s with
           zoneLines := Tab.put s.zoneLines z ⟨.fault, none, .stopped, .stopped, .stopped⟩
           owners := givenUp
           calls := match l.carried with
             | none => s.calls
             | some k => s.calls.map fun c =>
               if c.stamp = k then { c with zones := c.zones.filter (fun y => decide (y ≠ z)), incomplete := true }
               else c })
     let freed (carried : Option Nat) : State :=
       { s with
         zoneLines := Tab.put s.zoneLines z ⟨.free, carried, .stopped, .stopped, .stopped⟩, owners := givenUp }
     (∀ due : Nat, s.resetHeld = false → l.state = .starting → l.startTimer = .running due →
       exec (.startTimerExpiry z) s = .next (settle (fails 1))) ∧
     (∀ due : Nat, s.resetHeld = false → l.state = .playing → l.durationTimer = .running due →
       exec (.durationTimerExpiry z) s = .next (settle (fails 2))) ∧
     (∀ due : Nat, s.resetHeld = false → l.state = .stopping → l.stopTimer = .running due →
       exec (.stopTimerExpiry z) s = .next (settle (playingFalls z s))) ∧
     (l.state ≠ .starting → playingRises z s = s) ∧
     (∀ (k : Nat) (c : CallRecord), l.state = .starting → l.carried = some k → s.call? k = some c →
       let limit := (s.messages.get c.message).durationLimit
       playingRises z s = goesOn { s with
         zoneLines := Tab.put s.zoneLines z
           ⟨.playing, some k, .stopped, .running (s.now + 100000 * limit), .stopped⟩ }) ∧
     (l.state = .free ∨ l.state = .starting ∨ l.state = .fault → playingFalls z s = s) ∧
     (l.state = .playing → playingFalls z s = goesOn (freed l.carried)) ∧
     (l.state = .stopping → l.carried = none → playingFalls z s = arbitrate (freed none)) ∧
     (∀ (k : Nat) (c : CallRecord), l.state = .stopping → l.carried = some k → s.call? k = some c →
       playingFalls z s = goesOn (freed (if c.state = .stopping then none else some k)))) ∧
   (∀ (s : State) (k : Nat) (c : CallRecord), s.call? k = some c →
     let mine (z : ZoneId) : Bool := decide ((s.zoneLines.get z).carried = some k)
     let shows (st : ZoneLineState) : Prop := ∃ z : ZoneId, mine z = true ∧ (s.zoneLines.get z).state = st
     let becomes (f : CallRecord → CallRecord) : State :=
       { s with calls := s.calls.map fun x => if x.stamp = k then f x else x }
     let completed : State := notify c (if c.incomplete = true then .incomplete else .complete)
       { s with
         calls := s.calls.filter fun x => decide (x.stamp ≠ k)
         zoneLines := Tab.of fun z =>
           let l := s.zoneLines.get z
           if mine z = true then { l with carried := none } else l }
     let running : Prop := c.state = .starting ∨ c.state = .playing
     let gap := (s.messages.get c.message).repeatGap
     let left := if c.repeats = 0 then c.left else c.left - 1
     let last : Prop := c.repeats ≠ 0 ∧ c.left ≤ 1
     let amp (z : ZoneId) : Option Addr := (s.zones.get z).amplifier
     let chime : Byte := if (s.messages.get c.message).chime = true then 0x01#8 else 0x00#8
     let t := refreshCall k s
     (c.zones = [] → t = completed) ∧
     (c.zones ≠ [] → c.state = .waiting ∨ c.state = .gap → t = s) ∧
     (c.zones ≠ [] → c.state = .stopping → shows .stopping → t = s) ∧
     (c.zones ≠ [] → c.state = .stopping → ¬shows .stopping → t = becomes fun x => { x with state := .waiting }) ∧
     (c.zones ≠ [] → running → c.sent = true → shows .starting → t = becomes fun x => { x with state := .starting }) ∧
     (c.zones ≠ [] → running → c.sent = true → ¬shows .starting → shows .playing →
       t = becomes fun x => { x with state := .playing }) ∧
     (c.zones ≠ [] → running → c.sent = true → ¬shows .starting → ¬shows .playing →
       (last → t = completed) ∧
       (¬last → 0 < gap → t = becomes fun x =>
         { x with state := .gap, sent := false, left := left, gapTimer := .running (s.now + 100000 * gap) }) ∧
       (¬last → gap = 0 → t = refreshCall k (becomes fun x =>
         { x with state := .starting, sent := false, left := left, gapTimer := .stopped }))) ∧
     (c.zones ≠ [] → running → c.sent = false →
       (∀ z : ZoneId, mine z = false) ∨ (∃ z : ZoneId, mine z = true ∧ (s.zoneLines.get z).state ≠ .free) → t = s) ∧
     (c.zones ≠ [] → running → c.sent = false → (∃ z : ZoneId, mine z = true) →
       (∀ z : ZoneId, mine z = true → (s.zoneLines.get z).state = .free ∧ ∃ a : Addr, amp z = some a ∧
         (s.owners.get a = .free ∨ s.owners.get a = .line z)) →
       (∀ y z : ZoneId, mine y = true → mine z = true → amp y = amp z → y = z) →
       t = ((List.finRange 8).filter mine).foldl
         (fun u z => jobCommand? (amp z) [0x20#8, BitVec.ofNat 8 c.message.val, chime] u)
         { becomes fun x => { x with sent := true } with
           owners := Tab.of fun a =>
             match (List.finRange 8).find? fun z => mine z && decide (amp z = some a) with
             | some z => .line z
             | none => s.owners.get a
           zoneLines := Tab.of fun z =>
             if mine z = true then ⟨.starting, some k, .running (s.now + 200000), .stopped, .stopped⟩
             else s.zoneLines.get z }) ∧
     (∀ (z : ZoneId) (a : Addr), c.zones = [z] → running → c.sent = false → (∀ y : ZoneId, mine y = true ↔ y = z) →
       (s.zoneLines.get z).state = .free → amp z = some a → s.owners.get a ≠ .free → s.owners.get a ≠ .line z →
       t = notify c .incomplete (raiseInternal s.record.lineFaultCode (some a) (some z) 5
         { s with
           zoneLines := Tab.put s.zoneLines z ⟨.fault, none, .stopped, .stopped, .stopped⟩
           calls := s.calls.filter fun x => decide (x.stamp ≠ k) }))))

/-- RAMP_MOVE and RAMP_HOME are judged by the ramp's state, start a motion, or are refused. RAMP MOVE: the target is
clamped to 0..Pmax; CLEARING and MOVING take it; IDLE and HELD, the permissive holding, claim the drive and request
the clearance call, waiting for it in CLEARING or, when it is refused, entering MOVING at once. RAMP HOME: at STOWED
the ramp is referenced with P 0; otherwise the drive is claimed and the ramp creeps home. Both are refused STATE in
the other states, outside RUN, without a drive and with the permissive failing, BUSY for another's drive, and RANGE
for an index above 3. That the call's reference and timer are set before the one pass that follows, after an eviction
too, is the model's choice (log entry 13). The permissive holds just when the general alarm is INACTIVE, no STOP_LOOP
line inactive, the device in RUN, the guard zone's fire flag clear or overridden, and the drive HEARD with READY
active and LOCAL and FAULT inactive. (R143, R146, R149, R151, R154, R155, R156, log entry 13) -/
def Obligations.RampStartsMotion : Prop :=
  ((((∀ (s : State) (h : Header) (r : RampId) (a : Addr) (target : Int), s.resetHeld = false → 2 ≤ h.authority →
       (s.ramps.get r).drive = some a →
       let cfg := s.ramps.get r
       let d := s.rampDyn.get r
       let goal : Int := max 0 (min (cfg.pmax : Int) target)
       let refused (reason : Reason) : Prop :=
         exec (.rampMove h r.val target) s = .next (answer h .rampMove (.refused reason none) s)
       let done (note : RampNote) (t : State) : Prop := exec (.rampMove h r.val target) s =
         .next (answer h .rampMove (.done (.rampNote note (decide (goal ≠ target)))) (settle t))
       let u : State :=
         { s with
           owners := Tab.put s.owners a (.ramp r)
           rampDyn := Tab.put s.rampDyn r { d with t := some goal, state := .clearing, vset := 0 } }
       let q := requestCall ⟨.ramp r, cfg.clearanceMsg, [cfg.guardZone], cfg.clearancePriority, 1⟩ u
       (s.device ≠ .run → refused .state) ∧
       (d.state = .unreferenced ∨ d.state = .homing ∨ d.state = .fault → refused .state) ∧
       (d.state = .idle ∨ d.state = .held → permissive s r = false → refused .state) ∧
       (s.device = .run → d.state = .clearing →
         done .targetReplaced { s with rampDyn := Tab.put s.rampDyn r { d with t := some goal } }) ∧
       (s.device = .run → d.state = .moving →
         done .retargeted { s with rampDyn := Tab.put s.rampDyn r { d with t := some goal } }) ∧
       (d.state = .idle ∨ d.state = .held → permissive s r = true → s.owners.get a ≠ .free →
         s.owners.get a ≠ .ramp r → refused .busy) ∧
       (d.state = .idle ∨ d.state = .held → permissive s r = true →
         s.owners.get a = .free ∨ s.owners.get a = .ramp r →
         (∀ k : Nat, q.1 = .queued k ∨ q.1 = .merged k ∨ (∃ old : CallRecord, q.1 = .evicted k old) →
           done .clearing (arbitrate
             { q.2 with
               rampDyn := Tab.put q.2.rampDyn r
                 { q.2.rampDyn.get r with
                   callRef := some ⟨cfg.clearanceMsg, k⟩
                   clearance := .running (s.now + 100000 * (s.zones.get cfg.guardZone).callWait) } })) ∧
         (q.1 = .notInUse ∨ q.1 = .full →
           done .clearing
             { jobCommand a [0x31#8] (orderEnable r true { s with owners := Tab.put s.owners a (.ramp r) }) with
               rampDyn := Tab.put s.rampDyn r
                 { d with
                   t := some goal, state := .moving, vset := 0, overspeed := 0, direction := 0, stall := 0
                   edgeSeen := false, control := .running (s.now + 100 * cfg.period) } }))) ∧
     (∀ (s : State) (h : Header) (n : Nat) (target : Int), s.resetHeld = false → 2 ≤ h.authority → 4 ≤ n →
       exec (.rampMove h n target) s = .next (answer h .rampMove (.refused .range none) s))) ∧
    ((∀ (s : State) (h : Header) (r : RampId) (a : Addr), s.resetHeld = false → 2 ≤ h.authority →
       (s.ramps.get r).drive = some a →
       let cfg := s.ramps.get r
       let d := s.rampDyn.get r
       let refused (reason : Reason) : Prop :=
         exec (.rampHome h r.val) s = .next (answer h .rampHome (.refused reason none) s)
       let done (note : RampNote) (t : State) : Prop :=
         exec (.rampHome h r.val) s = .next (answer h .rampHome (.done (.rampNote note false)) (settle t))
       let referenced (u : State) : State :=
         raiseInternal cfg.arrivedCode (some a) (some cfg.guardZone) 0 (release a (.ramp r)
           { u with
             rampDyn := Tab.put u.rampDyn r
               { u.rampDyn.get r with state := .idle, p := 0, referenced := true, t := none } })
       (s.device ≠ .run → refused .state) ∧
       (d.state = .homing ∨ d.state = .clearing ∨ d.state = .moving ∨ d.state = .fault → refused .state) ∧
       (permissive s r = false → refused .state) ∧
       (d.state = .idle ∨ d.state = .unreferenced → permissive s r = true → pointOn s a 1 = true →
         done .stowed (referenced s)) ∧
       (d.state = .held → permissive s r = true → pointOn s a 1 = true →
         done .stowed (referenced
           (cancelCall (.ramp r) cfg.clearanceMsg (orderEnable r false (jobCommand a [0x32#8] s))).2)) ∧
       (d.state = .idle ∨ d.state = .held ∨ d.state = .unreferenced → permissive s r = true → pointOn s a 1 = false →
         (s.owners.get a ≠ .free → s.owners.get a ≠ .ramp r → refused .busy) ∧
         (s.owners.get a = .free ∨ s.owners.get a = .ramp r →
           let out : Int := -(((1000 * cfg.vcreep + cfg.vmax / 2) / cfg.vmax : Nat) : Int)
           done .homing
             { jobCommand a (speedPayload out) (jobCommand a [0x31#8] (orderEnable r true
                 { s with owners := Tab.put s.owners a (.ramp r) })) with
               rampDyn := Tab.put s.rampDyn r
                 { d with
                   referenced := false, t := none, overspeed := 0, direction := 0, stall := 0
                   vset := -(cfg.vcreep : Int), edgeSeen := false, state := .homing
                   control := .running (s.now + 100 * cfg.period) } }))) ∧
     (∀ (s : State) (h : Header) (n : Nat), s.resetHeld = false → 2 ≤ h.authority → 4 ≤ n →
       exec (.rampHome h n) s = .next (answer h .rampHome (.refused .range none) s)))) ∧
   (∀ (s : State) (h : Header) (r : RampId), s.resetHeld = false → 2 ≤ h.authority → (s.ramps.get r).drive = none →
      (∀ target : Int, (s.rampDyn.get r).state ≠ .clearing → (s.rampDyn.get r).state ≠ .moving →
        exec (.rampMove h r.val target) s = .next (answer h .rampMove (.refused .state none) s)) ∧
      exec (.rampHome h r.val) s = .next (answer h .rampHome (.refused .state none) s))) ∧
  (∀ (s : State) (r : RampId),
     let guard := s.zoneDyn.get (s.ramps.get r).guardZone
     permissive s r = true ↔
       s.ga.active = false ∧
       (∀ n : LineId, (s.lines.get n).fn = .stopLoop → (s.lineDyn.get n).filtered = true) ∧
       s.device = .run ∧ (guard.fire = false ∨ guard.override = true) ∧
       ∃ a : Addr, (s.ramps.get r).drive = some a ∧ (s.stationDyn.get a).status = .heard ∧
         (s.stationDyn.get a).filtered.getLsbD 0 = true ∧ (s.stationDyn.get a).filtered.getLsbD 4 = false ∧
         (s.stationDyn.get a).filtered.getLsbD 3 = false)

/-- A hold, a fault, RAMP_STOP and RAMP_RELEASE of a ramp. A hold takes CLEARING and MOVING to HELD and HOMING to
UNREFERENCED, raising the held code with its cause; RAMP STOP holds with cause 7. A fault sends SPEED 0 and DISABLE,
orders the enable output off, keeps the drive and raises the fault code with its reason. Neither changes a ramp in
another state. RAMP RELEASE of a HELD ramp, or of a FAULT whose condition has gone, disables it, cancels its clearance
call and releases the drive; else it is refused STATE. A hold of all ramps holds them in index order (log entry 25).
(R146, R152, R160, R161, R162, log entry 25) -/
def Obligations.RampHoldFaultRelease : Prop :=
  (((∀ (s : State) (r : RampId) (cause : Nat) (a : Addr), (s.ramps.get r).drive = some a →
      let cfg := s.ramps.get r
      let d := s.rampDyn.get r
      let still : RampDyn := { d with vset := 0, control := .stopped, clearance := .stopped, callRef := none }
      let held (t : State) : State :=
        raiseInternal cfg.heldCode (some a) (some cfg.guardZone) (BitVec.ofNat 16 cause) t
      (d.state = .clearing ∨ d.state = .moving →
        holdRamp r cause s = held (jobCommand a [0x30#8, 0x00#8, 0x00#8]
          { s with rampDyn := Tab.put s.rampDyn r { still with state := .held } })) ∧
      (d.state = .homing →
        holdRamp r cause s = held (release a (.ramp r) (orderEnable r false
          (jobCommand a [0x32#8] (jobCommand a [0x30#8, 0x00#8, 0x00#8]
            { s with
              rampDyn := Tab.put s.rampDyn r { still with state := .unreferenced, referenced := false } }))))) ∧
      (d.state = .unreferenced ∨ d.state = .idle ∨ d.state = .held ∨ d.state = .fault → holdRamp r cause s = s)) ∧
    (∀ (s : State) (h : Header) (r : RampId), s.resetHeld = false → 1 ≤ h.authority →
      let done (st : RampState) (noEffect : Bool) : Prop := exec (.rampStop h r.val) s =
        .next (answer h .rampStop (.done (.rampState st noEffect)) (settle (holdRamp r 7 s)))
      match (s.rampDyn.get r).state with
      | .clearing | .moving => done .held false
      | .homing => done .unreferenced false
      | st => done st true) ∧
    (∀ (s : State) (h : Header) (n : Nat), s.resetHeld = false → 1 ≤ h.authority → 4 ≤ n →
      exec (.rampStop h n) s = .next (answer h .rampStop (.refused .range none) s))) ∧
   ((∀ (s : State) (r : RampId) (reason : FaultReason) (a : Addr), (s.ramps.get r).drive = some a →
      let cfg := s.ramps.get r
      let d := s.rampDyn.get r
      let number : Nat := match reason with
        | .overspeed => 1
        | .direction => 2
        | .stall => 3
        | .travel => 4
        | .driveFault => 5
        | .driveSilent => 6
      (d.state = .clearing ∨ d.state = .moving ∨ d.state = .homing →
        faultRamp r reason s =
          raiseInternal cfg.faultCode (some a) (some cfg.guardZone) (BitVec.ofNat 16 number) (orderEnable r false
            (jobCommand a [0x32#8] (jobCommand a [0x30#8, 0x00#8, 0x00#8]
              { s with
                rampDyn := Tab.put s.rampDyn r
                  { d with
                    state := .fault, fault := some reason, vset := 0, control := .stopped, clearance := .stopped
                    callRef := none, overspeed := 0, direction := 0, stall := 0 } })))) ∧
      (d.state = .unreferenced ∨ d.state = .idle ∨ d.state = .held ∨ d.state = .fault →
        faultRamp r reason s = s)) ∧
    (∀ (s : State) (h : Header) (r : RampId) (a : Addr), s.resetHeld = false → 2 ≤ h.authority →
      (s.ramps.get r).drive = some a →
      let cfg := s.ramps.get r
      let d := s.rampDyn.get r
      let gone : Prop := match d.fault with
        | some .driveFault => isHeard s a = true ∧ pointOn s a 3 = false
        | some .driveSilent => isHeard s a = true
        | some _ => vmeas d = 0
        | none => True
      let u := release a (.ramp r)
        (cancelCall (.ramp r) cfg.clearanceMsg (orderEnable r false (jobCommand a [0x32#8] s))).2
      let st : RampState := if (u.rampDyn.get r).referenced = true then .idle else .unreferenced
      (d.state = .held ∨ (d.state = .fault ∧ gone) →
        exec (.rampRelease h r.val) s = .next (answer h .rampRelease (.done (.rampState st false)) (settle
          { u with rampDyn := Tab.put u.rampDyn r { u.rampDyn.get r with state := st, fault := none } }))) ∧
      (d.state ≠ .held → (d.state = .fault → ¬gone) →
        exec (.rampRelease h r.val) s = .next (answer h .rampRelease (.refused .state none) s))) ∧
    (∀ (s : State) (h : Header) (n : Nat), s.resetHeld = false → 2 ≤ h.authority → 4 ≤ n →
      exec (.rampRelease h n) s = .next (answer h .rampRelease (.refused .range none) s)))) ∧
  (∀ (s : State) (cause : Nat),
     holdAll cause s = holdRamp 3 cause (holdRamp 2 cause (holdRamp 1 cause (holdRamp 0 cause s))))

/-- CLEARANCE_WAIT_EXPIRY, ENCODER_EDGE and CONTROL_PERIOD_EXPIRY drive a ramp's motion. The wait's expiry, or a
notice for the awaited call, takes CLEARING to MOVING. A rising A counts P by the level of B and faults a MOVING ramp
beyond its travel; that ENCODER_EDGE counts whatever level the pin was recorded at, and acts as PIN_CHANGE on any
other line, is the model's choice (log entry 8). A control period in MOVING ends the motion in the arrival window or
on LANDED, or slews Vset by at most Astep toward the target speed and sends SPEED; in HOMING it sends SPEED again;
either is then supervised by the overspeed, direction and stall counts, DIRECTION before OVERSPEED before STALL.
(R147, R148, R150, R155, R156, R157, R158, R159, log entry 8) -/
def Obligations.RampMotion : Prop :=
  ((∀ (s : State) (r : RampId) (ref : CallRef) (a : Addr), (s.ramps.get r).drive = some a →
     let cfg := s.ramps.get r
     let d := s.rampDyn.get r
     let waited (u : State) : State :=
       { u with rampDyn := Tab.put u.rampDyn r { d with callRef := none, clearance := .stopped } }
     let moving (u : State) : State :=
       { jobCommand a [0x31#8] (orderEnable r true u) with
         rampDyn := Tab.put u.rampDyn r
           { u.rampDyn.get r with
             state := .moving, vset := 0, overspeed := 0, direction := 0, stall := 0, edgeSeen := false
             control := .running (s.now + 100 * cfg.period) } }
     (d.state = .clearing → d.callRef = some ref → rampNotice r ref s = moving (waited s)) ∧
     (d.state ≠ .clearing ∨ d.callRef ≠ some ref → rampNotice r ref s = s) ∧
     (∀ due : Nat, s.resetHeld = false → d.state = .clearing → d.clearance = .running due → d.callRef = some ref →
       exec (.clearanceWaitExpiry r) s =
         .next (settle (moving (cancelCall (.ramp r) ref.message (waited s)).2))) ∧
     (s.resetHeld = false → d.state ≠ .clearing ∨ d.clearance = .stopped →
       exec (.clearanceWaitExpiry r) s = .next (settle s)))) ∧
  ((∀ d : RampDyn,
     (65535 ≤ d.meter ∨ d.lastPeriod = 65535 → vmeas d = 0) ∧
     (d.meter < 65535 → d.lastPeriod ≠ 65535 →
       vmeas d = if d.lastUp = true then ((min 10000 (100000 / d.lastPeriod) : Nat) : Int)
         else -((min 10000 (100000 / d.lastPeriod) : Nat) : Int))) ∧
   (∀ (s : State) (n : LineId) (r : RampId) (high : Bool), s.resetHeld = false →
     let cfg := s.ramps.get r
     let d := s.rampDyn.get r
     let p : Int := if d.bHigh = false then (if d.p < 32767 then d.p + 1 else 32767)
       else (if -32768 < d.p then d.p - 1 else -32768)
     let counted : State :=
       { s with
         pins := Tab.put s.pins n true
         rampDyn := Tab.put s.rampDyn r
           { d with
             p := p, lastPeriod := if d.meter = 0 then 1 else d.meter, lastUp := !d.bHigh, meter := 0
             edgeSeen := true } }
     let beyond : Prop := p > (cfg.pmax + cfg.overtravel : Nat) ∨ p < -(cfg.overtravel : Int)
     ((s.lines.get n).fn = .encoderA r → high = true → d.p ≤ 32767 → -32768 ≤ d.p →
       (d.state = .moving → beyond →
         exec (.encoderEdge n high) s = .next (settle (faultRamp r .travel counted))) ∧
       (d.state ≠ .moving ∨ ¬beyond → exec (.encoderEdge n high) s = .next (settle counted))) ∧
     ((s.lines.get n).fn = .encoderA r → high = false →
       exec (.encoderEdge n high) s = .next (settle { s with pins := Tab.put s.pins n false })) ∧
     ((s.lines.get n).fn = .encoderB r →
       exec (.encoderEdge n high) s = .next (settle
         { s with pins := Tab.put s.pins n high, rampDyn := Tab.put s.rampDyn r { d with bHigh := high } })) ∧
     ((∀ q : RampId, (s.lines.get n).fn ≠ .encoderA q ∧ (s.lines.get n).fn ≠ .encoderB q) →
       exec (.encoderEdge n high) s = exec (.pinChange n high) s))) ∧
  (∀ (s : State) (r : RampId) (a : Addr), s.resetHeld = false → (s.ramps.get r).drive = some a →
     let cfg := s.ramps.get r
     let d := s.rampDyn.get r
     let next : Timer := .running (s.now + 100 * cfg.period)
     let ended (c : Option Code) : State :=
       raiseInternal c (some a) (some cfg.guardZone) (BitVec.ofInt 16 d.p) (release a (.ramp r) (orderEnable r false
         (jobCommand a [0x32#8] (jobCommand a [0x30#8, 0x00#8, 0x00#8]
           { s with
             rampDyn := Tab.put s.rampDyn r
               { d with state := .idle, vset := 0, control := .stopped, clearance := .stopped, callRef := none } }))))
     let commanded (v : Int) : State :=
       let scaled : Nat := (1000 * v.natAbs + cfg.vmax / 2) / cfg.vmax
       jobCommand a (speedPayload (if v < 0 then -(scaled : Int) else if v = 0 then 0 else (scaled : Int)))
         { s with rampDyn := Tab.put s.rampDyn r { d with control := next, vset := v } }
     let m := vmeas d
     let fastCount (v : Int) : Nat := if v.natAbs + cfg.vtol < m.natAbs then d.overspeed + 1 else 0
     let wrongCount (v : Int) : Nat :=
       if (0 < v ∧ m < 0 ∨ v < 0 ∧ 0 < m) ∧ cfg.vtol < m.natAbs then d.direction + 1 else 0
     let stillCount (v : Int) : Nat := if cfg.vcreep ≤ v.natAbs ∧ d.edgeSeen = false then d.stall + 1 else 0
     let counted (v : Int) : State :=
       { commanded v with
         rampDyn := Tab.put s.rampDyn r
           { d with
             control := next, vset := v, overspeed := fastCount v, direction := wrongCount v, stall := stillCount v
             edgeSeen := false } }
     let supervised (v : Int) : State :=
       if 3 ≤ wrongCount v then faultRamp r .direction (counted v)
       else if 3 ≤ fastCount v then faultRamp r .overspeed (counted v)
       else if cfg.stallPeriods ≤ stillCount v then faultRamp r .stall (counted v)
       else counted v
     (d.control = .stopped → exec (.controlPeriodExpiry r) s = .next (settle s)) ∧
     (∀ due : Nat, d.control = .running due → d.state = .homing →
       exec (.controlPeriodExpiry r) s = .next (settle (supervised d.vset))) ∧
     (∀ (due : Nat) (goal : Int), d.control = .running due → d.state = .moving → d.t = some goal →
       let dist := goal - d.p
       let fast : Nat := min cfg.vmax (max cfg.vcreep (cfg.vmax * dist.natAbs / cfg.approach))
       let target : Int := if dist < 0 then -(fast : Int) else (fast : Int)
       let v : Int := if d.vset < target then min target (d.vset + cfg.astep)
         else if target < d.vset then max target (d.vset - cfg.astep) else d.vset
       (dist.natAbs ≤ cfg.window →
         exec (.controlPeriodExpiry r) s = .next (settle (ended cfg.arrivedCode))) ∧
       (cfg.window < dist.natAbs → 0 < dist → pointOn s a 2 = true →
         exec (.controlPeriodExpiry r) s = .next (settle (ended cfg.landedCode))) ∧
       (cfg.window < dist.natAbs → dist < 0 ∨ pointOn s a 2 = false →
         exec (.controlPeriodExpiry r) s = .next (settle (supervised v)))))

/-- A counter rises modulo 2^32 and makes its marks; QUALITY_WINDOW_END grades a deck line. A rise to 2147483648 or
above makes a half mark, a rise past 4294967295 a full mark, and an unmasked mark raises the set's code with detail
4096 × mark + 256 × set + counter. At a window's end a GOOD line at its threshold becomes DEGRADED, its single-homed
stations' copies invalidated; three clean windows in a row make it GOOD; each change raises the quality code; the next
window starts with the Device Record's length and threshold. Those copies are the ones LineStates names. (R165, R166,
R169, R170, R50) -/
def Obligations.CountersAndQuality : Prop :=
  (∀ (s : State) (set : CounterSet) (i : CounterId) (n : Nat), n < 4294967296 →
     let old := ((s.counters.at set).get i).toNat
     let risen : State :=
       { s with counters := s.counters.put set (Tab.put (s.counters.at set) i (BitVec.ofNat 32 (old + n))) }
     let mask := (s.record.markMasks.at set).get i
     let number : Nat := match set with
       | .deckA => 0
       | .deckB => 1
       | .bridge => 2
       | .global => 3
     let marked (mark : Nat) : State :=
       match s.record.counterCode.at set with
       | none => risen
       | some c => raiseCode
         ⟨c, ⟨.internal, none, none, BitVec.ofNat 16 (4096 * mark + 256 * number + i.val)⟩, false⟩ risen
     (4294967296 ≤ old + n → bump set i n s = if mask.full = true then risen else marked 2) ∧
     (old < 2147483648 → 2147483648 ≤ old + n → old + n < 4294967296 →
       bump set i n s = if mask.half = true then risen else marked 1) ∧
     (old + n < 2147483648 ∨ (2147483648 ≤ old ∧ old + n < 4294967296) → bump set i n s = risen)) ∧
  (∀ (s : State) (d : Deck), s.resetHeld = false →
     let m := s.quality.at d
     let q := s.record.quality.at d
     let base : Nat := match d with
       | .a => 0
       | .b => 16
     let graded (g : Grade) (run : Nat) : State :=
       { s with
         quality := s.quality.put d
           { grade := g, window := .running (s.now + 100 * q.windowLength) q.threshold, count := 0, cleanRun := run } }
     let raised (detail : Nat) (t : State) : State :=
       match q.code with
       | none => t
       | some c => raiseCode ⟨c, ⟨.internal, none, none, BitVec.ofNat 16 (base + detail)⟩, false⟩ t
     (m.window = .stopped → exec (.qualityWindowEnd d) s = .next (settle s)) ∧
     (∀ due threshold : Nat, m.window = .running due threshold →
       (m.grade = .good → threshold ≤ m.count →
         exec (.qualityWindowEnd d) s = .next (settle (raised 1
           { graded .degraded 0 with
             mirror := Tab.of fun i =>
               if isOnDeck s d i then { s.mirror.get i with valid := false } else s.mirror.get i }))) ∧
       (m.grade = .good → m.count < threshold →
         exec (.qualityWindowEnd d) s = .next (settle (graded .good m.cleanRun))) ∧
       (m.grade = .degraded → m.count = 0 → 2 ≤ m.cleanRun →
         exec (.qualityWindowEnd d) s = .next (settle (raised 2 (graded .good 0)))) ∧
       (m.grade = .degraded → m.count = 0 → m.cleanRun < 2 →
         exec (.qualityWindowEnd d) s = .next (settle (graded .degraded (m.cleanRun + 1)))) ∧
       (m.grade = .degraded → 0 < m.count →
         exec (.qualityWindowEnd d) s = .next (settle (graded .degraded 0)))))

/-- COUNTER_READ answers up to six counters and, with clear, sets those to 0. Without clear it needs authority 0 and
changes nothing; with clear it needs authority 3, each counter returned is 0 afterwards, the others keep their values,
and no mark is made; at a lower authority it is refused AUTHORITY. The reply holds the set, the first number and
counters first to first + 5, or to 12. A set outside the four and a first number above 12 are refused RANGE. It is
taken in every device state. (R167) -/
def Obligations.CounterReadAndClear : Prop :=
  (∀ (s : State) (h : Header) (set : CounterSet) (first : CounterId), s.resetHeld = false →
    let chosen (j : CounterId) : Prop := first.val ≤ j.val ∧ j.val ≤ first.val + 5
    let values := ((List.finRange 13).filter fun j => first ≤ j && decide (j.val ≤ first.val + 5)).map
      fun j => (s.counters.at set).get j
    exec (.counterRead h (some set) first.val false) s =
      .next (answer h .counterRead (.done (.counters set first.val values)) (settle s)) ∧
    (h.authority < 3 → exec (.counterRead h (some set) first.val true) s =
      .next (answer h .counterRead (.refused .authority none) s)) ∧
    (3 ≤ h.authority → ∃ t : State,
      exec (.counterRead h (some set) first.val true) s =
        .next (answer h .counterRead (.done (.counters set first.val values)) (settle t)) ∧
      t = { s with counters := t.counters } ∧
      (∀ j : CounterId, chosen j → (t.counters.at set).get j = 0) ∧
      (∀ j : CounterId, ¬chosen j → (t.counters.at set).get j = (s.counters.at set).get j) ∧
      (∀ other : CounterSet, other ≠ set → t.counters.at other = s.counters.at other))) ∧
  (∀ (s : State) (h : Header) (set : Option CounterSet) (first : Nat) (clear : Bool), s.resetHeld = false →
    set = none ∨ 13 ≤ first → (clear = true → 3 ≤ h.authority) →
    exec (.counterRead h set first clear) s = .next (answer h .counterRead (.refused .range none) s))

/-- POWER_ON and RESET_ASSERTION put every block in its power-on state; while RESET is asserted nothing else acts.
After POWER_ON the device is in CONFIG, the bridge-loss time is the one the strap pins select, the ports are DOWN with
empty queues, every station UNUSED, FREE and HEARD, the mirror invalid, every line an UNASSIGNED input, no output
energised, the channels STOPPED, codes 0 to 2 alone present, the alert stores empty, the zones OPEN, no call, the
lines FAULT, the ramps UNREFERENCED, the counters 0, the grades GOOD; RESET_ASSERTION leaves the same with RESET held.
The levels of the pins and the commands waiting stand outside the part and stay. While RESET is held only POWER_ON,
RESET_ASSERTION and the pins' levels change anything (log entry 10). (R177, R17, R41, R53, R62, R68, R96, R122, R142,
R163, R176, log entry 10) -/
def Obligations.PowerOnAndReset : Prop :=
  (∀ (s : State) (first second : Bool), ∃ t : State,
    exec (.powerOn first second) s = .next t ∧
    exec .resetAssertion { s with straps := ⟨first, second⟩ } = .next { t with resetHeld := true } ∧
    t.pending = s.pending ∧ t.pins = s.pins ∧ t.resetHeld = false ∧ t.straps = ⟨first, second⟩ ∧ t.now = 0 ∧
    t.device = .config ∧ t.bridgeLoss = .stopped ∧ t.supervisionDue = 10000 ∧
    t.record.bridgeLossTime =
      (if first = true then if second = true then 40 else 5 else if second = true then 20 else 10) ∧
    t.record.ackLimit = 20 ∧ t.record.lineFaultCode = none ∧
    (∀ set : CounterSet, t.record.counterCode.at set = none ∧
      ∀ i : CounterId, (t.record.markMasks.at set).get i = ⟨true, true⟩ ∧ (t.counters.at set).get i = 0) ∧
    (∀ d : Deck, t.record.quality.at d = ⟨1000, 16, none⟩ ∧ t.quality.at d = ⟨.good, .stopped, 0, 0⟩) ∧
    (∀ p : Port, t.port p = ⟨false, [], [], none⟩) ∧
    (∀ a : Addr, t.stations.get a = ⟨.unused, none, .a, true, .forward, false, 10, 0, 0, none, []⟩ ∧
      t.stationDyn.get a = ⟨0, 0, 0, 0, .ok, none, 0, .heard⟩ ∧ t.owners.get a = .free) ∧
    (∀ c : Code, t.mapCounts.get c = 0 ∧ t.lineCounts.get c = 0 ∧
      t.codes.get c = ⟨false, false, false, ⟨.internal, none, none, 0⟩, none⟩ ∧
      (3 ≤ c.val → t.vectors.get c = ⟨false, .hold, 0, .edge, false, 3, .zoneCloseRoutine 0⟩) ∧
      (c.val < 3 → (t.vectors.get c).present = true ∧ (t.vectors.get c).gate = .hold ∧
        (t.vectors.get c).level = if c.val = 0 then 16 else 15)) ∧
    (∀ i : Fin 64, t.mirror.get i = ⟨false, 0, 0, .ok, none, 0, .state⟩) ∧
    (∀ n : LineId, t.lines.get n = ⟨.unassigned, true, true, 0, none⟩ ∧ t.outputs.get n = false ∧
      (t.lineDyn.get n).reading = s.pins.get n ∧ (t.lineDyn.get n).filtered = s.pins.get n) ∧
    (∀ ch : ChannelId, t.timers.get ch = ⟨.interval, .s1, 1, none, none⟩ ∧ (t.timerDyn.get ch).running = false ∧
      (t.timerDyn.get ch).count = 0) ∧
    t.alerts = ⟨[], [], 0, none, none⟩ ∧ t.ga = ⟨false, none⟩ ∧ t.calls = [] ∧
    (∀ z : ZoneId, t.zones.get z = ⟨none, 0, 0, 0, 30, 10, false, 60, none, none, none, none, 4, 12⟩ ∧
      t.zoneDyn.get z =
        { state := .opened, cause := .none, fire := false, override := false, clear := false, remaining := 0
          secondDue := 0, awaitingClear := false, callRef := none, callWait := .stopped } ∧
      t.zoneLines.get z = ⟨.fault, none, .stopped, .stopped, .stopped⟩) ∧
    (∀ d : DoorId, t.doors.get d = ⟨none, 0, 30, 2, 5⟩ ∧
      t.doorDyn.get d = ⟨.unknown, .none, .stopped, .stopped, 0, false, .no, false⟩) ∧
    (∀ m : MsgId, t.messages.get m = ⟨false, 60, false, 5⟩) ∧
    ∀ r : RampId,
      t.ramps.get r =
        { drive := none, guardZone := 0, enableLine := none, pmax := 20000, window := 8, approach := 1000, vmax := 400
          vcreep := 40, astep := 20, period := 20, vtol := 60, stallPeriods := 10, clearanceMsg := 0
          clearancePriority := 6, overtravel := 50, arrivedCode := none, landedCode := none, heldCode := none
          faultCode := none } ∧
      t.rampDyn.get r =
        { state := .unreferenced, referenced := false, p := 0, t := none, vset := 0, bHigh := false, meter := 65535
          lastPeriod := 65535, lastUp := true, edgeSeen := false, overspeed := 0, direction := 0, stall := 0
          fault := none, callRef := none, clearance := .stopped, control := .stopped }) ∧
  (∀ (s : State) (c : Instr), s.resetHeld = true →
    match c with
    | .powerOn _ _ | .resetAssertion => True
    | .pinChange n high | .encoderEdge n high =>
      ∃ t : State, exec c s = .next t ∧ t.pins = Tab.put s.pins n high ∧ t.resetHeld = true
    | _ => exec c s = .next s)

/-- The consistency check passes exactly when every record passes its tests, and reports the first failure. The check
passes when message 0 is in use and every door, zone, ramp, line and DISPATCH vector entry passes the tests of the
table. Else it reports the table, the index and the number of the first test that fails: message 0 (test 1), then the
doors (2, 3), the zones (4 to 7), the ramps (8 to 12), the lines (13) and the vector entries (14), each table in order
of index and each record in order of test. (R179) -/
def Obligations.ConsistencyCheckTests : Prop :=
  ∀ s : State,
    let used (m : MsgId) : Prop := (s.messages.get m).inUse = true
    let function (n : LineId) : LineFn := (s.lines.get n).fn
    let rampUsed (r : RampId) : Prop := (s.ramps.get r).drive ≠ none
    let door2 (d : DoorId) (a : Addr) : Prop :=
      (s.stations.get a).role = .door ∧ (s.stations.get a).zone = some (s.doors.get d).zone
    let door3 (d : DoorId) (a : Addr) : Prop := ∀ e : DoorId, e < d → (s.doors.get e).station ≠ some a
    let zone4 (z : ZoneId) : Prop := (members s z).length ≤ 6
    let zone5 (z : ZoneId) : Prop := ∀ a : Addr, (s.zones.get z).amplifier = some a →
      (s.stations.get a).role = .amplifier ∧ ∀ y : ZoneId, y < z → (s.zones.get y).amplifier ≠ some a
    let zone6 (z : ZoneId) : Prop := ∀ n : LineId, (s.zones.get z).doorHold = some n → function n = .doorHold z
    let zone7 (z : ZoneId) : Prop :=
      used (s.zones.get z).warningMsg ∧ used (s.zones.get z).fireMsg ∧ used (s.zones.get z).openMsg
    let ramp8 (r : RampId) (a : Addr) : Prop :=
      (s.stations.get a).role = .rampDrive ∧ ∀ q : RampId, q < r → (s.ramps.get q).drive ≠ some a
    let ramp9 (r : RampId) : Prop := (∃! n : LineId, function n = .encoderA r) ∧ ∃! n : LineId, function n = .encoderB r
    let ramp10 (r : RampId) : Prop :=
      ∃ n : LineId, (s.ramps.get r).enableLine = some n ∧ ∀ m : LineId, function m = .rampEnable r ↔ m = n
    let ramp11 (r : RampId) : Prop :=
      (s.ramps.get r).vcreep ≤ (s.ramps.get r).vmax ∧ (s.ramps.get r).astep ≤ (s.ramps.get r).vmax
    let ramp12 (r : RampId) : Prop := used (s.ramps.get r).clearanceMsg
    let line13 (n : LineId) : Prop := match function n with
      | .encoderA r | .encoderB r | .rampEnable r => rampUsed r
      | .doorHold z => (s.zones.get z).doorHold = some n
      | _ => True
    let vector14 (c : Code) : Prop :=
      3 ≤ c.val → (s.vectors.get c).present = true → (s.vectors.get c).gate = .dispatch →
        match (s.vectors.get c).target with
        | .rampHold (some r) => rampUsed r
        | .call m _ _ _ => used m
        | _ => True
    let doorOk (d : DoorId) : Prop := ∀ a : Addr, (s.doors.get d).station = some a → door2 d a ∧ door3 d a
    let zoneOk (z : ZoneId) : Prop := zone4 z ∧ zone5 z ∧ zone6 z ∧ zone7 z
    let rampOk (r : RampId) : Prop := ∀ a : Addr, (s.ramps.get r).drive = some a →
      ramp8 r a ∧ ramp9 r ∧ ramp10 r ∧ ramp11 r ∧ ramp12 r
    let reports (t : TableName) (i test : Nat) : Prop := checkTables s = some ⟨t, i, test⟩
    (checkTables s = none ↔ used 0 ∧ (∀ d : DoorId, doorOk d) ∧ (∀ z : ZoneId, zoneOk z) ∧
      (∀ r : RampId, rampOk r) ∧ (∀ n : LineId, line13 n) ∧ ∀ c : Code, vector14 c) ∧
    (¬used 0 → reports .message 0 1) ∧
    (∀ (d : DoorId) (a : Addr), used 0 → (∀ e : DoorId, e < d → doorOk e) → (s.doors.get d).station = some a →
      (¬door2 d a → reports .door d.val 2) ∧ (door2 d a → ¬door3 d a → reports .door d.val 3)) ∧
    (∀ z : ZoneId, used 0 → (∀ d : DoorId, doorOk d) → (∀ y : ZoneId, y < z → zoneOk y) →
      (¬zone4 z → reports .zone z.val 4) ∧ (zone4 z → ¬zone5 z → reports .zone z.val 5) ∧
      (zone4 z → zone5 z → ¬zone6 z → reports .zone z.val 6) ∧
      (zone4 z → zone5 z → zone6 z → ¬zone7 z → reports .zone z.val 7)) ∧
    (∀ (r : RampId) (a : Addr), used 0 → (∀ d : DoorId, doorOk d) → (∀ z : ZoneId, zoneOk z) →
      (∀ q : RampId, q < r → rampOk q) → (s.ramps.get r).drive = some a →
      (¬ramp8 r a → reports .ramp r.val 8) ∧ (ramp8 r a → ¬ramp9 r → reports .ramp r.val 9) ∧
      (ramp8 r a → ramp9 r → ¬ramp10 r → reports .ramp r.val 10) ∧
      (ramp8 r a → ramp9 r → ramp10 r → ¬ramp11 r → reports .ramp r.val 11) ∧
      (ramp8 r a → ramp9 r → ramp10 r → ramp11 r → ¬ramp12 r → reports .ramp r.val 12)) ∧
    (∀ n : LineId, used 0 → (∀ d : DoorId, doorOk d) → (∀ z : ZoneId, zoneOk z) → (∀ r : RampId, rampOk r) →
      (∀ m : LineId, m < n → line13 m) → ¬line13 n → reports .line n.val 13) ∧
    (∀ c : Code, used 0 → (∀ d : DoorId, doorOk d) → (∀ z : ZoneId, zoneOk z) → (∀ r : RampId, rampOk r) →
      (∀ n : LineId, line13 n) → (∀ b : Code, b < c → vector14 b) → ¬vector14 c → reports .vector c.val 14)

/-- TABLE_READ and STATUS_READ change nothing but the reply; every request is answered DONE or REFUSED, and one
refused changes nothing but the reply. TABLE READ answers the record and dynamic state of the row, STATUS READ the
items that R182's table lists for the section, as they stand; an index, table or section out of range is refused
RANGE. Every request is answered once under its name, REFUSED from the state as it was or DONE. A request below its
authority is refused AUTHORITY; one taken in service only is refused STATE in CONFIG, unless an index is out of range.
A MGMT frame to destination 0 is served as the request its payload spells up to the last parameter, the bytes after it
ignored, and refused UNKNOWN under the name it carries when it spells none; which request and name a payload spells is
a free value (log entry 1), and the reply follows the judgement (log entry 5). The items that TABLE READ shows beyond
those its rules name are the model's choice (log entry 39). (R26, R173, R174, R175, R177, R182, log entry 1, log entry
5, log entry 39) -/
def Obligations.ReadsAndRefusals : Prop :=
  (∀ (s : State) (h : Header), s.resetHeld = false →
     let row (t : TableName) (i : Nat) (d : Data) : Prop :=
       exec (.tableRead h (some t) i) s = .next (answer h .tableRead (.done d) (settle s))
     let noRow (t : Option TableName) (i : Nat) : Prop :=
       exec (.tableRead h t i) s = .next (answer h .tableRead (.refused .range none) s)
     let shown (part : Section) (first : Nat) (d : Data) : Prop :=
       exec (.statusRead h (some part) first) s = .next (answer h .statusRead (.done d) (settle s))
     let notShown (part : Option Section) (first : Nat) : Prop :=
       exec (.statusRead h part first) s = .next (answer h .statusRead (.refused .range none) s)
     ((∀ a : Addr, row .station (a.val + 1) (.stationRow (s.stations.get a) (s.stationDyn.get a) (s.owners.get a))) ∧
       (∀ z : ZoneId, row .zone z.val (.zoneRow (s.zones.get z) (s.zoneDyn.get z))) ∧
       (∀ d : DoorId, row .door d.val (.doorRow (s.doors.get d) (s.doorDyn.get d))) ∧
       (∀ r : RampId, row .ramp r.val (.rampRow (s.ramps.get r) (s.rampDyn.get r) (vmeas (s.rampDyn.get r)))) ∧
       (∀ n : LineId,
         let fn := (s.lines.get n).fn
         (fn.isInput = true → row .line n.val
           (.lineRow (s.lines.get n) (.input (s.lineDyn.get n).reading (s.lineDyn.get n).filtered))) ∧
         (fn.isOutput = true → row .line n.val (.lineRow (s.lines.get n) (.output (s.outputs.get n)))) ∧
         (fn.isInput = false → fn.isOutput = false →
           row .line n.val (.lineRow (s.lines.get n) (.encoder (s.pins.get n))))) ∧
       (∀ ch : ChannelId, row .timer ch.val (.timerRow (s.timers.get ch) (s.timerDyn.get ch))) ∧
       (∀ c : Code, ∃ held : Bool, row .vector c.val (.vectorRow (s.vectors.get c) (s.codes.get c).latch
           ((s.codes.get c).mapCond || (s.codes.get c).lineCond) (isPending s c) held) ∧
         (held = true ↔ if c.val = 0 then s.alerts.gaSlot ≠ none else isHeld s c = true)) ∧
       (∀ m : MsgId, row .message m.val (.messageRow (s.messages.get m) (s.calls.countP (·.message = m)))) ∧
       (∀ i : Nat, row .device i (.deviceRow s.record)) ∧
       (∀ i : Nat, noRow none i ∧ (i = 0 ∨ 255 ≤ i → noRow (some .station) i) ∧
         (8 ≤ i → noRow (some .zone) i ∧ noRow (some .timer) i) ∧ (24 ≤ i → noRow (some .door) i) ∧
         (4 ≤ i → noRow (some .ramp) i) ∧ (16 ≤ i → noRow (some .line) i) ∧ (64 ≤ i → noRow (some .vector) i) ∧
         (256 ≤ i → noRow (some .message) i))) ∧
     (∀ first : Nat,
       let pending := (List.finRange 64).filter fun c => isPending s c
       let alert (r : AlertRecord) : RecordView := ⟨r.code, r.level, r.attrs, r.overdue⟩
       let zone (z : ZoneId) : ZoneView :=
         let d := s.zoneDyn.get z
         ⟨d.state, d.cause, d.fire, d.override, d.clear, d.awaitingClear, d.remaining⟩
       let door (d : DoorId) : DoorView :=
         let x := s.doorDyn.get d
         ⟨x.state, x.command, x.obstructions⟩
       let call (c : CallRecord) : CallView :=
         ⟨c.origin, c.message, c.zones, c.priority, c.repeats, c.left, c.state, c.incomplete, c.preempted⟩
       let line (z : ZoneId) : ZoneLineState × Option Nat :=
         ((s.zoneLines.get z).state, (s.zoneLines.get z).carried.map fun k => s.calls.findIdx (·.stamp == k))
       shown .device first (.statusDevice
         { device := s.device, al := s.alerts.al, gaActive := s.ga.active, gaSlot := s.alerts.gaSlot.isSome
           remembered := s.ga.remembered.isSome, escalation := s.alerts.escalation.isSome
           up := ⟨(s.port .deckA).up, (s.port .deckB).up, (s.port .bridge).up⟩
           grade := ⟨(s.quality.at .a).grade, (s.quality.at .b).grade⟩, bridgeLoss := s.bridgeLoss
           pending := pending.length, stack := s.alerts.stack.length, pass := s.alerts.pass.length
           calls := s.calls.length }) ∧
       shown .pending first (.statusPending pending) ∧
       shown .stack first (.statusStack (s.alerts.stack.map alert) (s.alerts.gaSlot.map alert)
         (s.alerts.escalation.map alert)) ∧
       shown .lines first (.statusLines ((List.finRange 8).map line)) ∧
       (first < 8 → shown .pass first (.statusPass (((s.alerts.pass.map alert).drop first).take 4)) ∧
         shown .zones first (.statusZones ((((List.finRange 8).map zone).drop first).take 4))) ∧
       (first < 24 →
         shown .doors first (.statusDoors ((((List.finRange 24).map door).drop first).take 8))) ∧
       (∀ r : RampId, first = r.val → shown .ramps first (.statusRamp
         (let d := s.rampDyn.get r
          ⟨d.state, d.referenced, d.p, d.t, d.vset, vmeas d, d.fault⟩))) ∧
       (first < 16 → shown .calls first (.statusCalls (((s.calls.map call).drop first).take 3))) ∧
       notShown none first ∧ (8 ≤ first → notShown (some .pass) first ∧ notShown (some .zones) first) ∧
       (24 ≤ first → notShown (some .doors) first) ∧ (4 ≤ first → notShown (some .ramps) first) ∧
       (16 ≤ first → notShown (some .calls) first))) ∧
  ((∀ (s : State) (h : Header) (q : Request), s.resetHeld = false →
     (h.authority < leastAuthority q →
       exec (requestInstr h q) s = .next (answer h (requestName q) (.refused .authority none) s)) ∧
     (leastAuthority q ≤ h.authority → s.device = .config → needsService q = true →
       exec (requestInstr h q) s = .next (answer h (requestName q) (.refused .state none) s) ∨
       exec (requestInstr h q) s = .next (answer h (requestName q) (.refused .range none) s))) ∧
   (∀ (s : State) (h : Header) (q : Request), s.resetHeld = false →
     (∃ (reason : Reason) (failure : Option CheckFailure),
       exec (requestInstr h q) s = .next (answer h (requestName q) (.refused reason failure) s)) ∨
     ∃ (t : State) (d : Data), exec (requestInstr h q) s = .next (answer h (requestName q) (.done d) (settle t))) ∧
   (∀ (s : State) (f : Frame) (rest : List Frame), s.resetHeld = false → (s.port .bridge).rx = f :: rest →
     f.destination = 0x00#8 → f.kind = 0x07#8 →
     let taken : State := { s with ports := s.ports.put .bridge { s.port .bridge with rx := rest } }
     (∀ (authority : Nat) (q : Request) (u : State), readRequest f.payload = some (authority, q) →
       exec (requestInstr ⟨f.source, f.tag, authority⟩ q) taken = .next u →
       exec .bridgeFrameTaken s = .next (settle u)) ∧
     (readRequest f.payload = none →
       exec .bridgeFrameTaken s =
         .next (settle (answer ⟨f.source, f.tag, 0⟩ (readName f.payload) (.refused .unknown none) taken)))) ∧
   (∀ (p trailing : List Byte) (authority : Nat) (q : Request), readRequest p = some (authority, q) →
     readRequest (p ++ trailing) = some (authority, q) ∧
     ∃ n : Nat, n ≤ p.length ∧ Config.mgmtRequest (p.take n) = some (authority, q) ∧
       ∀ m : Nat, m < n → Config.mgmtRequest (p.take m) = none) ∧
   (∀ p : List Byte, (readRequest p = none ↔ ∀ n : Nat, Config.mgmtRequest (p.take n) = none) ∧
     ((∀ n : Nat, Config.mgmtName (p.take n) = none) → readName p = .unknown)) ∧
   (∀ (p : List Byte) (n : Nat) (name : ReqName), Config.mgmtName (p.take n) = some name →
     (∀ m : Nat, m < n → Config.mgmtName (p.take m) = none) → readName p = name))

/-- ZONE_WRITE, DOOR_WRITE, RAMP_WRITE, MESSAGE_WRITE and DEVICE_WRITE store their clamped values or are refused. In
CONFIG a ZONE, DOOR or RAMP write stores the record with every setting clamped, a zone's line set afresh, a door's
items at power-on, a HELD or FAULT ramp released; in service they are refused STATE. A MESSAGE write is refused STATE
for taking message 0 out of use in service and BUSY while a call names it. A DEVICE write stores one clamped field; in
service only the bridge-loss time and the ack limit. Indexes out of range are refused RANGE. Nothing else changes but
as log entry 26 says. (R98, R99, R124, R142, R143, R175, R176, log entry 26) -/
def Obligations.TableWrites : Prop :=
  ((∀ (s : State) (h : Header) (z : ZoneId) (f : ZoneFields), s.resetHeld = false → 3 ≤ h.authority →
     let outside : Prop := (∃ a : Nat, f.amplifier = some a ∧ (a = 0 ∨ 255 ≤ a)) ∨ 256 ≤ f.warningMsg ∨
       256 ≤ f.fireMsg ∨ 256 ≤ f.openMsg ∨ (∃ n : Nat, f.doorHold = some n ∧ 16 ≤ n) ∨
       ∃ c : Nat, 64 ≤ c ∧ (f.fireCode = some c ∨ f.closedCode = some c ∨ f.partialCode = some c)
     let refused (i : Nat) (reason : Reason) : Prop :=
       exec (.zoneWrite h i f) s = .next (answer h .zoneWrite (.refused reason none) s)
     (∀ i : Nat, 8 ≤ i → refused i .range) ∧ (outside → refused z.val .range) ∧
     (¬outside → s.device ≠ .config → refused z.val .state) ∧
     (¬outside → s.device = .config → ∃ r : ZoneRecord,
       (r.amplifier.map fun a => a.val + 1) = f.amplifier ∧ r.warningMsg.val = f.warningMsg ∧
       r.fireMsg.val = f.fireMsg ∧ r.openMsg.val = f.openMsg ∧ r.routineWarn = min 600 (max 5 f.routineWarn) ∧
       r.fireWarn = min 60 f.fireWarn ∧ r.clearRequired = f.clearRequired ∧
       r.callWait = min 300 (max 10 f.callWait) ∧ (r.doorHold.map fun n => n.val) = f.doorHold ∧
       (r.fireCode.map fun c => c.val) = f.fireCode ∧ (r.closedCode.map fun c => c.val) = f.closedCode ∧
       (r.partialCode.map fun c => c.val) = f.partialCode ∧ r.routinePriority = min 15 f.routinePriority ∧
       r.firePriority = min 15 f.firePriority ∧
       let st : ZoneLineState := match r.amplifier with
         | none => .fault
         | some a => if isHeard s a = true ∧ pointOn s a 1 = false then .free else .fault
       exec (.zoneWrite h z.val f) s = .next (answer h .zoneWrite (.done (.zoneStored r)) (settle
         { s with
           zones := Tab.put s.zones z r
           zoneLines := Tab.put s.zoneLines z ⟨st, none, .stopped, .stopped, .stopped⟩ })))) ∧
   (∀ (s : State) (h : Header) (d : DoorId) (f : DoorFields), s.resetHeld = false → 3 ≤ h.authority →
     let outside : Prop := (∃ a : Nat, f.station = some a ∧ (a = 0 ∨ 255 ≤ a)) ∨ 8 ≤ f.zone
     let refused (i : Nat) (reason : Reason) : Prop :=
       exec (.doorWrite h i f) s = .next (answer h .doorWrite (.refused reason none) s)
     (∀ i : Nat, 24 ≤ i → refused i .range) ∧ (outside → refused d.val .range) ∧
     (¬outside → s.device ≠ .config → refused d.val .state) ∧
     (¬outside → s.device = .config → ∃ (r : DoorRecord) (t : State),
       (r.station.map fun a => a.val + 1) = f.station ∧ r.zone.val = f.zone ∧
       r.closeLimit = min 120 (max 5 f.closeLimit) ∧ r.retryLimit = min 7 f.retryLimit ∧
       r.retryInterval = min 30 (max 2 f.retryInterval) ∧
       exec (.doorWrite h d.val f) s = .next (answer h .doorWrite (.done (.doorStored r)) (settle t)) ∧
       t = { s with
         doors := Tab.put s.doors d r
         doorDyn := Tab.put s.doorDyn d ⟨.unknown, .none, .stopped, .stopped, 0, false, .no, false⟩
         zoneDyn := t.zoneDyn } ∧
       (∀ z : ZoneId, (z = r.zone ∨ z = (s.doors.get d).zone) → (s.zoneDyn.get z).state.isRest = true →
         t.zoneDyn.get z = { s.zoneDyn.get z with state := restState t z }) ∧
       (∀ z : ZoneId, (z ≠ r.zone ∧ z ≠ (s.doors.get d).zone) ∨ (s.zoneDyn.get z).state.isRest = false →
         t.zoneDyn.get z = s.zoneDyn.get z)))) ∧
  ((∀ (s : State) (h : Header) (r : RampId) (f : RampFields), s.resetHeld = false → 3 ≤ h.authority →
     let outside : Prop := (∃ a : Nat, f.drive = some a ∧ (a = 0 ∨ 255 ≤ a)) ∨ 8 ≤ f.guardZone ∨
       (∃ n : Nat, f.enableLine = some n ∧ 16 ≤ n) ∨ 256 ≤ f.clearanceMsg ∨
       ∃ c : Nat, 64 ≤ c ∧ (f.arrivedCode = some c ∨ f.landedCode = some c ∨ f.heldCode = some c ∨
         f.faultCode = some c)
     let d := s.rampDyn.get r
     let stands : Prop := d.state = .held ∨ d.state = .fault
     let refused (i : Nat) (reason : Reason) : Prop :=
       exec (.rampWrite h i f) s = .next (answer h .rampWrite (.refused reason none) s)
     (∀ i : Nat, 4 ≤ i → refused i .range) ∧ (outside → refused r.val .range) ∧
     (¬outside → s.device ≠ .config → refused r.val .state) ∧
     (¬outside → s.device = .config → ∃ cfg : RampRecord,
       (cfg.drive.map fun a => a.val + 1) = f.drive ∧ cfg.guardZone.val = f.guardZone ∧
       (cfg.enableLine.map fun n => n.val) = f.enableLine ∧ cfg.pmax = min 30000 (max 1 f.pmax) ∧
       cfg.window = min 255 (max 1 f.window) ∧ cfg.approach = min 30000 (max 1 f.approach) ∧
       cfg.vmax = min 2000 (max 1 f.vmax) ∧ cfg.vcreep = min 2000 (max 1 f.vcreep) ∧
       cfg.astep = min 2000 (max 1 f.astep) ∧ cfg.period % 10 = 0 ∧ 10 ≤ cfg.period ∧ cfg.period ≤ 100 ∧
       (10 ≤ f.period → f.period ≤ 100 → f.period ≤ cfg.period ∧ cfg.period < f.period + 10) ∧
       (f.period < 10 → cfg.period = 10) ∧ (100 < f.period → cfg.period = 100) ∧
       cfg.vtol = min 2000 (max 1 f.vtol) ∧ cfg.stallPeriods = min 50 (max 1 f.stallPeriods) ∧
       cfg.clearanceMsg.val = f.clearanceMsg ∧ cfg.clearancePriority = min 15 f.clearancePriority ∧
       cfg.overtravel = min 255 f.overtravel ∧ (cfg.arrivedCode.map fun c => c.val) = f.arrivedCode ∧
       (cfg.landedCode.map fun c => c.val) = f.landedCode ∧ (cfg.heldCode.map fun c => c.val) = f.heldCode ∧
       (cfg.faultCode.map fun c => c.val) = f.faultCode ∧
       (¬stands → exec (.rampWrite h r.val f) s = .next (answer h .rampWrite (.done (.rampStored cfg)) (settle
         { s with ramps := Tab.put s.ramps r cfg }))) ∧
       (stands → exec (.rampWrite h r.val f) s = .next (answer h .rampWrite (.done (.rampStored cfg)) (settle
         { orderEnable r false s with
           ramps := Tab.put s.ramps r cfg
           rampDyn := Tab.put s.rampDyn r
             { d with
               state := if d.referenced = true then .idle else .unreferenced
               fault := none, t := none, overspeed := 0, direction := 0, stall := 0 } }))))) ∧
   (∀ (s : State) (h : Header) (m : MsgId) (f : MessageFields), s.resetHeld = false → 3 ≤ h.authority →
     let r : MessageRecord := ⟨f.inUse, min 600 (max 1 f.durationLimit), f.chime, min 30 f.repeatGap⟩
     let silenced : Prop := s.device ≠ .config ∧ m = 0 ∧ f.inUse = false
     let named : Prop := ∃ c ∈ s.calls, c.message = m
     let refused (i : Nat) (reason : Reason) : Prop :=
       exec (.messageWrite h i f) s = .next (answer h .messageWrite (.refused reason none) s)
     (∀ i : Nat, 256 ≤ i → refused i .range) ∧ (silenced → refused m.val .state) ∧
     (¬silenced → named → refused m.val .busy) ∧
     (¬silenced → ¬named → exec (.messageWrite h m.val f) s =
       .next (answer h .messageWrite (.done (.messageStored r))
         (settle { s with messages := Tab.put s.messages m r })))) ∧
   (∀ (s : State) (h : Header), s.resetHeld = false → 3 ≤ h.authority →
     let stored (f : DeviceField) (rec : DeviceRecord) : Prop :=
       exec (.deviceWrite h f) s = .next (answer h .deviceWrite (.done (.deviceStored rec))
         (settle { s with record := rec }))
     let inConfig (f : DeviceField) (rec : DeviceRecord) : Prop :=
       (s.device = .config → stored f rec) ∧
       (s.device ≠ .config → exec (.deviceWrite h f) s =
         .next (answer h .deviceWrite (.refused .state none) s))
     let outside (f : DeviceField) : Prop :=
       exec (.deviceWrite h f) s = .next (answer h .deviceWrite (.refused .range none) s)
     (∀ v : Nat, stored (.bridgeLossTime v) { s.record with bridgeLossTime := min 60 (max 1 v) } ∧
       stored (.ackLimit v) { s.record with ackLimit := min 120 (max 2 v) }) ∧
     (∀ c : Code, inConfig (.lineFaultCode (some c.val)) { s.record with lineFaultCode := some c }) ∧
     inConfig (.lineFaultCode none) { s.record with lineFaultCode := none } ∧
     (∀ (set : CounterSet) (c : Code), inConfig (.counterCode (some set) (some c.val))
       { s.record with counterCode := s.record.counterCode.put set (some c) }) ∧
     (∀ set : CounterSet, inConfig (.counterCode (some set) none)
       { s.record with counterCode := s.record.counterCode.put set none }) ∧
     (∀ (set : CounterSet) (i : CounterId) (half full : Bool), inConfig (.markMask (some set) i.val half full)
       { s.record with
         markMasks := s.record.markMasks.put set (Tab.put (s.record.markMasks.at set) i ⟨half, full⟩) }) ∧
     (∀ (d : Deck) (v : Nat),
       let q := s.record.quality.at d
       inConfig (.windowLength d v)
         { s.record with quality := s.record.quality.put d { q with windowLength := min 10000 (max 100 v) } } ∧
       inConfig (.threshold d v)
         { s.record with quality := s.record.quality.put d { q with threshold := min 65535 (max 1 v) } } ∧
       inConfig (.qualityCode d none) { s.record with quality := s.record.quality.put d { q with code := none } } ∧
       (∀ c : Code, inConfig (.qualityCode d (some c.val))
         { s.record with quality := s.record.quality.put d { q with code := some c } }) ∧
       (64 ≤ v → outside (.qualityCode d (some v)) ∧ outside (.lineFaultCode (some v)) ∧
         ∀ set : Option CounterSet, outside (.counterCode set (some v))) ∧
       outside (.counterCode none none) ∧
       ∀ half full : Bool, outside (.markMask none v half full) ∧
         (13 ≤ v → ∀ set : Option CounterSet, outside (.markMask set v half full)))))

/-- Every step keeps the queues within their capacities and the Call Queue in order. From every state in which no
receive or transmit queue exceeds its capacity, a step leaves the same; from every state with at most 16 calls in
order of priority and then of arrival, one for each pair of origin and message, each stamp given out, a step leaves
the same. (R11, R13, R126, R127) -/
def Obligations.QueuesAndCallsInvariant : Prop :=
  (∀ s t : State, QueuesOk s → step s = .next t → QueuesOk t) ∧
  (∀ s t : State, CallsOk s → step s = .next t → CallsOk t)

/-- Every step keeps the ramps still outside a motion, and in motion only while it is safe. From every state in which
Vset is 0 and the control periods are STOPPED outside MOVING and HOMING, a step leaves the same; from every state in
which a ramp is in CLEARING, MOVING or HOMING only with the general alarm inactive, the stop loop closed, the device
in RUN and its guard zone not burning without override, a step leaves the same. (R145, R151, R152) -/
def Obligations.RampSafetyInvariant : Prop :=
  ((∀ s t : State, RampsStill s → step s = .next t → RampsStill t) ∧
   (∀ s t : State, RampsSafe s → step s = .next t → RampsSafe t)) ∧
  ((∀ (s : State) (r : RampId),
     let guard := s.zoneDyn.get (s.ramps.get r).guardZone
     guardBurns s r = true ↔ guard.fire = true ∧ guard.override = false) ∧
   (∀ st : RampState, st.isActive = true ↔ st = .clearing ∨ st = .moving ∨ st = .homing))

/-- Every step keeps resting zones in the state of their doors, and outputs energised only where they may be. From
every state in which each resting zone is in the rest state of its members and the causes fit the states, a step
leaves the same; from every state in which an energised line is, outside CONFIG, the door-hold line its zone's record
names with the fire flag clear or a ramp enable with the stop loop closed, and no burning zone is in OPENING, a step
leaves the same. A zone's rest state is CLOSED when it has members and every one is CLOSED, OPEN when every one is
OPEN or it has none, and else PARTIAL; its members are the doors in use that name it, in order of index. (R104, R58,
R60, R108, R110) -/
def Obligations.ZonesAndOutputsInvariant : Prop :=
  ((∀ s t : State, ZonesOk s → step s = .next t → ZonesOk t) ∧
   (∀ s t : State, OutputsOk s → step s = .next t → OutputsOk t)) ∧
  (∀ (s : State) (z : ZoneId),
     let every (st : DoorState) : Prop := ∀ d ∈ members s z, (s.doorDyn.get d).state = st
     (restState s z = .closed ↔ members s z ≠ [] ∧ every .closed) ∧ (restState s z = .opened ↔ every .opened) ∧
     (restState s z = .partly ↔ members s z ≠ [] ∧ ¬every .closed ∧ ¬every .opened) ∧
     (∀ d : DoorId, d ∈ members s z ↔ (s.doors.get d).station ≠ none ∧ (s.doors.get d).zone = z) ∧
     (members s z).Pairwise (fun d e => d < e) ∧
     ∀ st : ZoneStatus, st.isRest = true ↔ st = .opened ∨ st = .partly ∨ st = .closed)

/-- Every step keeps mirror copies to stations that allow them, the counts of active lines and maps true, and at most
four maps to a station. From every state in which each valid mirror line belongs to a station in use with mirroring
allowed, a step leaves the same; from every state in which the counts of active GENERAL_IN lines are right and a line
condition holds just while its count is above 0, a step leaves the same; and the same of the counts of active event
maps; and from every state in which no station record holds more than 4 event maps, a step leaves the same (log entry
29). (R18, R43, R49, R35, R57, R72, log entry 29) -/
def Obligations.MirrorAndConditionsInvariant : Prop :=
  (((∀ s t : State, MirrorOk s → step s = .next t → MirrorOk t) ∧
    (∀ s t : State, LineConditionsOk s → step s = .next t → LineConditionsOk t) ∧
    (∀ s t : State, MapConditionsOk s → step s = .next t → MapConditionsOk t)) ∧
   (∀ s t : State, (∀ a : Addr, (s.stations.get a).maps.length ≤ 4) → step s = .next t →
      ∀ a : Addr, (t.stations.get a).maps.length ≤ 4)) ∧
  (∀ (r : StationRecord) (points : Word16) (c : Code),
     (r.role = .unused → mapCountOf r points c = 0) ∧
     (r.role ≠ .unused → mapCountOf r points c =
       r.maps.countP fun m => decide (m.code = c) && (points.getLsbD m.point.val == m.activeHigh)))

/-- The state after reset meets every invariant. The Alert Stack and the Pass List, the queues, the calls, the ramps,
the zones, the outputs, the mirror and the counts are sound in State.reset, no command waits, and the part is in
CONFIG. (R177) -/
def Obligations.ResetMeetsInvariants : Prop :=
  AlertsOk State.reset.alerts ∧ QueuesOk State.reset ∧ CallsOk State.reset ∧ RampsStill State.reset ∧
    RampsSafe State.reset ∧ ZonesOk State.reset ∧ OutputsOk State.reset ∧ MirrorOk State.reset ∧
    LineConditionsOk State.reset ∧ MapConditionsOk State.reset ∧ State.reset.pending = [] ∧
    State.reset.device = .config
end

