-- ==== Sys2Proof/Laws/Tab.lean ====
section
/-! SUPPORT. Reading a table after a write: the small lemmas of Word.lean's table operations. -/

namespace Sys2Proof

variable {α β : Type} {n : Nat}

theorem Tab.get_put (t : Vector α n) (i j : Fin n) (x : α) :
    (Tab.put t i x).get j = if i = j then x else t.get j := by
  simp only [Tab.put, Vector.get_eq_getElem, Vector.getElem_set, Fin.ext_iff]

@[simp] theorem Tab.get_put_self (t : Vector α n) (i : Fin n) (x : α) : (Tab.put t i x).get i = x := by
  simp [Tab.get_put]

@[simp] theorem Tab.get_put_of_ne (t : Vector α n) {i j : Fin n} (h : i ≠ j) (x : α) :
    (Tab.put t i x).get j = t.get j := by
  simp [Tab.get_put, h]

theorem Tab.get_upd (t : Vector α n) (i j : Fin n) (f : α → α) :
    (Tab.upd t i f).get j = if i = j then f (t.get i) else t.get j := by
  simp [Tab.upd, Tab.get_put]

@[simp] theorem Tab.get_upd_self (t : Vector α n) (i : Fin n) (f : α → α) : (Tab.upd t i f).get i = f (t.get i) := by
  simp [Tab.get_upd]

@[simp] theorem Tab.get_upd_of_ne (t : Vector α n) {i j : Fin n} (h : i ≠ j) (f : α → α) :
    (Tab.upd t i f).get j = t.get j := by
  simp [Tab.get_upd, h]

@[simp] theorem Tab.get_of (f : Fin n → α) (i : Fin n) : (Tab.of f).get i = f i := by
  simp [Tab.of, Vector.get_eq_getElem]

@[simp] theorem Tab.get_map (g : α → β) (t : Vector α n) (i : Fin n) : (t.map g).get i = g (t.get i) := by
  simp [Vector.get_eq_getElem]

@[simp] theorem Tab.get_replicate (x : α) (i : Fin n) : (Vector.replicate n x).get i = x := by
  simp [Vector.get_eq_getElem]

/-- Two tables with equal rows are equal. -/
theorem Tab.ext {s t : Vector α n} (h : ∀ i : Fin n, s.get i = t.get i) : s = t := by
  apply Vector.ext
  intro i hi
  simpa [Vector.get_eq_getElem] using h ⟨i, hi⟩

@[simp] theorem Tab.put_get (t : Vector α n) (i : Fin n) : Tab.put t i (t.get i) = t := by
  apply Tab.ext
  intro j
  by_cases h : i = j
  · subst h; simp
  · simp [h]

end Sys2Proof
end

