-- ==== Sys2Proof/Laws/State.lean ====
section
/-! SUPPORT. One lemma per field per update of the state, each true by rfl, so that no proof unfolds a record update; and
the entries of the three-, two- and four-fold tables after a write. -/

namespace Sys2Proof.Machine

/-! ## Ports, deck lines and counter sets -/

theorem ByPort.at_put {α : Type} (b : ByPort α) (i j : Port) (x : α) :
    (b.put i x).at j = if i = j then x else b.at j := by
  cases i <;> cases j <;> rfl

@[simp] theorem ByPort.at_put_self {α : Type} (b : ByPort α) (i : Port) (x : α) : (b.put i x).at i = x := by
  cases i <;> rfl

@[simp] theorem ByPort.put_at {α : Type} (b : ByPort α) (i : Port) : b.put i (b.at i) = b := by
  cases i <;> rfl

@[simp] theorem ByPort.put_put {α : Type} (b : ByPort α) (i : Port) (x y : α) : (b.put i x).put i y = b.put i y := by
  cases i <;> rfl

theorem ByDeck.at_put {α : Type} (b : ByDeck α) (i j : Deck) (x : α) :
    (b.put i x).at j = if i = j then x else b.at j := by
  cases i <;> cases j <;> rfl

@[simp] theorem ByDeck.at_put_self {α : Type} (b : ByDeck α) (i : Deck) (x : α) : (b.put i x).at i = x := by
  cases i <;> rfl

@[simp] theorem ByDeck.put_at {α : Type} (b : ByDeck α) (i : Deck) : b.put i (b.at i) = b := by
  cases i <;> rfl

@[simp] theorem ByDeck.put_put {α : Type} (b : ByDeck α) (i : Deck) (x y : α) : (b.put i x).put i y = b.put i y := by
  cases i <;> rfl

theorem BySet.at_put {α : Type} (b : BySet α) (i j : CounterSet) (x : α) :
    (b.put i x).at j = if i = j then x else b.at j := by
  cases i <;> cases j <;> rfl

@[simp] theorem BySet.at_put_self {α : Type} (b : BySet α) (i : CounterSet) (x : α) : (b.put i x).at i = x := by
  cases i <;> rfl

@[simp] theorem BySet.put_at {α : Type} (b : BySet α) (i : CounterSet) : b.put i (b.at i) = b := by
  cases i <;> rfl

@[simp] theorem BySet.put_put {α : Type} (b : BySet α) (i : CounterSet) (x y : α) : (b.put i x).put i y = b.put i y := by
  cases i <;> rfl

/-! ## Fields after an update -/

variable (s : State)

@[simp] theorem State.modPort_ports (p : Port) (f : PortUnit → PortUnit) :
    (s.modPort p f).ports = s.ports.put p (f (s.ports.at p)) := rfl
@[simp] theorem State.modPort_pending (p : Port) (f : PortUnit → PortUnit) : (s.modPort p f).pending = s.pending := rfl
@[simp] theorem State.modPort_now (p : Port) (f : PortUnit → PortUnit) : (s.modPort p f).now = s.now := rfl
@[simp] theorem State.modPort_resetHeld (p : Port) (f : PortUnit → PortUnit) : (s.modPort p f).resetHeld = s.resetHeld := rfl
@[simp] theorem State.modPort_straps (p : Port) (f : PortUnit → PortUnit) : (s.modPort p f).straps = s.straps := rfl
@[simp] theorem State.modPort_pins (p : Port) (f : PortUnit → PortUnit) : (s.modPort p f).pins = s.pins := rfl
@[simp] theorem State.modPort_device (p : Port) (f : PortUnit → PortUnit) : (s.modPort p f).device = s.device := rfl
@[simp] theorem State.modPort_record (p : Port) (f : PortUnit → PortUnit) : (s.modPort p f).record = s.record := rfl
@[simp] theorem State.modPort_bridgeLoss (p : Port) (f : PortUnit → PortUnit) : (s.modPort p f).bridgeLoss = s.bridgeLoss := rfl
@[simp] theorem State.modPort_stations (p : Port) (f : PortUnit → PortUnit) : (s.modPort p f).stations = s.stations := rfl
@[simp] theorem State.modPort_stationDyn (p : Port) (f : PortUnit → PortUnit) : (s.modPort p f).stationDyn = s.stationDyn := rfl
@[simp] theorem State.modPort_owners (p : Port) (f : PortUnit → PortUnit) : (s.modPort p f).owners = s.owners := rfl
@[simp] theorem State.modPort_mapCounts (p : Port) (f : PortUnit → PortUnit) : (s.modPort p f).mapCounts = s.mapCounts := rfl
@[simp] theorem State.modPort_supervisionDue (p : Port) (f : PortUnit → PortUnit) : (s.modPort p f).supervisionDue = s.supervisionDue := rfl
@[simp] theorem State.modPort_mirror (p : Port) (f : PortUnit → PortUnit) : (s.modPort p f).mirror = s.mirror := rfl
@[simp] theorem State.modPort_lines (p : Port) (f : PortUnit → PortUnit) : (s.modPort p f).lines = s.lines := rfl
@[simp] theorem State.modPort_lineDyn (p : Port) (f : PortUnit → PortUnit) : (s.modPort p f).lineDyn = s.lineDyn := rfl
@[simp] theorem State.modPort_outputs (p : Port) (f : PortUnit → PortUnit) : (s.modPort p f).outputs = s.outputs := rfl
@[simp] theorem State.modPort_lineCounts (p : Port) (f : PortUnit → PortUnit) : (s.modPort p f).lineCounts = s.lineCounts := rfl
@[simp] theorem State.modPort_timers (p : Port) (f : PortUnit → PortUnit) : (s.modPort p f).timers = s.timers := rfl
@[simp] theorem State.modPort_timerDyn (p : Port) (f : PortUnit → PortUnit) : (s.modPort p f).timerDyn = s.timerDyn := rfl
@[simp] theorem State.modPort_vectors (p : Port) (f : PortUnit → PortUnit) : (s.modPort p f).vectors = s.vectors := rfl
@[simp] theorem State.modPort_codes (p : Port) (f : PortUnit → PortUnit) : (s.modPort p f).codes = s.codes := rfl
@[simp] theorem State.modPort_alerts (p : Port) (f : PortUnit → PortUnit) : (s.modPort p f).alerts = s.alerts := rfl
@[simp] theorem State.modPort_ga (p : Port) (f : PortUnit → PortUnit) : (s.modPort p f).ga = s.ga := rfl
@[simp] theorem State.modPort_zones (p : Port) (f : PortUnit → PortUnit) : (s.modPort p f).zones = s.zones := rfl
@[simp] theorem State.modPort_zoneDyn (p : Port) (f : PortUnit → PortUnit) : (s.modPort p f).zoneDyn = s.zoneDyn := rfl
@[simp] theorem State.modPort_doors (p : Port) (f : PortUnit → PortUnit) : (s.modPort p f).doors = s.doors := rfl
@[simp] theorem State.modPort_doorDyn (p : Port) (f : PortUnit → PortUnit) : (s.modPort p f).doorDyn = s.doorDyn := rfl
@[simp] theorem State.modPort_messages (p : Port) (f : PortUnit → PortUnit) : (s.modPort p f).messages = s.messages := rfl
@[simp] theorem State.modPort_calls (p : Port) (f : PortUnit → PortUnit) : (s.modPort p f).calls = s.calls := rfl
@[simp] theorem State.modPort_nextStamp (p : Port) (f : PortUnit → PortUnit) : (s.modPort p f).nextStamp = s.nextStamp := rfl
@[simp] theorem State.modPort_zoneLines (p : Port) (f : PortUnit → PortUnit) : (s.modPort p f).zoneLines = s.zoneLines := rfl
@[simp] theorem State.modPort_ramps (p : Port) (f : PortUnit → PortUnit) : (s.modPort p f).ramps = s.ramps := rfl
@[simp] theorem State.modPort_rampDyn (p : Port) (f : PortUnit → PortUnit) : (s.modPort p f).rampDyn = s.rampDyn := rfl
@[simp] theorem State.modPort_counters (p : Port) (f : PortUnit → PortUnit) : (s.modPort p f).counters = s.counters := rfl
@[simp] theorem State.modPort_quality (p : Port) (f : PortUnit → PortUnit) : (s.modPort p f).quality = s.quality := rfl

@[simp] theorem State.modQuality_quality (d : Deck) (f : Monitor → Monitor) :
    (s.modQuality d f).quality = s.quality.put d (f (s.quality.at d)) := rfl
@[simp] theorem State.modQuality_pending (d : Deck) (f : Monitor → Monitor) : (s.modQuality d f).pending = s.pending := rfl
@[simp] theorem State.modQuality_now (d : Deck) (f : Monitor → Monitor) : (s.modQuality d f).now = s.now := rfl
@[simp] theorem State.modQuality_resetHeld (d : Deck) (f : Monitor → Monitor) : (s.modQuality d f).resetHeld = s.resetHeld := rfl
@[simp] theorem State.modQuality_straps (d : Deck) (f : Monitor → Monitor) : (s.modQuality d f).straps = s.straps := rfl
@[simp] theorem State.modQuality_pins (d : Deck) (f : Monitor → Monitor) : (s.modQuality d f).pins = s.pins := rfl
@[simp] theorem State.modQuality_device (d : Deck) (f : Monitor → Monitor) : (s.modQuality d f).device = s.device := rfl
@[simp] theorem State.modQuality_record (d : Deck) (f : Monitor → Monitor) : (s.modQuality d f).record = s.record := rfl
@[simp] theorem State.modQuality_ports (d : Deck) (f : Monitor → Monitor) : (s.modQuality d f).ports = s.ports := rfl
@[simp] theorem State.modQuality_bridgeLoss (d : Deck) (f : Monitor → Monitor) : (s.modQuality d f).bridgeLoss = s.bridgeLoss := rfl
@[simp] theorem State.modQuality_stations (d : Deck) (f : Monitor → Monitor) : (s.modQuality d f).stations = s.stations := rfl
@[simp] theorem State.modQuality_stationDyn (d : Deck) (f : Monitor → Monitor) : (s.modQuality d f).stationDyn = s.stationDyn := rfl
@[simp] theorem State.modQuality_owners (d : Deck) (f : Monitor → Monitor) : (s.modQuality d f).owners = s.owners := rfl
@[simp] theorem State.modQuality_mapCounts (d : Deck) (f : Monitor → Monitor) : (s.modQuality d f).mapCounts = s.mapCounts := rfl
@[simp] theorem State.modQuality_supervisionDue (d : Deck) (f : Monitor → Monitor) : (s.modQuality d f).supervisionDue = s.supervisionDue := rfl
@[simp] theorem State.modQuality_mirror (d : Deck) (f : Monitor → Monitor) : (s.modQuality d f).mirror = s.mirror := rfl
@[simp] theorem State.modQuality_lines (d : Deck) (f : Monitor → Monitor) : (s.modQuality d f).lines = s.lines := rfl
@[simp] theorem State.modQuality_lineDyn (d : Deck) (f : Monitor → Monitor) : (s.modQuality d f).lineDyn = s.lineDyn := rfl
@[simp] theorem State.modQuality_outputs (d : Deck) (f : Monitor → Monitor) : (s.modQuality d f).outputs = s.outputs := rfl
@[simp] theorem State.modQuality_lineCounts (d : Deck) (f : Monitor → Monitor) : (s.modQuality d f).lineCounts = s.lineCounts := rfl
@[simp] theorem State.modQuality_timers (d : Deck) (f : Monitor → Monitor) : (s.modQuality d f).timers = s.timers := rfl
@[simp] theorem State.modQuality_timerDyn (d : Deck) (f : Monitor → Monitor) : (s.modQuality d f).timerDyn = s.timerDyn := rfl
@[simp] theorem State.modQuality_vectors (d : Deck) (f : Monitor → Monitor) : (s.modQuality d f).vectors = s.vectors := rfl
@[simp] theorem State.modQuality_codes (d : Deck) (f : Monitor → Monitor) : (s.modQuality d f).codes = s.codes := rfl
@[simp] theorem State.modQuality_alerts (d : Deck) (f : Monitor → Monitor) : (s.modQuality d f).alerts = s.alerts := rfl
@[simp] theorem State.modQuality_ga (d : Deck) (f : Monitor → Monitor) : (s.modQuality d f).ga = s.ga := rfl
@[simp] theorem State.modQuality_zones (d : Deck) (f : Monitor → Monitor) : (s.modQuality d f).zones = s.zones := rfl
@[simp] theorem State.modQuality_zoneDyn (d : Deck) (f : Monitor → Monitor) : (s.modQuality d f).zoneDyn = s.zoneDyn := rfl
@[simp] theorem State.modQuality_doors (d : Deck) (f : Monitor → Monitor) : (s.modQuality d f).doors = s.doors := rfl
@[simp] theorem State.modQuality_doorDyn (d : Deck) (f : Monitor → Monitor) : (s.modQuality d f).doorDyn = s.doorDyn := rfl
@[simp] theorem State.modQuality_messages (d : Deck) (f : Monitor → Monitor) : (s.modQuality d f).messages = s.messages := rfl
@[simp] theorem State.modQuality_calls (d : Deck) (f : Monitor → Monitor) : (s.modQuality d f).calls = s.calls := rfl
@[simp] theorem State.modQuality_nextStamp (d : Deck) (f : Monitor → Monitor) : (s.modQuality d f).nextStamp = s.nextStamp := rfl
@[simp] theorem State.modQuality_zoneLines (d : Deck) (f : Monitor → Monitor) : (s.modQuality d f).zoneLines = s.zoneLines := rfl
@[simp] theorem State.modQuality_ramps (d : Deck) (f : Monitor → Monitor) : (s.modQuality d f).ramps = s.ramps := rfl
@[simp] theorem State.modQuality_rampDyn (d : Deck) (f : Monitor → Monitor) : (s.modQuality d f).rampDyn = s.rampDyn := rfl
@[simp] theorem State.modQuality_counters (d : Deck) (f : Monitor → Monitor) : (s.modQuality d f).counters = s.counters := rfl

@[simp] theorem State.modStation_stationDyn (a : Addr) (f : StationDyn → StationDyn) :
    (s.modStation a f).stationDyn = Tab.upd s.stationDyn a f := rfl
@[simp] theorem State.modStation_pending (a : Addr) (f : StationDyn → StationDyn) : (s.modStation a f).pending = s.pending := rfl
@[simp] theorem State.modStation_now (a : Addr) (f : StationDyn → StationDyn) : (s.modStation a f).now = s.now := rfl
@[simp] theorem State.modStation_resetHeld (a : Addr) (f : StationDyn → StationDyn) : (s.modStation a f).resetHeld = s.resetHeld := rfl
@[simp] theorem State.modStation_straps (a : Addr) (f : StationDyn → StationDyn) : (s.modStation a f).straps = s.straps := rfl
@[simp] theorem State.modStation_pins (a : Addr) (f : StationDyn → StationDyn) : (s.modStation a f).pins = s.pins := rfl
@[simp] theorem State.modStation_device (a : Addr) (f : StationDyn → StationDyn) : (s.modStation a f).device = s.device := rfl
@[simp] theorem State.modStation_record (a : Addr) (f : StationDyn → StationDyn) : (s.modStation a f).record = s.record := rfl
@[simp] theorem State.modStation_ports (a : Addr) (f : StationDyn → StationDyn) : (s.modStation a f).ports = s.ports := rfl
@[simp] theorem State.modStation_bridgeLoss (a : Addr) (f : StationDyn → StationDyn) : (s.modStation a f).bridgeLoss = s.bridgeLoss := rfl
@[simp] theorem State.modStation_stations (a : Addr) (f : StationDyn → StationDyn) : (s.modStation a f).stations = s.stations := rfl
@[simp] theorem State.modStation_owners (a : Addr) (f : StationDyn → StationDyn) : (s.modStation a f).owners = s.owners := rfl
@[simp] theorem State.modStation_mapCounts (a : Addr) (f : StationDyn → StationDyn) : (s.modStation a f).mapCounts = s.mapCounts := rfl
@[simp] theorem State.modStation_supervisionDue (a : Addr) (f : StationDyn → StationDyn) : (s.modStation a f).supervisionDue = s.supervisionDue := rfl
@[simp] theorem State.modStation_mirror (a : Addr) (f : StationDyn → StationDyn) : (s.modStation a f).mirror = s.mirror := rfl
@[simp] theorem State.modStation_lines (a : Addr) (f : StationDyn → StationDyn) : (s.modStation a f).lines = s.lines := rfl
@[simp] theorem State.modStation_lineDyn (a : Addr) (f : StationDyn → StationDyn) : (s.modStation a f).lineDyn = s.lineDyn := rfl
@[simp] theorem State.modStation_outputs (a : Addr) (f : StationDyn → StationDyn) : (s.modStation a f).outputs = s.outputs := rfl
@[simp] theorem State.modStation_lineCounts (a : Addr) (f : StationDyn → StationDyn) : (s.modStation a f).lineCounts = s.lineCounts := rfl
@[simp] theorem State.modStation_timers (a : Addr) (f : StationDyn → StationDyn) : (s.modStation a f).timers = s.timers := rfl
@[simp] theorem State.modStation_timerDyn (a : Addr) (f : StationDyn → StationDyn) : (s.modStation a f).timerDyn = s.timerDyn := rfl
@[simp] theorem State.modStation_vectors (a : Addr) (f : StationDyn → StationDyn) : (s.modStation a f).vectors = s.vectors := rfl
@[simp] theorem State.modStation_codes (a : Addr) (f : StationDyn → StationDyn) : (s.modStation a f).codes = s.codes := rfl
@[simp] theorem State.modStation_alerts (a : Addr) (f : StationDyn → StationDyn) : (s.modStation a f).alerts = s.alerts := rfl
@[simp] theorem State.modStation_ga (a : Addr) (f : StationDyn → StationDyn) : (s.modStation a f).ga = s.ga := rfl
@[simp] theorem State.modStation_zones (a : Addr) (f : StationDyn → StationDyn) : (s.modStation a f).zones = s.zones := rfl
@[simp] theorem State.modStation_zoneDyn (a : Addr) (f : StationDyn → StationDyn) : (s.modStation a f).zoneDyn = s.zoneDyn := rfl
@[simp] theorem State.modStation_doors (a : Addr) (f : StationDyn → StationDyn) : (s.modStation a f).doors = s.doors := rfl
@[simp] theorem State.modStation_doorDyn (a : Addr) (f : StationDyn → StationDyn) : (s.modStation a f).doorDyn = s.doorDyn := rfl
@[simp] theorem State.modStation_messages (a : Addr) (f : StationDyn → StationDyn) : (s.modStation a f).messages = s.messages := rfl
@[simp] theorem State.modStation_calls (a : Addr) (f : StationDyn → StationDyn) : (s.modStation a f).calls = s.calls := rfl
@[simp] theorem State.modStation_nextStamp (a : Addr) (f : StationDyn → StationDyn) : (s.modStation a f).nextStamp = s.nextStamp := rfl
@[simp] theorem State.modStation_zoneLines (a : Addr) (f : StationDyn → StationDyn) : (s.modStation a f).zoneLines = s.zoneLines := rfl
@[simp] theorem State.modStation_ramps (a : Addr) (f : StationDyn → StationDyn) : (s.modStation a f).ramps = s.ramps := rfl
@[simp] theorem State.modStation_rampDyn (a : Addr) (f : StationDyn → StationDyn) : (s.modStation a f).rampDyn = s.rampDyn := rfl
@[simp] theorem State.modStation_counters (a : Addr) (f : StationDyn → StationDyn) : (s.modStation a f).counters = s.counters := rfl
@[simp] theorem State.modStation_quality (a : Addr) (f : StationDyn → StationDyn) : (s.modStation a f).quality = s.quality := rfl

@[simp] theorem State.setOwner_owners (a : Addr) (o : Owner) :
    (s.setOwner a o).owners = Tab.put s.owners a o := rfl
@[simp] theorem State.setOwner_pending (a : Addr) (o : Owner) : (s.setOwner a o).pending = s.pending := rfl
@[simp] theorem State.setOwner_now (a : Addr) (o : Owner) : (s.setOwner a o).now = s.now := rfl
@[simp] theorem State.setOwner_resetHeld (a : Addr) (o : Owner) : (s.setOwner a o).resetHeld = s.resetHeld := rfl
@[simp] theorem State.setOwner_straps (a : Addr) (o : Owner) : (s.setOwner a o).straps = s.straps := rfl
@[simp] theorem State.setOwner_pins (a : Addr) (o : Owner) : (s.setOwner a o).pins = s.pins := rfl
@[simp] theorem State.setOwner_device (a : Addr) (o : Owner) : (s.setOwner a o).device = s.device := rfl
@[simp] theorem State.setOwner_record (a : Addr) (o : Owner) : (s.setOwner a o).record = s.record := rfl
@[simp] theorem State.setOwner_ports (a : Addr) (o : Owner) : (s.setOwner a o).ports = s.ports := rfl
@[simp] theorem State.setOwner_bridgeLoss (a : Addr) (o : Owner) : (s.setOwner a o).bridgeLoss = s.bridgeLoss := rfl
@[simp] theorem State.setOwner_stations (a : Addr) (o : Owner) : (s.setOwner a o).stations = s.stations := rfl
@[simp] theorem State.setOwner_stationDyn (a : Addr) (o : Owner) : (s.setOwner a o).stationDyn = s.stationDyn := rfl
@[simp] theorem State.setOwner_mapCounts (a : Addr) (o : Owner) : (s.setOwner a o).mapCounts = s.mapCounts := rfl
@[simp] theorem State.setOwner_supervisionDue (a : Addr) (o : Owner) : (s.setOwner a o).supervisionDue = s.supervisionDue := rfl
@[simp] theorem State.setOwner_mirror (a : Addr) (o : Owner) : (s.setOwner a o).mirror = s.mirror := rfl
@[simp] theorem State.setOwner_lines (a : Addr) (o : Owner) : (s.setOwner a o).lines = s.lines := rfl
@[simp] theorem State.setOwner_lineDyn (a : Addr) (o : Owner) : (s.setOwner a o).lineDyn = s.lineDyn := rfl
@[simp] theorem State.setOwner_outputs (a : Addr) (o : Owner) : (s.setOwner a o).outputs = s.outputs := rfl
@[simp] theorem State.setOwner_lineCounts (a : Addr) (o : Owner) : (s.setOwner a o).lineCounts = s.lineCounts := rfl
@[simp] theorem State.setOwner_timers (a : Addr) (o : Owner) : (s.setOwner a o).timers = s.timers := rfl
@[simp] theorem State.setOwner_timerDyn (a : Addr) (o : Owner) : (s.setOwner a o).timerDyn = s.timerDyn := rfl
@[simp] theorem State.setOwner_vectors (a : Addr) (o : Owner) : (s.setOwner a o).vectors = s.vectors := rfl
@[simp] theorem State.setOwner_codes (a : Addr) (o : Owner) : (s.setOwner a o).codes = s.codes := rfl
@[simp] theorem State.setOwner_alerts (a : Addr) (o : Owner) : (s.setOwner a o).alerts = s.alerts := rfl
@[simp] theorem State.setOwner_ga (a : Addr) (o : Owner) : (s.setOwner a o).ga = s.ga := rfl
@[simp] theorem State.setOwner_zones (a : Addr) (o : Owner) : (s.setOwner a o).zones = s.zones := rfl
@[simp] theorem State.setOwner_zoneDyn (a : Addr) (o : Owner) : (s.setOwner a o).zoneDyn = s.zoneDyn := rfl
@[simp] theorem State.setOwner_doors (a : Addr) (o : Owner) : (s.setOwner a o).doors = s.doors := rfl
@[simp] theorem State.setOwner_doorDyn (a : Addr) (o : Owner) : (s.setOwner a o).doorDyn = s.doorDyn := rfl
@[simp] theorem State.setOwner_messages (a : Addr) (o : Owner) : (s.setOwner a o).messages = s.messages := rfl
@[simp] theorem State.setOwner_calls (a : Addr) (o : Owner) : (s.setOwner a o).calls = s.calls := rfl
@[simp] theorem State.setOwner_nextStamp (a : Addr) (o : Owner) : (s.setOwner a o).nextStamp = s.nextStamp := rfl
@[simp] theorem State.setOwner_zoneLines (a : Addr) (o : Owner) : (s.setOwner a o).zoneLines = s.zoneLines := rfl
@[simp] theorem State.setOwner_ramps (a : Addr) (o : Owner) : (s.setOwner a o).ramps = s.ramps := rfl
@[simp] theorem State.setOwner_rampDyn (a : Addr) (o : Owner) : (s.setOwner a o).rampDyn = s.rampDyn := rfl
@[simp] theorem State.setOwner_counters (a : Addr) (o : Owner) : (s.setOwner a o).counters = s.counters := rfl
@[simp] theorem State.setOwner_quality (a : Addr) (o : Owner) : (s.setOwner a o).quality = s.quality := rfl
@[simp] theorem State.setOwner_kept (a : Addr) (o : Owner) : (s.setOwner a o).kept = s.kept := rfl
@[simp] theorem State.setOwner_core (a : Addr) (o : Owner) : (s.setOwner a o).core = s.core := rfl

@[simp] theorem State.modMirror_mirror (i : Fin 64) (f : MirrorLine → MirrorLine) :
    (s.modMirror i f).mirror = Tab.upd s.mirror i f := rfl
@[simp] theorem State.modMirror_pending (i : Fin 64) (f : MirrorLine → MirrorLine) : (s.modMirror i f).pending = s.pending := rfl
@[simp] theorem State.modMirror_now (i : Fin 64) (f : MirrorLine → MirrorLine) : (s.modMirror i f).now = s.now := rfl
@[simp] theorem State.modMirror_resetHeld (i : Fin 64) (f : MirrorLine → MirrorLine) : (s.modMirror i f).resetHeld = s.resetHeld := rfl
@[simp] theorem State.modMirror_straps (i : Fin 64) (f : MirrorLine → MirrorLine) : (s.modMirror i f).straps = s.straps := rfl
@[simp] theorem State.modMirror_pins (i : Fin 64) (f : MirrorLine → MirrorLine) : (s.modMirror i f).pins = s.pins := rfl
@[simp] theorem State.modMirror_device (i : Fin 64) (f : MirrorLine → MirrorLine) : (s.modMirror i f).device = s.device := rfl
@[simp] theorem State.modMirror_record (i : Fin 64) (f : MirrorLine → MirrorLine) : (s.modMirror i f).record = s.record := rfl
@[simp] theorem State.modMirror_ports (i : Fin 64) (f : MirrorLine → MirrorLine) : (s.modMirror i f).ports = s.ports := rfl
@[simp] theorem State.modMirror_bridgeLoss (i : Fin 64) (f : MirrorLine → MirrorLine) : (s.modMirror i f).bridgeLoss = s.bridgeLoss := rfl
@[simp] theorem State.modMirror_stations (i : Fin 64) (f : MirrorLine → MirrorLine) : (s.modMirror i f).stations = s.stations := rfl
@[simp] theorem State.modMirror_stationDyn (i : Fin 64) (f : MirrorLine → MirrorLine) : (s.modMirror i f).stationDyn = s.stationDyn := rfl
@[simp] theorem State.modMirror_owners (i : Fin 64) (f : MirrorLine → MirrorLine) : (s.modMirror i f).owners = s.owners := rfl
@[simp] theorem State.modMirror_mapCounts (i : Fin 64) (f : MirrorLine → MirrorLine) : (s.modMirror i f).mapCounts = s.mapCounts := rfl
@[simp] theorem State.modMirror_supervisionDue (i : Fin 64) (f : MirrorLine → MirrorLine) : (s.modMirror i f).supervisionDue = s.supervisionDue := rfl
@[simp] theorem State.modMirror_lines (i : Fin 64) (f : MirrorLine → MirrorLine) : (s.modMirror i f).lines = s.lines := rfl
@[simp] theorem State.modMirror_lineDyn (i : Fin 64) (f : MirrorLine → MirrorLine) : (s.modMirror i f).lineDyn = s.lineDyn := rfl
@[simp] theorem State.modMirror_outputs (i : Fin 64) (f : MirrorLine → MirrorLine) : (s.modMirror i f).outputs = s.outputs := rfl
@[simp] theorem State.modMirror_lineCounts (i : Fin 64) (f : MirrorLine → MirrorLine) : (s.modMirror i f).lineCounts = s.lineCounts := rfl
@[simp] theorem State.modMirror_timers (i : Fin 64) (f : MirrorLine → MirrorLine) : (s.modMirror i f).timers = s.timers := rfl
@[simp] theorem State.modMirror_timerDyn (i : Fin 64) (f : MirrorLine → MirrorLine) : (s.modMirror i f).timerDyn = s.timerDyn := rfl
@[simp] theorem State.modMirror_vectors (i : Fin 64) (f : MirrorLine → MirrorLine) : (s.modMirror i f).vectors = s.vectors := rfl
@[simp] theorem State.modMirror_codes (i : Fin 64) (f : MirrorLine → MirrorLine) : (s.modMirror i f).codes = s.codes := rfl
@[simp] theorem State.modMirror_alerts (i : Fin 64) (f : MirrorLine → MirrorLine) : (s.modMirror i f).alerts = s.alerts := rfl
@[simp] theorem State.modMirror_ga (i : Fin 64) (f : MirrorLine → MirrorLine) : (s.modMirror i f).ga = s.ga := rfl
@[simp] theorem State.modMirror_zones (i : Fin 64) (f : MirrorLine → MirrorLine) : (s.modMirror i f).zones = s.zones := rfl
@[simp] theorem State.modMirror_zoneDyn (i : Fin 64) (f : MirrorLine → MirrorLine) : (s.modMirror i f).zoneDyn = s.zoneDyn := rfl
@[simp] theorem State.modMirror_doors (i : Fin 64) (f : MirrorLine → MirrorLine) : (s.modMirror i f).doors = s.doors := rfl
@[simp] theorem State.modMirror_doorDyn (i : Fin 64) (f : MirrorLine → MirrorLine) : (s.modMirror i f).doorDyn = s.doorDyn := rfl
@[simp] theorem State.modMirror_messages (i : Fin 64) (f : MirrorLine → MirrorLine) : (s.modMirror i f).messages = s.messages := rfl
@[simp] theorem State.modMirror_calls (i : Fin 64) (f : MirrorLine → MirrorLine) : (s.modMirror i f).calls = s.calls := rfl
@[simp] theorem State.modMirror_nextStamp (i : Fin 64) (f : MirrorLine → MirrorLine) : (s.modMirror i f).nextStamp = s.nextStamp := rfl
@[simp] theorem State.modMirror_zoneLines (i : Fin 64) (f : MirrorLine → MirrorLine) : (s.modMirror i f).zoneLines = s.zoneLines := rfl
@[simp] theorem State.modMirror_ramps (i : Fin 64) (f : MirrorLine → MirrorLine) : (s.modMirror i f).ramps = s.ramps := rfl
@[simp] theorem State.modMirror_rampDyn (i : Fin 64) (f : MirrorLine → MirrorLine) : (s.modMirror i f).rampDyn = s.rampDyn := rfl
@[simp] theorem State.modMirror_counters (i : Fin 64) (f : MirrorLine → MirrorLine) : (s.modMirror i f).counters = s.counters := rfl
@[simp] theorem State.modMirror_quality (i : Fin 64) (f : MirrorLine → MirrorLine) : (s.modMirror i f).quality = s.quality := rfl

@[simp] theorem State.modLine_lineDyn (n : LineId) (f : LineDyn → LineDyn) :
    (s.modLine n f).lineDyn = Tab.upd s.lineDyn n f := rfl
@[simp] theorem State.modLine_pending (n : LineId) (f : LineDyn → LineDyn) : (s.modLine n f).pending = s.pending := rfl
@[simp] theorem State.modLine_now (n : LineId) (f : LineDyn → LineDyn) : (s.modLine n f).now = s.now := rfl
@[simp] theorem State.modLine_resetHeld (n : LineId) (f : LineDyn → LineDyn) : (s.modLine n f).resetHeld = s.resetHeld := rfl
@[simp] theorem State.modLine_straps (n : LineId) (f : LineDyn → LineDyn) : (s.modLine n f).straps = s.straps := rfl
@[simp] theorem State.modLine_pins (n : LineId) (f : LineDyn → LineDyn) : (s.modLine n f).pins = s.pins := rfl
@[simp] theorem State.modLine_device (n : LineId) (f : LineDyn → LineDyn) : (s.modLine n f).device = s.device := rfl
@[simp] theorem State.modLine_record (n : LineId) (f : LineDyn → LineDyn) : (s.modLine n f).record = s.record := rfl
@[simp] theorem State.modLine_ports (n : LineId) (f : LineDyn → LineDyn) : (s.modLine n f).ports = s.ports := rfl
@[simp] theorem State.modLine_bridgeLoss (n : LineId) (f : LineDyn → LineDyn) : (s.modLine n f).bridgeLoss = s.bridgeLoss := rfl
@[simp] theorem State.modLine_stations (n : LineId) (f : LineDyn → LineDyn) : (s.modLine n f).stations = s.stations := rfl
@[simp] theorem State.modLine_stationDyn (n : LineId) (f : LineDyn → LineDyn) : (s.modLine n f).stationDyn = s.stationDyn := rfl
@[simp] theorem State.modLine_owners (n : LineId) (f : LineDyn → LineDyn) : (s.modLine n f).owners = s.owners := rfl
@[simp] theorem State.modLine_mapCounts (n : LineId) (f : LineDyn → LineDyn) : (s.modLine n f).mapCounts = s.mapCounts := rfl
@[simp] theorem State.modLine_supervisionDue (n : LineId) (f : LineDyn → LineDyn) : (s.modLine n f).supervisionDue = s.supervisionDue := rfl
@[simp] theorem State.modLine_mirror (n : LineId) (f : LineDyn → LineDyn) : (s.modLine n f).mirror = s.mirror := rfl
@[simp] theorem State.modLine_lines (n : LineId) (f : LineDyn → LineDyn) : (s.modLine n f).lines = s.lines := rfl
@[simp] theorem State.modLine_outputs (n : LineId) (f : LineDyn → LineDyn) : (s.modLine n f).outputs = s.outputs := rfl
@[simp] theorem State.modLine_lineCounts (n : LineId) (f : LineDyn → LineDyn) : (s.modLine n f).lineCounts = s.lineCounts := rfl
@[simp] theorem State.modLine_timers (n : LineId) (f : LineDyn → LineDyn) : (s.modLine n f).timers = s.timers := rfl
@[simp] theorem State.modLine_timerDyn (n : LineId) (f : LineDyn → LineDyn) : (s.modLine n f).timerDyn = s.timerDyn := rfl
@[simp] theorem State.modLine_vectors (n : LineId) (f : LineDyn → LineDyn) : (s.modLine n f).vectors = s.vectors := rfl
@[simp] theorem State.modLine_codes (n : LineId) (f : LineDyn → LineDyn) : (s.modLine n f).codes = s.codes := rfl
@[simp] theorem State.modLine_alerts (n : LineId) (f : LineDyn → LineDyn) : (s.modLine n f).alerts = s.alerts := rfl
@[simp] theorem State.modLine_ga (n : LineId) (f : LineDyn → LineDyn) : (s.modLine n f).ga = s.ga := rfl
@[simp] theorem State.modLine_zones (n : LineId) (f : LineDyn → LineDyn) : (s.modLine n f).zones = s.zones := rfl
@[simp] theorem State.modLine_zoneDyn (n : LineId) (f : LineDyn → LineDyn) : (s.modLine n f).zoneDyn = s.zoneDyn := rfl
@[simp] theorem State.modLine_doors (n : LineId) (f : LineDyn → LineDyn) : (s.modLine n f).doors = s.doors := rfl
@[simp] theorem State.modLine_doorDyn (n : LineId) (f : LineDyn → LineDyn) : (s.modLine n f).doorDyn = s.doorDyn := rfl
@[simp] theorem State.modLine_messages (n : LineId) (f : LineDyn → LineDyn) : (s.modLine n f).messages = s.messages := rfl
@[simp] theorem State.modLine_calls (n : LineId) (f : LineDyn → LineDyn) : (s.modLine n f).calls = s.calls := rfl
@[simp] theorem State.modLine_nextStamp (n : LineId) (f : LineDyn → LineDyn) : (s.modLine n f).nextStamp = s.nextStamp := rfl
@[simp] theorem State.modLine_zoneLines (n : LineId) (f : LineDyn → LineDyn) : (s.modLine n f).zoneLines = s.zoneLines := rfl
@[simp] theorem State.modLine_ramps (n : LineId) (f : LineDyn → LineDyn) : (s.modLine n f).ramps = s.ramps := rfl
@[simp] theorem State.modLine_rampDyn (n : LineId) (f : LineDyn → LineDyn) : (s.modLine n f).rampDyn = s.rampDyn := rfl
@[simp] theorem State.modLine_counters (n : LineId) (f : LineDyn → LineDyn) : (s.modLine n f).counters = s.counters := rfl
@[simp] theorem State.modLine_quality (n : LineId) (f : LineDyn → LineDyn) : (s.modLine n f).quality = s.quality := rfl

@[simp] theorem State.setOutput_outputs (n : LineId) (on : Bool) :
    (s.setOutput n on).outputs = Tab.put s.outputs n on := rfl
@[simp] theorem State.setOutput_pending (n : LineId) (on : Bool) : (s.setOutput n on).pending = s.pending := rfl
@[simp] theorem State.setOutput_now (n : LineId) (on : Bool) : (s.setOutput n on).now = s.now := rfl
@[simp] theorem State.setOutput_resetHeld (n : LineId) (on : Bool) : (s.setOutput n on).resetHeld = s.resetHeld := rfl
@[simp] theorem State.setOutput_straps (n : LineId) (on : Bool) : (s.setOutput n on).straps = s.straps := rfl
@[simp] theorem State.setOutput_pins (n : LineId) (on : Bool) : (s.setOutput n on).pins = s.pins := rfl
@[simp] theorem State.setOutput_device (n : LineId) (on : Bool) : (s.setOutput n on).device = s.device := rfl
@[simp] theorem State.setOutput_record (n : LineId) (on : Bool) : (s.setOutput n on).record = s.record := rfl
@[simp] theorem State.setOutput_ports (n : LineId) (on : Bool) : (s.setOutput n on).ports = s.ports := rfl
@[simp] theorem State.setOutput_bridgeLoss (n : LineId) (on : Bool) : (s.setOutput n on).bridgeLoss = s.bridgeLoss := rfl
@[simp] theorem State.setOutput_stations (n : LineId) (on : Bool) : (s.setOutput n on).stations = s.stations := rfl
@[simp] theorem State.setOutput_stationDyn (n : LineId) (on : Bool) : (s.setOutput n on).stationDyn = s.stationDyn := rfl
@[simp] theorem State.setOutput_owners (n : LineId) (on : Bool) : (s.setOutput n on).owners = s.owners := rfl
@[simp] theorem State.setOutput_mapCounts (n : LineId) (on : Bool) : (s.setOutput n on).mapCounts = s.mapCounts := rfl
@[simp] theorem State.setOutput_supervisionDue (n : LineId) (on : Bool) : (s.setOutput n on).supervisionDue = s.supervisionDue := rfl
@[simp] theorem State.setOutput_mirror (n : LineId) (on : Bool) : (s.setOutput n on).mirror = s.mirror := rfl
@[simp] theorem State.setOutput_lines (n : LineId) (on : Bool) : (s.setOutput n on).lines = s.lines := rfl
@[simp] theorem State.setOutput_lineDyn (n : LineId) (on : Bool) : (s.setOutput n on).lineDyn = s.lineDyn := rfl
@[simp] theorem State.setOutput_lineCounts (n : LineId) (on : Bool) : (s.setOutput n on).lineCounts = s.lineCounts := rfl
@[simp] theorem State.setOutput_timers (n : LineId) (on : Bool) : (s.setOutput n on).timers = s.timers := rfl
@[simp] theorem State.setOutput_timerDyn (n : LineId) (on : Bool) : (s.setOutput n on).timerDyn = s.timerDyn := rfl
@[simp] theorem State.setOutput_vectors (n : LineId) (on : Bool) : (s.setOutput n on).vectors = s.vectors := rfl
@[simp] theorem State.setOutput_codes (n : LineId) (on : Bool) : (s.setOutput n on).codes = s.codes := rfl
@[simp] theorem State.setOutput_alerts (n : LineId) (on : Bool) : (s.setOutput n on).alerts = s.alerts := rfl
@[simp] theorem State.setOutput_ga (n : LineId) (on : Bool) : (s.setOutput n on).ga = s.ga := rfl
@[simp] theorem State.setOutput_zones (n : LineId) (on : Bool) : (s.setOutput n on).zones = s.zones := rfl
@[simp] theorem State.setOutput_zoneDyn (n : LineId) (on : Bool) : (s.setOutput n on).zoneDyn = s.zoneDyn := rfl
@[simp] theorem State.setOutput_doors (n : LineId) (on : Bool) : (s.setOutput n on).doors = s.doors := rfl
@[simp] theorem State.setOutput_doorDyn (n : LineId) (on : Bool) : (s.setOutput n on).doorDyn = s.doorDyn := rfl
@[simp] theorem State.setOutput_messages (n : LineId) (on : Bool) : (s.setOutput n on).messages = s.messages := rfl
@[simp] theorem State.setOutput_calls (n : LineId) (on : Bool) : (s.setOutput n on).calls = s.calls := rfl
@[simp] theorem State.setOutput_nextStamp (n : LineId) (on : Bool) : (s.setOutput n on).nextStamp = s.nextStamp := rfl
@[simp] theorem State.setOutput_zoneLines (n : LineId) (on : Bool) : (s.setOutput n on).zoneLines = s.zoneLines := rfl
@[simp] theorem State.setOutput_ramps (n : LineId) (on : Bool) : (s.setOutput n on).ramps = s.ramps := rfl
@[simp] theorem State.setOutput_rampDyn (n : LineId) (on : Bool) : (s.setOutput n on).rampDyn = s.rampDyn := rfl
@[simp] theorem State.setOutput_counters (n : LineId) (on : Bool) : (s.setOutput n on).counters = s.counters := rfl
@[simp] theorem State.setOutput_quality (n : LineId) (on : Bool) : (s.setOutput n on).quality = s.quality := rfl
@[simp] theorem State.setOutput_kept (n : LineId) (on : Bool) : (s.setOutput n on).kept = s.kept := rfl
@[simp] theorem State.setOutput_core (n : LineId) (on : Bool) : (s.setOutput n on).core = s.core := rfl

@[simp] theorem State.modTimer_timerDyn (ch : ChannelId) (f : TimerDyn → TimerDyn) :
    (s.modTimer ch f).timerDyn = Tab.upd s.timerDyn ch f := rfl
@[simp] theorem State.modTimer_pending (ch : ChannelId) (f : TimerDyn → TimerDyn) : (s.modTimer ch f).pending = s.pending := rfl
@[simp] theorem State.modTimer_now (ch : ChannelId) (f : TimerDyn → TimerDyn) : (s.modTimer ch f).now = s.now := rfl
@[simp] theorem State.modTimer_resetHeld (ch : ChannelId) (f : TimerDyn → TimerDyn) : (s.modTimer ch f).resetHeld = s.resetHeld := rfl
@[simp] theorem State.modTimer_straps (ch : ChannelId) (f : TimerDyn → TimerDyn) : (s.modTimer ch f).straps = s.straps := rfl
@[simp] theorem State.modTimer_pins (ch : ChannelId) (f : TimerDyn → TimerDyn) : (s.modTimer ch f).pins = s.pins := rfl
@[simp] theorem State.modTimer_device (ch : ChannelId) (f : TimerDyn → TimerDyn) : (s.modTimer ch f).device = s.device := rfl
@[simp] theorem State.modTimer_record (ch : ChannelId) (f : TimerDyn → TimerDyn) : (s.modTimer ch f).record = s.record := rfl
@[simp] theorem State.modTimer_ports (ch : ChannelId) (f : TimerDyn → TimerDyn) : (s.modTimer ch f).ports = s.ports := rfl
@[simp] theorem State.modTimer_bridgeLoss (ch : ChannelId) (f : TimerDyn → TimerDyn) : (s.modTimer ch f).bridgeLoss = s.bridgeLoss := rfl
@[simp] theorem State.modTimer_stations (ch : ChannelId) (f : TimerDyn → TimerDyn) : (s.modTimer ch f).stations = s.stations := rfl
@[simp] theorem State.modTimer_stationDyn (ch : ChannelId) (f : TimerDyn → TimerDyn) : (s.modTimer ch f).stationDyn = s.stationDyn := rfl
@[simp] theorem State.modTimer_owners (ch : ChannelId) (f : TimerDyn → TimerDyn) : (s.modTimer ch f).owners = s.owners := rfl
@[simp] theorem State.modTimer_mapCounts (ch : ChannelId) (f : TimerDyn → TimerDyn) : (s.modTimer ch f).mapCounts = s.mapCounts := rfl
@[simp] theorem State.modTimer_supervisionDue (ch : ChannelId) (f : TimerDyn → TimerDyn) : (s.modTimer ch f).supervisionDue = s.supervisionDue := rfl
@[simp] theorem State.modTimer_mirror (ch : ChannelId) (f : TimerDyn → TimerDyn) : (s.modTimer ch f).mirror = s.mirror := rfl
@[simp] theorem State.modTimer_lines (ch : ChannelId) (f : TimerDyn → TimerDyn) : (s.modTimer ch f).lines = s.lines := rfl
@[simp] theorem State.modTimer_lineDyn (ch : ChannelId) (f : TimerDyn → TimerDyn) : (s.modTimer ch f).lineDyn = s.lineDyn := rfl
@[simp] theorem State.modTimer_outputs (ch : ChannelId) (f : TimerDyn → TimerDyn) : (s.modTimer ch f).outputs = s.outputs := rfl
@[simp] theorem State.modTimer_lineCounts (ch : ChannelId) (f : TimerDyn → TimerDyn) : (s.modTimer ch f).lineCounts = s.lineCounts := rfl
@[simp] theorem State.modTimer_timers (ch : ChannelId) (f : TimerDyn → TimerDyn) : (s.modTimer ch f).timers = s.timers := rfl
@[simp] theorem State.modTimer_vectors (ch : ChannelId) (f : TimerDyn → TimerDyn) : (s.modTimer ch f).vectors = s.vectors := rfl
@[simp] theorem State.modTimer_codes (ch : ChannelId) (f : TimerDyn → TimerDyn) : (s.modTimer ch f).codes = s.codes := rfl
@[simp] theorem State.modTimer_alerts (ch : ChannelId) (f : TimerDyn → TimerDyn) : (s.modTimer ch f).alerts = s.alerts := rfl
@[simp] theorem State.modTimer_ga (ch : ChannelId) (f : TimerDyn → TimerDyn) : (s.modTimer ch f).ga = s.ga := rfl
@[simp] theorem State.modTimer_zones (ch : ChannelId) (f : TimerDyn → TimerDyn) : (s.modTimer ch f).zones = s.zones := rfl
@[simp] theorem State.modTimer_zoneDyn (ch : ChannelId) (f : TimerDyn → TimerDyn) : (s.modTimer ch f).zoneDyn = s.zoneDyn := rfl
@[simp] theorem State.modTimer_doors (ch : ChannelId) (f : TimerDyn → TimerDyn) : (s.modTimer ch f).doors = s.doors := rfl
@[simp] theorem State.modTimer_doorDyn (ch : ChannelId) (f : TimerDyn → TimerDyn) : (s.modTimer ch f).doorDyn = s.doorDyn := rfl
@[simp] theorem State.modTimer_messages (ch : ChannelId) (f : TimerDyn → TimerDyn) : (s.modTimer ch f).messages = s.messages := rfl
@[simp] theorem State.modTimer_calls (ch : ChannelId) (f : TimerDyn → TimerDyn) : (s.modTimer ch f).calls = s.calls := rfl
@[simp] theorem State.modTimer_nextStamp (ch : ChannelId) (f : TimerDyn → TimerDyn) : (s.modTimer ch f).nextStamp = s.nextStamp := rfl
@[simp] theorem State.modTimer_zoneLines (ch : ChannelId) (f : TimerDyn → TimerDyn) : (s.modTimer ch f).zoneLines = s.zoneLines := rfl
@[simp] theorem State.modTimer_ramps (ch : ChannelId) (f : TimerDyn → TimerDyn) : (s.modTimer ch f).ramps = s.ramps := rfl
@[simp] theorem State.modTimer_rampDyn (ch : ChannelId) (f : TimerDyn → TimerDyn) : (s.modTimer ch f).rampDyn = s.rampDyn := rfl
@[simp] theorem State.modTimer_counters (ch : ChannelId) (f : TimerDyn → TimerDyn) : (s.modTimer ch f).counters = s.counters := rfl
@[simp] theorem State.modTimer_quality (ch : ChannelId) (f : TimerDyn → TimerDyn) : (s.modTimer ch f).quality = s.quality := rfl

@[simp] theorem State.modCode_codes (c : Code) (f : CodeState → CodeState) :
    (s.modCode c f).codes = Tab.upd s.codes c f := rfl
@[simp] theorem State.modCode_pending (c : Code) (f : CodeState → CodeState) : (s.modCode c f).pending = s.pending := rfl
@[simp] theorem State.modCode_now (c : Code) (f : CodeState → CodeState) : (s.modCode c f).now = s.now := rfl
@[simp] theorem State.modCode_resetHeld (c : Code) (f : CodeState → CodeState) : (s.modCode c f).resetHeld = s.resetHeld := rfl
@[simp] theorem State.modCode_straps (c : Code) (f : CodeState → CodeState) : (s.modCode c f).straps = s.straps := rfl
@[simp] theorem State.modCode_pins (c : Code) (f : CodeState → CodeState) : (s.modCode c f).pins = s.pins := rfl
@[simp] theorem State.modCode_device (c : Code) (f : CodeState → CodeState) : (s.modCode c f).device = s.device := rfl
@[simp] theorem State.modCode_record (c : Code) (f : CodeState → CodeState) : (s.modCode c f).record = s.record := rfl
@[simp] theorem State.modCode_ports (c : Code) (f : CodeState → CodeState) : (s.modCode c f).ports = s.ports := rfl
@[simp] theorem State.modCode_bridgeLoss (c : Code) (f : CodeState → CodeState) : (s.modCode c f).bridgeLoss = s.bridgeLoss := rfl
@[simp] theorem State.modCode_stations (c : Code) (f : CodeState → CodeState) : (s.modCode c f).stations = s.stations := rfl
@[simp] theorem State.modCode_stationDyn (c : Code) (f : CodeState → CodeState) : (s.modCode c f).stationDyn = s.stationDyn := rfl
@[simp] theorem State.modCode_owners (c : Code) (f : CodeState → CodeState) : (s.modCode c f).owners = s.owners := rfl
@[simp] theorem State.modCode_mapCounts (c : Code) (f : CodeState → CodeState) : (s.modCode c f).mapCounts = s.mapCounts := rfl
@[simp] theorem State.modCode_supervisionDue (c : Code) (f : CodeState → CodeState) : (s.modCode c f).supervisionDue = s.supervisionDue := rfl
@[simp] theorem State.modCode_mirror (c : Code) (f : CodeState → CodeState) : (s.modCode c f).mirror = s.mirror := rfl
@[simp] theorem State.modCode_lines (c : Code) (f : CodeState → CodeState) : (s.modCode c f).lines = s.lines := rfl
@[simp] theorem State.modCode_lineDyn (c : Code) (f : CodeState → CodeState) : (s.modCode c f).lineDyn = s.lineDyn := rfl
@[simp] theorem State.modCode_outputs (c : Code) (f : CodeState → CodeState) : (s.modCode c f).outputs = s.outputs := rfl
@[simp] theorem State.modCode_lineCounts (c : Code) (f : CodeState → CodeState) : (s.modCode c f).lineCounts = s.lineCounts := rfl
@[simp] theorem State.modCode_timers (c : Code) (f : CodeState → CodeState) : (s.modCode c f).timers = s.timers := rfl
@[simp] theorem State.modCode_timerDyn (c : Code) (f : CodeState → CodeState) : (s.modCode c f).timerDyn = s.timerDyn := rfl
@[simp] theorem State.modCode_vectors (c : Code) (f : CodeState → CodeState) : (s.modCode c f).vectors = s.vectors := rfl
@[simp] theorem State.modCode_alerts (c : Code) (f : CodeState → CodeState) : (s.modCode c f).alerts = s.alerts := rfl
@[simp] theorem State.modCode_ga (c : Code) (f : CodeState → CodeState) : (s.modCode c f).ga = s.ga := rfl
@[simp] theorem State.modCode_zones (c : Code) (f : CodeState → CodeState) : (s.modCode c f).zones = s.zones := rfl
@[simp] theorem State.modCode_zoneDyn (c : Code) (f : CodeState → CodeState) : (s.modCode c f).zoneDyn = s.zoneDyn := rfl
@[simp] theorem State.modCode_doors (c : Code) (f : CodeState → CodeState) : (s.modCode c f).doors = s.doors := rfl
@[simp] theorem State.modCode_doorDyn (c : Code) (f : CodeState → CodeState) : (s.modCode c f).doorDyn = s.doorDyn := rfl
@[simp] theorem State.modCode_messages (c : Code) (f : CodeState → CodeState) : (s.modCode c f).messages = s.messages := rfl
@[simp] theorem State.modCode_calls (c : Code) (f : CodeState → CodeState) : (s.modCode c f).calls = s.calls := rfl
@[simp] theorem State.modCode_nextStamp (c : Code) (f : CodeState → CodeState) : (s.modCode c f).nextStamp = s.nextStamp := rfl
@[simp] theorem State.modCode_zoneLines (c : Code) (f : CodeState → CodeState) : (s.modCode c f).zoneLines = s.zoneLines := rfl
@[simp] theorem State.modCode_ramps (c : Code) (f : CodeState → CodeState) : (s.modCode c f).ramps = s.ramps := rfl
@[simp] theorem State.modCode_rampDyn (c : Code) (f : CodeState → CodeState) : (s.modCode c f).rampDyn = s.rampDyn := rfl
@[simp] theorem State.modCode_counters (c : Code) (f : CodeState → CodeState) : (s.modCode c f).counters = s.counters := rfl
@[simp] theorem State.modCode_quality (c : Code) (f : CodeState → CodeState) : (s.modCode c f).quality = s.quality := rfl
@[simp] theorem State.modCode_kept (c : Code) (f : CodeState → CodeState) : (s.modCode c f).kept = s.kept := rfl
@[simp] theorem State.modCode_core (c : Code) (f : CodeState → CodeState) : (s.modCode c f).core = s.core := rfl

@[simp] theorem State.modZone_zoneDyn (z : ZoneId) (f : ZoneDyn → ZoneDyn) :
    (s.modZone z f).zoneDyn = Tab.upd s.zoneDyn z f := rfl
@[simp] theorem State.modZone_pending (z : ZoneId) (f : ZoneDyn → ZoneDyn) : (s.modZone z f).pending = s.pending := rfl
@[simp] theorem State.modZone_now (z : ZoneId) (f : ZoneDyn → ZoneDyn) : (s.modZone z f).now = s.now := rfl
@[simp] theorem State.modZone_resetHeld (z : ZoneId) (f : ZoneDyn → ZoneDyn) : (s.modZone z f).resetHeld = s.resetHeld := rfl
@[simp] theorem State.modZone_straps (z : ZoneId) (f : ZoneDyn → ZoneDyn) : (s.modZone z f).straps = s.straps := rfl
@[simp] theorem State.modZone_pins (z : ZoneId) (f : ZoneDyn → ZoneDyn) : (s.modZone z f).pins = s.pins := rfl
@[simp] theorem State.modZone_device (z : ZoneId) (f : ZoneDyn → ZoneDyn) : (s.modZone z f).device = s.device := rfl
@[simp] theorem State.modZone_record (z : ZoneId) (f : ZoneDyn → ZoneDyn) : (s.modZone z f).record = s.record := rfl
@[simp] theorem State.modZone_ports (z : ZoneId) (f : ZoneDyn → ZoneDyn) : (s.modZone z f).ports = s.ports := rfl
@[simp] theorem State.modZone_bridgeLoss (z : ZoneId) (f : ZoneDyn → ZoneDyn) : (s.modZone z f).bridgeLoss = s.bridgeLoss := rfl
@[simp] theorem State.modZone_stations (z : ZoneId) (f : ZoneDyn → ZoneDyn) : (s.modZone z f).stations = s.stations := rfl
@[simp] theorem State.modZone_stationDyn (z : ZoneId) (f : ZoneDyn → ZoneDyn) : (s.modZone z f).stationDyn = s.stationDyn := rfl
@[simp] theorem State.modZone_owners (z : ZoneId) (f : ZoneDyn → ZoneDyn) : (s.modZone z f).owners = s.owners := rfl
@[simp] theorem State.modZone_mapCounts (z : ZoneId) (f : ZoneDyn → ZoneDyn) : (s.modZone z f).mapCounts = s.mapCounts := rfl
@[simp] theorem State.modZone_supervisionDue (z : ZoneId) (f : ZoneDyn → ZoneDyn) : (s.modZone z f).supervisionDue = s.supervisionDue := rfl
@[simp] theorem State.modZone_mirror (z : ZoneId) (f : ZoneDyn → ZoneDyn) : (s.modZone z f).mirror = s.mirror := rfl
@[simp] theorem State.modZone_lines (z : ZoneId) (f : ZoneDyn → ZoneDyn) : (s.modZone z f).lines = s.lines := rfl
@[simp] theorem State.modZone_lineDyn (z : ZoneId) (f : ZoneDyn → ZoneDyn) : (s.modZone z f).lineDyn = s.lineDyn := rfl
@[simp] theorem State.modZone_outputs (z : ZoneId) (f : ZoneDyn → ZoneDyn) : (s.modZone z f).outputs = s.outputs := rfl
@[simp] theorem State.modZone_lineCounts (z : ZoneId) (f : ZoneDyn → ZoneDyn) : (s.modZone z f).lineCounts = s.lineCounts := rfl
@[simp] theorem State.modZone_timers (z : ZoneId) (f : ZoneDyn → ZoneDyn) : (s.modZone z f).timers = s.timers := rfl
@[simp] theorem State.modZone_timerDyn (z : ZoneId) (f : ZoneDyn → ZoneDyn) : (s.modZone z f).timerDyn = s.timerDyn := rfl
@[simp] theorem State.modZone_vectors (z : ZoneId) (f : ZoneDyn → ZoneDyn) : (s.modZone z f).vectors = s.vectors := rfl
@[simp] theorem State.modZone_codes (z : ZoneId) (f : ZoneDyn → ZoneDyn) : (s.modZone z f).codes = s.codes := rfl
@[simp] theorem State.modZone_alerts (z : ZoneId) (f : ZoneDyn → ZoneDyn) : (s.modZone z f).alerts = s.alerts := rfl
@[simp] theorem State.modZone_ga (z : ZoneId) (f : ZoneDyn → ZoneDyn) : (s.modZone z f).ga = s.ga := rfl
@[simp] theorem State.modZone_zones (z : ZoneId) (f : ZoneDyn → ZoneDyn) : (s.modZone z f).zones = s.zones := rfl
@[simp] theorem State.modZone_doors (z : ZoneId) (f : ZoneDyn → ZoneDyn) : (s.modZone z f).doors = s.doors := rfl
@[simp] theorem State.modZone_doorDyn (z : ZoneId) (f : ZoneDyn → ZoneDyn) : (s.modZone z f).doorDyn = s.doorDyn := rfl
@[simp] theorem State.modZone_messages (z : ZoneId) (f : ZoneDyn → ZoneDyn) : (s.modZone z f).messages = s.messages := rfl
@[simp] theorem State.modZone_calls (z : ZoneId) (f : ZoneDyn → ZoneDyn) : (s.modZone z f).calls = s.calls := rfl
@[simp] theorem State.modZone_nextStamp (z : ZoneId) (f : ZoneDyn → ZoneDyn) : (s.modZone z f).nextStamp = s.nextStamp := rfl
@[simp] theorem State.modZone_zoneLines (z : ZoneId) (f : ZoneDyn → ZoneDyn) : (s.modZone z f).zoneLines = s.zoneLines := rfl
@[simp] theorem State.modZone_ramps (z : ZoneId) (f : ZoneDyn → ZoneDyn) : (s.modZone z f).ramps = s.ramps := rfl
@[simp] theorem State.modZone_rampDyn (z : ZoneId) (f : ZoneDyn → ZoneDyn) : (s.modZone z f).rampDyn = s.rampDyn := rfl
@[simp] theorem State.modZone_counters (z : ZoneId) (f : ZoneDyn → ZoneDyn) : (s.modZone z f).counters = s.counters := rfl
@[simp] theorem State.modZone_quality (z : ZoneId) (f : ZoneDyn → ZoneDyn) : (s.modZone z f).quality = s.quality := rfl
@[simp] theorem State.modZone_kept (z : ZoneId) (f : ZoneDyn → ZoneDyn) : (s.modZone z f).kept = s.kept := rfl
@[simp] theorem State.modZone_core (z : ZoneId) (f : ZoneDyn → ZoneDyn) : (s.modZone z f).core = s.core := rfl

@[simp] theorem State.modDoor_doorDyn (d : DoorId) (f : DoorDyn → DoorDyn) :
    (s.modDoor d f).doorDyn = Tab.upd s.doorDyn d f := rfl
@[simp] theorem State.modDoor_pending (d : DoorId) (f : DoorDyn → DoorDyn) : (s.modDoor d f).pending = s.pending := rfl
@[simp] theorem State.modDoor_now (d : DoorId) (f : DoorDyn → DoorDyn) : (s.modDoor d f).now = s.now := rfl
@[simp] theorem State.modDoor_resetHeld (d : DoorId) (f : DoorDyn → DoorDyn) : (s.modDoor d f).resetHeld = s.resetHeld := rfl
@[simp] theorem State.modDoor_straps (d : DoorId) (f : DoorDyn → DoorDyn) : (s.modDoor d f).straps = s.straps := rfl
@[simp] theorem State.modDoor_pins (d : DoorId) (f : DoorDyn → DoorDyn) : (s.modDoor d f).pins = s.pins := rfl
@[simp] theorem State.modDoor_device (d : DoorId) (f : DoorDyn → DoorDyn) : (s.modDoor d f).device = s.device := rfl
@[simp] theorem State.modDoor_record (d : DoorId) (f : DoorDyn → DoorDyn) : (s.modDoor d f).record = s.record := rfl
@[simp] theorem State.modDoor_ports (d : DoorId) (f : DoorDyn → DoorDyn) : (s.modDoor d f).ports = s.ports := rfl
@[simp] theorem State.modDoor_bridgeLoss (d : DoorId) (f : DoorDyn → DoorDyn) : (s.modDoor d f).bridgeLoss = s.bridgeLoss := rfl
@[simp] theorem State.modDoor_stations (d : DoorId) (f : DoorDyn → DoorDyn) : (s.modDoor d f).stations = s.stations := rfl
@[simp] theorem State.modDoor_stationDyn (d : DoorId) (f : DoorDyn → DoorDyn) : (s.modDoor d f).stationDyn = s.stationDyn := rfl
@[simp] theorem State.modDoor_owners (d : DoorId) (f : DoorDyn → DoorDyn) : (s.modDoor d f).owners = s.owners := rfl
@[simp] theorem State.modDoor_mapCounts (d : DoorId) (f : DoorDyn → DoorDyn) : (s.modDoor d f).mapCounts = s.mapCounts := rfl
@[simp] theorem State.modDoor_supervisionDue (d : DoorId) (f : DoorDyn → DoorDyn) : (s.modDoor d f).supervisionDue = s.supervisionDue := rfl
@[simp] theorem State.modDoor_mirror (d : DoorId) (f : DoorDyn → DoorDyn) : (s.modDoor d f).mirror = s.mirror := rfl
@[simp] theorem State.modDoor_lines (d : DoorId) (f : DoorDyn → DoorDyn) : (s.modDoor d f).lines = s.lines := rfl
@[simp] theorem State.modDoor_lineDyn (d : DoorId) (f : DoorDyn → DoorDyn) : (s.modDoor d f).lineDyn = s.lineDyn := rfl
@[simp] theorem State.modDoor_outputs (d : DoorId) (f : DoorDyn → DoorDyn) : (s.modDoor d f).outputs = s.outputs := rfl
@[simp] theorem State.modDoor_lineCounts (d : DoorId) (f : DoorDyn → DoorDyn) : (s.modDoor d f).lineCounts = s.lineCounts := rfl
@[simp] theorem State.modDoor_timers (d : DoorId) (f : DoorDyn → DoorDyn) : (s.modDoor d f).timers = s.timers := rfl
@[simp] theorem State.modDoor_timerDyn (d : DoorId) (f : DoorDyn → DoorDyn) : (s.modDoor d f).timerDyn = s.timerDyn := rfl
@[simp] theorem State.modDoor_vectors (d : DoorId) (f : DoorDyn → DoorDyn) : (s.modDoor d f).vectors = s.vectors := rfl
@[simp] theorem State.modDoor_codes (d : DoorId) (f : DoorDyn → DoorDyn) : (s.modDoor d f).codes = s.codes := rfl
@[simp] theorem State.modDoor_alerts (d : DoorId) (f : DoorDyn → DoorDyn) : (s.modDoor d f).alerts = s.alerts := rfl
@[simp] theorem State.modDoor_ga (d : DoorId) (f : DoorDyn → DoorDyn) : (s.modDoor d f).ga = s.ga := rfl
@[simp] theorem State.modDoor_zones (d : DoorId) (f : DoorDyn → DoorDyn) : (s.modDoor d f).zones = s.zones := rfl
@[simp] theorem State.modDoor_zoneDyn (d : DoorId) (f : DoorDyn → DoorDyn) : (s.modDoor d f).zoneDyn = s.zoneDyn := rfl
@[simp] theorem State.modDoor_doors (d : DoorId) (f : DoorDyn → DoorDyn) : (s.modDoor d f).doors = s.doors := rfl
@[simp] theorem State.modDoor_messages (d : DoorId) (f : DoorDyn → DoorDyn) : (s.modDoor d f).messages = s.messages := rfl
@[simp] theorem State.modDoor_calls (d : DoorId) (f : DoorDyn → DoorDyn) : (s.modDoor d f).calls = s.calls := rfl
@[simp] theorem State.modDoor_nextStamp (d : DoorId) (f : DoorDyn → DoorDyn) : (s.modDoor d f).nextStamp = s.nextStamp := rfl
@[simp] theorem State.modDoor_zoneLines (d : DoorId) (f : DoorDyn → DoorDyn) : (s.modDoor d f).zoneLines = s.zoneLines := rfl
@[simp] theorem State.modDoor_ramps (d : DoorId) (f : DoorDyn → DoorDyn) : (s.modDoor d f).ramps = s.ramps := rfl
@[simp] theorem State.modDoor_rampDyn (d : DoorId) (f : DoorDyn → DoorDyn) : (s.modDoor d f).rampDyn = s.rampDyn := rfl
@[simp] theorem State.modDoor_counters (d : DoorId) (f : DoorDyn → DoorDyn) : (s.modDoor d f).counters = s.counters := rfl
@[simp] theorem State.modDoor_quality (d : DoorId) (f : DoorDyn → DoorDyn) : (s.modDoor d f).quality = s.quality := rfl
@[simp] theorem State.modDoor_kept (d : DoorId) (f : DoorDyn → DoorDyn) : (s.modDoor d f).kept = s.kept := rfl
@[simp] theorem State.modDoor_core (d : DoorId) (f : DoorDyn → DoorDyn) : (s.modDoor d f).core = s.core := rfl

@[simp] theorem State.modRamp_rampDyn (r : RampId) (f : RampDyn → RampDyn) :
    (s.modRamp r f).rampDyn = Tab.upd s.rampDyn r f := rfl
@[simp] theorem State.modRamp_pending (r : RampId) (f : RampDyn → RampDyn) : (s.modRamp r f).pending = s.pending := rfl
@[simp] theorem State.modRamp_now (r : RampId) (f : RampDyn → RampDyn) : (s.modRamp r f).now = s.now := rfl
@[simp] theorem State.modRamp_resetHeld (r : RampId) (f : RampDyn → RampDyn) : (s.modRamp r f).resetHeld = s.resetHeld := rfl
@[simp] theorem State.modRamp_straps (r : RampId) (f : RampDyn → RampDyn) : (s.modRamp r f).straps = s.straps := rfl
@[simp] theorem State.modRamp_pins (r : RampId) (f : RampDyn → RampDyn) : (s.modRamp r f).pins = s.pins := rfl
@[simp] theorem State.modRamp_device (r : RampId) (f : RampDyn → RampDyn) : (s.modRamp r f).device = s.device := rfl
@[simp] theorem State.modRamp_record (r : RampId) (f : RampDyn → RampDyn) : (s.modRamp r f).record = s.record := rfl
@[simp] theorem State.modRamp_ports (r : RampId) (f : RampDyn → RampDyn) : (s.modRamp r f).ports = s.ports := rfl
@[simp] theorem State.modRamp_bridgeLoss (r : RampId) (f : RampDyn → RampDyn) : (s.modRamp r f).bridgeLoss = s.bridgeLoss := rfl
@[simp] theorem State.modRamp_stations (r : RampId) (f : RampDyn → RampDyn) : (s.modRamp r f).stations = s.stations := rfl
@[simp] theorem State.modRamp_stationDyn (r : RampId) (f : RampDyn → RampDyn) : (s.modRamp r f).stationDyn = s.stationDyn := rfl
@[simp] theorem State.modRamp_owners (r : RampId) (f : RampDyn → RampDyn) : (s.modRamp r f).owners = s.owners := rfl
@[simp] theorem State.modRamp_mapCounts (r : RampId) (f : RampDyn → RampDyn) : (s.modRamp r f).mapCounts = s.mapCounts := rfl
@[simp] theorem State.modRamp_supervisionDue (r : RampId) (f : RampDyn → RampDyn) : (s.modRamp r f).supervisionDue = s.supervisionDue := rfl
@[simp] theorem State.modRamp_mirror (r : RampId) (f : RampDyn → RampDyn) : (s.modRamp r f).mirror = s.mirror := rfl
@[simp] theorem State.modRamp_lines (r : RampId) (f : RampDyn → RampDyn) : (s.modRamp r f).lines = s.lines := rfl
@[simp] theorem State.modRamp_lineDyn (r : RampId) (f : RampDyn → RampDyn) : (s.modRamp r f).lineDyn = s.lineDyn := rfl
@[simp] theorem State.modRamp_outputs (r : RampId) (f : RampDyn → RampDyn) : (s.modRamp r f).outputs = s.outputs := rfl
@[simp] theorem State.modRamp_lineCounts (r : RampId) (f : RampDyn → RampDyn) : (s.modRamp r f).lineCounts = s.lineCounts := rfl
@[simp] theorem State.modRamp_timers (r : RampId) (f : RampDyn → RampDyn) : (s.modRamp r f).timers = s.timers := rfl
@[simp] theorem State.modRamp_timerDyn (r : RampId) (f : RampDyn → RampDyn) : (s.modRamp r f).timerDyn = s.timerDyn := rfl
@[simp] theorem State.modRamp_vectors (r : RampId) (f : RampDyn → RampDyn) : (s.modRamp r f).vectors = s.vectors := rfl
@[simp] theorem State.modRamp_codes (r : RampId) (f : RampDyn → RampDyn) : (s.modRamp r f).codes = s.codes := rfl
@[simp] theorem State.modRamp_alerts (r : RampId) (f : RampDyn → RampDyn) : (s.modRamp r f).alerts = s.alerts := rfl
@[simp] theorem State.modRamp_ga (r : RampId) (f : RampDyn → RampDyn) : (s.modRamp r f).ga = s.ga := rfl
@[simp] theorem State.modRamp_zones (r : RampId) (f : RampDyn → RampDyn) : (s.modRamp r f).zones = s.zones := rfl
@[simp] theorem State.modRamp_zoneDyn (r : RampId) (f : RampDyn → RampDyn) : (s.modRamp r f).zoneDyn = s.zoneDyn := rfl
@[simp] theorem State.modRamp_doors (r : RampId) (f : RampDyn → RampDyn) : (s.modRamp r f).doors = s.doors := rfl
@[simp] theorem State.modRamp_doorDyn (r : RampId) (f : RampDyn → RampDyn) : (s.modRamp r f).doorDyn = s.doorDyn := rfl
@[simp] theorem State.modRamp_messages (r : RampId) (f : RampDyn → RampDyn) : (s.modRamp r f).messages = s.messages := rfl
@[simp] theorem State.modRamp_calls (r : RampId) (f : RampDyn → RampDyn) : (s.modRamp r f).calls = s.calls := rfl
@[simp] theorem State.modRamp_nextStamp (r : RampId) (f : RampDyn → RampDyn) : (s.modRamp r f).nextStamp = s.nextStamp := rfl
@[simp] theorem State.modRamp_zoneLines (r : RampId) (f : RampDyn → RampDyn) : (s.modRamp r f).zoneLines = s.zoneLines := rfl
@[simp] theorem State.modRamp_ramps (r : RampId) (f : RampDyn → RampDyn) : (s.modRamp r f).ramps = s.ramps := rfl
@[simp] theorem State.modRamp_counters (r : RampId) (f : RampDyn → RampDyn) : (s.modRamp r f).counters = s.counters := rfl
@[simp] theorem State.modRamp_quality (r : RampId) (f : RampDyn → RampDyn) : (s.modRamp r f).quality = s.quality := rfl
@[simp] theorem State.modRamp_kept (r : RampId) (f : RampDyn → RampDyn) : (s.modRamp r f).kept = s.kept := rfl
@[simp] theorem State.modRamp_core (r : RampId) (f : RampDyn → RampDyn) : (s.modRamp r f).core = s.core := rfl

@[simp] theorem State.modZoneLine_zoneLines (z : ZoneId) (f : ZoneLine → ZoneLine) :
    (s.modZoneLine z f).zoneLines = Tab.upd s.zoneLines z f := rfl
@[simp] theorem State.modZoneLine_pending (z : ZoneId) (f : ZoneLine → ZoneLine) : (s.modZoneLine z f).pending = s.pending := rfl
@[simp] theorem State.modZoneLine_now (z : ZoneId) (f : ZoneLine → ZoneLine) : (s.modZoneLine z f).now = s.now := rfl
@[simp] theorem State.modZoneLine_resetHeld (z : ZoneId) (f : ZoneLine → ZoneLine) : (s.modZoneLine z f).resetHeld = s.resetHeld := rfl
@[simp] theorem State.modZoneLine_straps (z : ZoneId) (f : ZoneLine → ZoneLine) : (s.modZoneLine z f).straps = s.straps := rfl
@[simp] theorem State.modZoneLine_pins (z : ZoneId) (f : ZoneLine → ZoneLine) : (s.modZoneLine z f).pins = s.pins := rfl
@[simp] theorem State.modZoneLine_device (z : ZoneId) (f : ZoneLine → ZoneLine) : (s.modZoneLine z f).device = s.device := rfl
@[simp] theorem State.modZoneLine_record (z : ZoneId) (f : ZoneLine → ZoneLine) : (s.modZoneLine z f).record = s.record := rfl
@[simp] theorem State.modZoneLine_ports (z : ZoneId) (f : ZoneLine → ZoneLine) : (s.modZoneLine z f).ports = s.ports := rfl
@[simp] theorem State.modZoneLine_bridgeLoss (z : ZoneId) (f : ZoneLine → ZoneLine) : (s.modZoneLine z f).bridgeLoss = s.bridgeLoss := rfl
@[simp] theorem State.modZoneLine_stations (z : ZoneId) (f : ZoneLine → ZoneLine) : (s.modZoneLine z f).stations = s.stations := rfl
@[simp] theorem State.modZoneLine_stationDyn (z : ZoneId) (f : ZoneLine → ZoneLine) : (s.modZoneLine z f).stationDyn = s.stationDyn := rfl
@[simp] theorem State.modZoneLine_owners (z : ZoneId) (f : ZoneLine → ZoneLine) : (s.modZoneLine z f).owners = s.owners := rfl
@[simp] theorem State.modZoneLine_mapCounts (z : ZoneId) (f : ZoneLine → ZoneLine) : (s.modZoneLine z f).mapCounts = s.mapCounts := rfl
@[simp] theorem State.modZoneLine_supervisionDue (z : ZoneId) (f : ZoneLine → ZoneLine) : (s.modZoneLine z f).supervisionDue = s.supervisionDue := rfl
@[simp] theorem State.modZoneLine_mirror (z : ZoneId) (f : ZoneLine → ZoneLine) : (s.modZoneLine z f).mirror = s.mirror := rfl
@[simp] theorem State.modZoneLine_lines (z : ZoneId) (f : ZoneLine → ZoneLine) : (s.modZoneLine z f).lines = s.lines := rfl
@[simp] theorem State.modZoneLine_lineDyn (z : ZoneId) (f : ZoneLine → ZoneLine) : (s.modZoneLine z f).lineDyn = s.lineDyn := rfl
@[simp] theorem State.modZoneLine_outputs (z : ZoneId) (f : ZoneLine → ZoneLine) : (s.modZoneLine z f).outputs = s.outputs := rfl
@[simp] theorem State.modZoneLine_lineCounts (z : ZoneId) (f : ZoneLine → ZoneLine) : (s.modZoneLine z f).lineCounts = s.lineCounts := rfl
@[simp] theorem State.modZoneLine_timers (z : ZoneId) (f : ZoneLine → ZoneLine) : (s.modZoneLine z f).timers = s.timers := rfl
@[simp] theorem State.modZoneLine_timerDyn (z : ZoneId) (f : ZoneLine → ZoneLine) : (s.modZoneLine z f).timerDyn = s.timerDyn := rfl
@[simp] theorem State.modZoneLine_vectors (z : ZoneId) (f : ZoneLine → ZoneLine) : (s.modZoneLine z f).vectors = s.vectors := rfl
@[simp] theorem State.modZoneLine_codes (z : ZoneId) (f : ZoneLine → ZoneLine) : (s.modZoneLine z f).codes = s.codes := rfl
@[simp] theorem State.modZoneLine_alerts (z : ZoneId) (f : ZoneLine → ZoneLine) : (s.modZoneLine z f).alerts = s.alerts := rfl
@[simp] theorem State.modZoneLine_ga (z : ZoneId) (f : ZoneLine → ZoneLine) : (s.modZoneLine z f).ga = s.ga := rfl
@[simp] theorem State.modZoneLine_zones (z : ZoneId) (f : ZoneLine → ZoneLine) : (s.modZoneLine z f).zones = s.zones := rfl
@[simp] theorem State.modZoneLine_zoneDyn (z : ZoneId) (f : ZoneLine → ZoneLine) : (s.modZoneLine z f).zoneDyn = s.zoneDyn := rfl
@[simp] theorem State.modZoneLine_doors (z : ZoneId) (f : ZoneLine → ZoneLine) : (s.modZoneLine z f).doors = s.doors := rfl
@[simp] theorem State.modZoneLine_doorDyn (z : ZoneId) (f : ZoneLine → ZoneLine) : (s.modZoneLine z f).doorDyn = s.doorDyn := rfl
@[simp] theorem State.modZoneLine_messages (z : ZoneId) (f : ZoneLine → ZoneLine) : (s.modZoneLine z f).messages = s.messages := rfl
@[simp] theorem State.modZoneLine_calls (z : ZoneId) (f : ZoneLine → ZoneLine) : (s.modZoneLine z f).calls = s.calls := rfl
@[simp] theorem State.modZoneLine_nextStamp (z : ZoneId) (f : ZoneLine → ZoneLine) : (s.modZoneLine z f).nextStamp = s.nextStamp := rfl
@[simp] theorem State.modZoneLine_ramps (z : ZoneId) (f : ZoneLine → ZoneLine) : (s.modZoneLine z f).ramps = s.ramps := rfl
@[simp] theorem State.modZoneLine_rampDyn (z : ZoneId) (f : ZoneLine → ZoneLine) : (s.modZoneLine z f).rampDyn = s.rampDyn := rfl
@[simp] theorem State.modZoneLine_counters (z : ZoneId) (f : ZoneLine → ZoneLine) : (s.modZoneLine z f).counters = s.counters := rfl
@[simp] theorem State.modZoneLine_quality (z : ZoneId) (f : ZoneLine → ZoneLine) : (s.modZoneLine z f).quality = s.quality := rfl
@[simp] theorem State.modZoneLine_kept (z : ZoneId) (f : ZoneLine → ZoneLine) : (s.modZoneLine z f).kept = s.kept := rfl
@[simp] theorem State.modZoneLine_core (z : ZoneId) (f : ZoneLine → ZoneLine) : (s.modZoneLine z f).core = s.core := rfl

@[simp] theorem State.modCall_calls (k : Nat) (f : CallRecord → CallRecord) :
    (s.modCall k f).calls = s.calls.map fun c => if c.stamp = k then f c else c := rfl
@[simp] theorem State.modCall_pending (k : Nat) (f : CallRecord → CallRecord) : (s.modCall k f).pending = s.pending := rfl
@[simp] theorem State.modCall_now (k : Nat) (f : CallRecord → CallRecord) : (s.modCall k f).now = s.now := rfl
@[simp] theorem State.modCall_resetHeld (k : Nat) (f : CallRecord → CallRecord) : (s.modCall k f).resetHeld = s.resetHeld := rfl
@[simp] theorem State.modCall_straps (k : Nat) (f : CallRecord → CallRecord) : (s.modCall k f).straps = s.straps := rfl
@[simp] theorem State.modCall_pins (k : Nat) (f : CallRecord → CallRecord) : (s.modCall k f).pins = s.pins := rfl
@[simp] theorem State.modCall_device (k : Nat) (f : CallRecord → CallRecord) : (s.modCall k f).device = s.device := rfl
@[simp] theorem State.modCall_record (k : Nat) (f : CallRecord → CallRecord) : (s.modCall k f).record = s.record := rfl
@[simp] theorem State.modCall_ports (k : Nat) (f : CallRecord → CallRecord) : (s.modCall k f).ports = s.ports := rfl
@[simp] theorem State.modCall_bridgeLoss (k : Nat) (f : CallRecord → CallRecord) : (s.modCall k f).bridgeLoss = s.bridgeLoss := rfl
@[simp] theorem State.modCall_stations (k : Nat) (f : CallRecord → CallRecord) : (s.modCall k f).stations = s.stations := rfl
@[simp] theorem State.modCall_stationDyn (k : Nat) (f : CallRecord → CallRecord) : (s.modCall k f).stationDyn = s.stationDyn := rfl
@[simp] theorem State.modCall_owners (k : Nat) (f : CallRecord → CallRecord) : (s.modCall k f).owners = s.owners := rfl
@[simp] theorem State.modCall_mapCounts (k : Nat) (f : CallRecord → CallRecord) : (s.modCall k f).mapCounts = s.mapCounts := rfl
@[simp] theorem State.modCall_supervisionDue (k : Nat) (f : CallRecord → CallRecord) : (s.modCall k f).supervisionDue = s.supervisionDue := rfl
@[simp] theorem State.modCall_mirror (k : Nat) (f : CallRecord → CallRecord) : (s.modCall k f).mirror = s.mirror := rfl
@[simp] theorem State.modCall_lines (k : Nat) (f : CallRecord → CallRecord) : (s.modCall k f).lines = s.lines := rfl
@[simp] theorem State.modCall_lineDyn (k : Nat) (f : CallRecord → CallRecord) : (s.modCall k f).lineDyn = s.lineDyn := rfl
@[simp] theorem State.modCall_outputs (k : Nat) (f : CallRecord → CallRecord) : (s.modCall k f).outputs = s.outputs := rfl
@[simp] theorem State.modCall_lineCounts (k : Nat) (f : CallRecord → CallRecord) : (s.modCall k f).lineCounts = s.lineCounts := rfl
@[simp] theorem State.modCall_timers (k : Nat) (f : CallRecord → CallRecord) : (s.modCall k f).timers = s.timers := rfl
@[simp] theorem State.modCall_timerDyn (k : Nat) (f : CallRecord → CallRecord) : (s.modCall k f).timerDyn = s.timerDyn := rfl
@[simp] theorem State.modCall_vectors (k : Nat) (f : CallRecord → CallRecord) : (s.modCall k f).vectors = s.vectors := rfl
@[simp] theorem State.modCall_codes (k : Nat) (f : CallRecord → CallRecord) : (s.modCall k f).codes = s.codes := rfl
@[simp] theorem State.modCall_alerts (k : Nat) (f : CallRecord → CallRecord) : (s.modCall k f).alerts = s.alerts := rfl
@[simp] theorem State.modCall_ga (k : Nat) (f : CallRecord → CallRecord) : (s.modCall k f).ga = s.ga := rfl
@[simp] theorem State.modCall_zones (k : Nat) (f : CallRecord → CallRecord) : (s.modCall k f).zones = s.zones := rfl
@[simp] theorem State.modCall_zoneDyn (k : Nat) (f : CallRecord → CallRecord) : (s.modCall k f).zoneDyn = s.zoneDyn := rfl
@[simp] theorem State.modCall_doors (k : Nat) (f : CallRecord → CallRecord) : (s.modCall k f).doors = s.doors := rfl
@[simp] theorem State.modCall_doorDyn (k : Nat) (f : CallRecord → CallRecord) : (s.modCall k f).doorDyn = s.doorDyn := rfl
@[simp] theorem State.modCall_messages (k : Nat) (f : CallRecord → CallRecord) : (s.modCall k f).messages = s.messages := rfl
@[simp] theorem State.modCall_nextStamp (k : Nat) (f : CallRecord → CallRecord) : (s.modCall k f).nextStamp = s.nextStamp := rfl
@[simp] theorem State.modCall_zoneLines (k : Nat) (f : CallRecord → CallRecord) : (s.modCall k f).zoneLines = s.zoneLines := rfl
@[simp] theorem State.modCall_ramps (k : Nat) (f : CallRecord → CallRecord) : (s.modCall k f).ramps = s.ramps := rfl
@[simp] theorem State.modCall_rampDyn (k : Nat) (f : CallRecord → CallRecord) : (s.modCall k f).rampDyn = s.rampDyn := rfl
@[simp] theorem State.modCall_counters (k : Nat) (f : CallRecord → CallRecord) : (s.modCall k f).counters = s.counters := rfl
@[simp] theorem State.modCall_quality (k : Nat) (f : CallRecord → CallRecord) : (s.modCall k f).quality = s.quality := rfl
@[simp] theorem State.modCall_kept (k : Nat) (f : CallRecord → CallRecord) : (s.modCall k f).kept = s.kept := rfl
@[simp] theorem State.modCall_core (k : Nat) (f : CallRecord → CallRecord) : (s.modCall k f).core = s.core := rfl

@[simp] theorem State.modAlerts_alerts (f : Alerts → Alerts) :
    (s.modAlerts f).alerts = f s.alerts := rfl
@[simp] theorem State.modAlerts_pending (f : Alerts → Alerts) : (s.modAlerts f).pending = s.pending := rfl
@[simp] theorem State.modAlerts_now (f : Alerts → Alerts) : (s.modAlerts f).now = s.now := rfl
@[simp] theorem State.modAlerts_resetHeld (f : Alerts → Alerts) : (s.modAlerts f).resetHeld = s.resetHeld := rfl
@[simp] theorem State.modAlerts_straps (f : Alerts → Alerts) : (s.modAlerts f).straps = s.straps := rfl
@[simp] theorem State.modAlerts_pins (f : Alerts → Alerts) : (s.modAlerts f).pins = s.pins := rfl
@[simp] theorem State.modAlerts_device (f : Alerts → Alerts) : (s.modAlerts f).device = s.device := rfl
@[simp] theorem State.modAlerts_record (f : Alerts → Alerts) : (s.modAlerts f).record = s.record := rfl
@[simp] theorem State.modAlerts_ports (f : Alerts → Alerts) : (s.modAlerts f).ports = s.ports := rfl
@[simp] theorem State.modAlerts_bridgeLoss (f : Alerts → Alerts) : (s.modAlerts f).bridgeLoss = s.bridgeLoss := rfl
@[simp] theorem State.modAlerts_stations (f : Alerts → Alerts) : (s.modAlerts f).stations = s.stations := rfl
@[simp] theorem State.modAlerts_stationDyn (f : Alerts → Alerts) : (s.modAlerts f).stationDyn = s.stationDyn := rfl
@[simp] theorem State.modAlerts_owners (f : Alerts → Alerts) : (s.modAlerts f).owners = s.owners := rfl
@[simp] theorem State.modAlerts_mapCounts (f : Alerts → Alerts) : (s.modAlerts f).mapCounts = s.mapCounts := rfl
@[simp] theorem State.modAlerts_supervisionDue (f : Alerts → Alerts) : (s.modAlerts f).supervisionDue = s.supervisionDue := rfl
@[simp] theorem State.modAlerts_mirror (f : Alerts → Alerts) : (s.modAlerts f).mirror = s.mirror := rfl
@[simp] theorem State.modAlerts_lines (f : Alerts → Alerts) : (s.modAlerts f).lines = s.lines := rfl
@[simp] theorem State.modAlerts_lineDyn (f : Alerts → Alerts) : (s.modAlerts f).lineDyn = s.lineDyn := rfl
@[simp] theorem State.modAlerts_outputs (f : Alerts → Alerts) : (s.modAlerts f).outputs = s.outputs := rfl
@[simp] theorem State.modAlerts_lineCounts (f : Alerts → Alerts) : (s.modAlerts f).lineCounts = s.lineCounts := rfl
@[simp] theorem State.modAlerts_timers (f : Alerts → Alerts) : (s.modAlerts f).timers = s.timers := rfl
@[simp] theorem State.modAlerts_timerDyn (f : Alerts → Alerts) : (s.modAlerts f).timerDyn = s.timerDyn := rfl
@[simp] theorem State.modAlerts_vectors (f : Alerts → Alerts) : (s.modAlerts f).vectors = s.vectors := rfl
@[simp] theorem State.modAlerts_codes (f : Alerts → Alerts) : (s.modAlerts f).codes = s.codes := rfl
@[simp] theorem State.modAlerts_ga (f : Alerts → Alerts) : (s.modAlerts f).ga = s.ga := rfl
@[simp] theorem State.modAlerts_zones (f : Alerts → Alerts) : (s.modAlerts f).zones = s.zones := rfl
@[simp] theorem State.modAlerts_zoneDyn (f : Alerts → Alerts) : (s.modAlerts f).zoneDyn = s.zoneDyn := rfl
@[simp] theorem State.modAlerts_doors (f : Alerts → Alerts) : (s.modAlerts f).doors = s.doors := rfl
@[simp] theorem State.modAlerts_doorDyn (f : Alerts → Alerts) : (s.modAlerts f).doorDyn = s.doorDyn := rfl
@[simp] theorem State.modAlerts_messages (f : Alerts → Alerts) : (s.modAlerts f).messages = s.messages := rfl
@[simp] theorem State.modAlerts_calls (f : Alerts → Alerts) : (s.modAlerts f).calls = s.calls := rfl
@[simp] theorem State.modAlerts_nextStamp (f : Alerts → Alerts) : (s.modAlerts f).nextStamp = s.nextStamp := rfl
@[simp] theorem State.modAlerts_zoneLines (f : Alerts → Alerts) : (s.modAlerts f).zoneLines = s.zoneLines := rfl
@[simp] theorem State.modAlerts_ramps (f : Alerts → Alerts) : (s.modAlerts f).ramps = s.ramps := rfl
@[simp] theorem State.modAlerts_rampDyn (f : Alerts → Alerts) : (s.modAlerts f).rampDyn = s.rampDyn := rfl
@[simp] theorem State.modAlerts_counters (f : Alerts → Alerts) : (s.modAlerts f).counters = s.counters := rfl
@[simp] theorem State.modAlerts_quality (f : Alerts → Alerts) : (s.modAlerts f).quality = s.quality := rfl
@[simp] theorem State.modAlerts_kept (f : Alerts → Alerts) : (s.modAlerts f).kept = s.kept := rfl

@[simp] theorem State.modGa_ga (f : GeneralAlarm → GeneralAlarm) :
    (s.modGa f).ga = f s.ga := rfl
@[simp] theorem State.modGa_pending (f : GeneralAlarm → GeneralAlarm) : (s.modGa f).pending = s.pending := rfl
@[simp] theorem State.modGa_now (f : GeneralAlarm → GeneralAlarm) : (s.modGa f).now = s.now := rfl
@[simp] theorem State.modGa_resetHeld (f : GeneralAlarm → GeneralAlarm) : (s.modGa f).resetHeld = s.resetHeld := rfl
@[simp] theorem State.modGa_straps (f : GeneralAlarm → GeneralAlarm) : (s.modGa f).straps = s.straps := rfl
@[simp] theorem State.modGa_pins (f : GeneralAlarm → GeneralAlarm) : (s.modGa f).pins = s.pins := rfl
@[simp] theorem State.modGa_device (f : GeneralAlarm → GeneralAlarm) : (s.modGa f).device = s.device := rfl
@[simp] theorem State.modGa_record (f : GeneralAlarm → GeneralAlarm) : (s.modGa f).record = s.record := rfl
@[simp] theorem State.modGa_ports (f : GeneralAlarm → GeneralAlarm) : (s.modGa f).ports = s.ports := rfl
@[simp] theorem State.modGa_bridgeLoss (f : GeneralAlarm → GeneralAlarm) : (s.modGa f).bridgeLoss = s.bridgeLoss := rfl
@[simp] theorem State.modGa_stations (f : GeneralAlarm → GeneralAlarm) : (s.modGa f).stations = s.stations := rfl
@[simp] theorem State.modGa_stationDyn (f : GeneralAlarm → GeneralAlarm) : (s.modGa f).stationDyn = s.stationDyn := rfl
@[simp] theorem State.modGa_owners (f : GeneralAlarm → GeneralAlarm) : (s.modGa f).owners = s.owners := rfl
@[simp] theorem State.modGa_mapCounts (f : GeneralAlarm → GeneralAlarm) : (s.modGa f).mapCounts = s.mapCounts := rfl
@[simp] theorem State.modGa_supervisionDue (f : GeneralAlarm → GeneralAlarm) : (s.modGa f).supervisionDue = s.supervisionDue := rfl
@[simp] theorem State.modGa_mirror (f : GeneralAlarm → GeneralAlarm) : (s.modGa f).mirror = s.mirror := rfl
@[simp] theorem State.modGa_lines (f : GeneralAlarm → GeneralAlarm) : (s.modGa f).lines = s.lines := rfl
@[simp] theorem State.modGa_lineDyn (f : GeneralAlarm → GeneralAlarm) : (s.modGa f).lineDyn = s.lineDyn := rfl
@[simp] theorem State.modGa_outputs (f : GeneralAlarm → GeneralAlarm) : (s.modGa f).outputs = s.outputs := rfl
@[simp] theorem State.modGa_lineCounts (f : GeneralAlarm → GeneralAlarm) : (s.modGa f).lineCounts = s.lineCounts := rfl
@[simp] theorem State.modGa_timers (f : GeneralAlarm → GeneralAlarm) : (s.modGa f).timers = s.timers := rfl
@[simp] theorem State.modGa_timerDyn (f : GeneralAlarm → GeneralAlarm) : (s.modGa f).timerDyn = s.timerDyn := rfl
@[simp] theorem State.modGa_vectors (f : GeneralAlarm → GeneralAlarm) : (s.modGa f).vectors = s.vectors := rfl
@[simp] theorem State.modGa_codes (f : GeneralAlarm → GeneralAlarm) : (s.modGa f).codes = s.codes := rfl
@[simp] theorem State.modGa_alerts (f : GeneralAlarm → GeneralAlarm) : (s.modGa f).alerts = s.alerts := rfl
@[simp] theorem State.modGa_zones (f : GeneralAlarm → GeneralAlarm) : (s.modGa f).zones = s.zones := rfl
@[simp] theorem State.modGa_zoneDyn (f : GeneralAlarm → GeneralAlarm) : (s.modGa f).zoneDyn = s.zoneDyn := rfl
@[simp] theorem State.modGa_doors (f : GeneralAlarm → GeneralAlarm) : (s.modGa f).doors = s.doors := rfl
@[simp] theorem State.modGa_doorDyn (f : GeneralAlarm → GeneralAlarm) : (s.modGa f).doorDyn = s.doorDyn := rfl
@[simp] theorem State.modGa_messages (f : GeneralAlarm → GeneralAlarm) : (s.modGa f).messages = s.messages := rfl
@[simp] theorem State.modGa_calls (f : GeneralAlarm → GeneralAlarm) : (s.modGa f).calls = s.calls := rfl
@[simp] theorem State.modGa_nextStamp (f : GeneralAlarm → GeneralAlarm) : (s.modGa f).nextStamp = s.nextStamp := rfl
@[simp] theorem State.modGa_zoneLines (f : GeneralAlarm → GeneralAlarm) : (s.modGa f).zoneLines = s.zoneLines := rfl
@[simp] theorem State.modGa_ramps (f : GeneralAlarm → GeneralAlarm) : (s.modGa f).ramps = s.ramps := rfl
@[simp] theorem State.modGa_rampDyn (f : GeneralAlarm → GeneralAlarm) : (s.modGa f).rampDyn = s.rampDyn := rfl
@[simp] theorem State.modGa_counters (f : GeneralAlarm → GeneralAlarm) : (s.modGa f).counters = s.counters := rfl
@[simp] theorem State.modGa_quality (f : GeneralAlarm → GeneralAlarm) : (s.modGa f).quality = s.quality := rfl
@[simp] theorem State.modGa_kept (f : GeneralAlarm → GeneralAlarm) : (s.modGa f).kept = s.kept := rfl

@[simp] theorem setCounter_pending (set : CounterSet) (i : CounterId) (v : Word32) :
    (setCounter set i v s).pending = s.pending := rfl
@[simp] theorem setCounter_now (set : CounterSet) (i : CounterId) (v : Word32) :
    (setCounter set i v s).now = s.now := rfl
@[simp] theorem setCounter_resetHeld (set : CounterSet) (i : CounterId) (v : Word32) :
    (setCounter set i v s).resetHeld = s.resetHeld := rfl
@[simp] theorem setCounter_straps (set : CounterSet) (i : CounterId) (v : Word32) :
    (setCounter set i v s).straps = s.straps := rfl
@[simp] theorem setCounter_pins (set : CounterSet) (i : CounterId) (v : Word32) :
    (setCounter set i v s).pins = s.pins := rfl
@[simp] theorem setCounter_device (set : CounterSet) (i : CounterId) (v : Word32) :
    (setCounter set i v s).device = s.device := rfl
@[simp] theorem setCounter_record (set : CounterSet) (i : CounterId) (v : Word32) :
    (setCounter set i v s).record = s.record := rfl
@[simp] theorem setCounter_ports (set : CounterSet) (i : CounterId) (v : Word32) :
    (setCounter set i v s).ports = s.ports := rfl
@[simp] theorem setCounter_bridgeLoss (set : CounterSet) (i : CounterId) (v : Word32) :
    (setCounter set i v s).bridgeLoss = s.bridgeLoss := rfl
@[simp] theorem setCounter_stations (set : CounterSet) (i : CounterId) (v : Word32) :
    (setCounter set i v s).stations = s.stations := rfl
@[simp] theorem setCounter_stationDyn (set : CounterSet) (i : CounterId) (v : Word32) :
    (setCounter set i v s).stationDyn = s.stationDyn := rfl
@[simp] theorem setCounter_owners (set : CounterSet) (i : CounterId) (v : Word32) :
    (setCounter set i v s).owners = s.owners := rfl
@[simp] theorem setCounter_mapCounts (set : CounterSet) (i : CounterId) (v : Word32) :
    (setCounter set i v s).mapCounts = s.mapCounts := rfl
@[simp] theorem setCounter_supervisionDue (set : CounterSet) (i : CounterId) (v : Word32) :
    (setCounter set i v s).supervisionDue = s.supervisionDue := rfl
@[simp] theorem setCounter_mirror (set : CounterSet) (i : CounterId) (v : Word32) :
    (setCounter set i v s).mirror = s.mirror := rfl
@[simp] theorem setCounter_lines (set : CounterSet) (i : CounterId) (v : Word32) :
    (setCounter set i v s).lines = s.lines := rfl
@[simp] theorem setCounter_lineDyn (set : CounterSet) (i : CounterId) (v : Word32) :
    (setCounter set i v s).lineDyn = s.lineDyn := rfl
@[simp] theorem setCounter_outputs (set : CounterSet) (i : CounterId) (v : Word32) :
    (setCounter set i v s).outputs = s.outputs := rfl
@[simp] theorem setCounter_lineCounts (set : CounterSet) (i : CounterId) (v : Word32) :
    (setCounter set i v s).lineCounts = s.lineCounts := rfl
@[simp] theorem setCounter_timers (set : CounterSet) (i : CounterId) (v : Word32) :
    (setCounter set i v s).timers = s.timers := rfl
@[simp] theorem setCounter_timerDyn (set : CounterSet) (i : CounterId) (v : Word32) :
    (setCounter set i v s).timerDyn = s.timerDyn := rfl
@[simp] theorem setCounter_vectors (set : CounterSet) (i : CounterId) (v : Word32) :
    (setCounter set i v s).vectors = s.vectors := rfl
@[simp] theorem setCounter_codes (set : CounterSet) (i : CounterId) (v : Word32) :
    (setCounter set i v s).codes = s.codes := rfl
@[simp] theorem setCounter_alerts (set : CounterSet) (i : CounterId) (v : Word32) :
    (setCounter set i v s).alerts = s.alerts := rfl
@[simp] theorem setCounter_ga (set : CounterSet) (i : CounterId) (v : Word32) :
    (setCounter set i v s).ga = s.ga := rfl
@[simp] theorem setCounter_zones (set : CounterSet) (i : CounterId) (v : Word32) :
    (setCounter set i v s).zones = s.zones := rfl
@[simp] theorem setCounter_zoneDyn (set : CounterSet) (i : CounterId) (v : Word32) :
    (setCounter set i v s).zoneDyn = s.zoneDyn := rfl
@[simp] theorem setCounter_doors (set : CounterSet) (i : CounterId) (v : Word32) :
    (setCounter set i v s).doors = s.doors := rfl
@[simp] theorem setCounter_doorDyn (set : CounterSet) (i : CounterId) (v : Word32) :
    (setCounter set i v s).doorDyn = s.doorDyn := rfl
@[simp] theorem setCounter_messages (set : CounterSet) (i : CounterId) (v : Word32) :
    (setCounter set i v s).messages = s.messages := rfl
@[simp] theorem setCounter_calls (set : CounterSet) (i : CounterId) (v : Word32) :
    (setCounter set i v s).calls = s.calls := rfl
@[simp] theorem setCounter_nextStamp (set : CounterSet) (i : CounterId) (v : Word32) :
    (setCounter set i v s).nextStamp = s.nextStamp := rfl
@[simp] theorem setCounter_zoneLines (set : CounterSet) (i : CounterId) (v : Word32) :
    (setCounter set i v s).zoneLines = s.zoneLines := rfl
@[simp] theorem setCounter_ramps (set : CounterSet) (i : CounterId) (v : Word32) :
    (setCounter set i v s).ramps = s.ramps := rfl
@[simp] theorem setCounter_rampDyn (set : CounterSet) (i : CounterId) (v : Word32) :
    (setCounter set i v s).rampDyn = s.rampDyn := rfl
@[simp] theorem setCounter_quality (set : CounterSet) (i : CounterId) (v : Word32) :
    (setCounter set i v s).quality = s.quality := rfl
@[simp] theorem setCounter_core (set : CounterSet) (i : CounterId) (v : Word32) :
    (setCounter set i v s).core = s.core := rfl

end Sys2Proof.Machine
end

