-- ==== Sys2Proof/Laws/Ops.lean ====
section
/-! SUPPORT. What each shared operation of Machine/Ops.lean can do, said once: the fields outside the frame equation keep
their values, and the core of the state (Safety.lean) is never touched by raising, counting, sending, claiming or
ordering outputs. -/

namespace Sys2Proof.Machine

variable (s : State)

/-! ## Raising codes -/

/-- An activation changes codes only. -/
theorem raiseCode_frame (x : Activation) : raiseCode x s = { s with codes := (raiseCode x s).codes } := by
  unfold raiseCode; dsimp only; split_ifs <;> rfl

theorem raiseInternal_frame (c : Option Code) (a : Option Addr) (z : Option ZoneId) (d : Word16) :
    raiseInternal c a z d s = { s with codes := (raiseInternal c a z d s).codes } := by
  cases c with
  | none => rfl
  | some c => exact raiseCode_frame s _

/-- A condition report changes codes only. -/
theorem reportCondition_frame (src : CondSource) (c : Code) (holds : Bool) (a : Attributes) :
    reportCondition src c holds a s = { s with codes := (reportCondition src c holds a s).codes } := by
  unfold reportCondition; dsimp only; split_ifs <;> rfl

/-! ## Counters -/

theorem raiseMark_frame (set : CounterSet) (i : CounterId) (m : Nat) :
    raiseMark set i m s = { s with codes := (raiseMark set i m s).codes } := by
  unfold raiseMark; dsimp only
  repeat' split
  all_goals first | rfl | exact raiseInternal_frame s _ _ _ _

/-- A rise changes counters and codes only. -/
theorem bump_frame (set : CounterSet) (i : CounterId) (n : Nat) :
    bump set i n s = { s with counters := (bump set i n s).counters, codes := (bump set i n s).codes } := by
  unfold bump; dsimp only; split_ifs
  · rw [raiseMark_frame]; rfl
  · rw [raiseMark_frame]; rfl
  · rfl

/-- A rise changes one counter alone. -/
theorem bump_counters (set : CounterSet) (i : CounterId) (n : Nat) :
    (bump set i n s).counters =
      s.counters.put set (Tab.put (s.counters.at set) i (BitVec.ofNat 32 (((s.counters.at set).get i).toNat + n))) := by
  unfold bump; dsimp only; split_ifs
  · rw [raiseMark_frame]; rfl
  · rw [raiseMark_frame]; rfl
  · rfl

theorem bumpPort_frame (p : Port) (i : CounterId) :
    bumpPort p i s = { s with counters := (bumpPort p i s).counters, codes := (bumpPort p i s).codes } :=
  bump_frame s _ _ _

theorem bumpGlobal_frame (i : CounterId) :
    bumpGlobal i s = { s with counters := (bumpGlobal i s).counters, codes := (bumpGlobal i s).codes } :=
  bump_frame s _ _ _

/-! ## Transmitting -/

/-- The start of a transmission changes the port units only. -/
theorem startTransmission_frame (p : Port) :
    startTransmission p s = { s with ports := (startTransmission p s).ports } := by
  unfold startTransmission; dsimp only; split_ifs
  · split <;> rfl
  · rfl

/-- An offer to a transmit queue changes the port units, the counters and the codes only. -/
theorem sendTx_frame (p : Port) (cls : TxClass) (f : TxFrame) :
    sendTx p cls f s =
      { s with
        ports := (sendTx p cls f s).ports, counters := (sendTx p cls f s).counters
        codes := (sendTx p cls f s).codes } := by
  unfold sendTx offerTx; dsimp only; split_ifs
  · rfl
  · dsimp only; rw [bumpPort_frame]
  · dsimp only; rw [startTransmission_frame]; rfl

/-- A job's COMMAND changes what an offer changes. -/
theorem jobCommand_frame (a : Addr) (b : List Byte) :
    jobCommand a b s =
      { s with
        ports := (jobCommand a b s).ports, counters := (jobCommand a b s).counters
        codes := (jobCommand a b s).codes } := by
  unfold jobCommand; split
  · exact sendTx_frame s _ _ _
  · rw [bumpPort_frame]

theorem jobCommand?_frame (a : Option Addr) (b : List Byte) :
    jobCommand? a b s =
      { s with
        ports := (jobCommand? a b s).ports, counters := (jobCommand? a b s).counters
        codes := (jobCommand? a b s).codes } := by
  cases a with
  | none => rfl
  | some a => exact jobCommand_frame s _ _

/-! ## Claims, releases and output orders -/

/-- A claim changes owners only. -/
theorem claim_frame (a : Addr) (o : Owner) : (claim a o s).2 = { s with owners := (claim a o s).2.owners } := by
  unfold claim; split_ifs <;> rfl

/-- A claim is granted exactly on a FREE station and to the present owner (R32). -/
theorem claim_granted (a : Addr) (o : Owner) :
    (claim a o s).1 = true ↔ s.owners.get a = .free ∨ s.owners.get a = o := by
  unfold claim; split_ifs <;> simp_all

/-- A claim that is granted leaves the station owned by the claimer, every other owner as it was (R32). -/
theorem claim_of_granted (a : Addr) (o : Owner) (h : (claim a o s).1 = true) :
    (claim a o s).2 = s.setOwner a o := by
  unfold claim at h ⊢
  split_ifs at h ⊢ with h1 h2
  · rfl
  · simp [State.setOwner, ← h2]

/-- A release changes owners only. -/
theorem release_frame (a : Addr) (o : Owner) : release a o s = { s with owners := (release a o s).owners } := by
  unfold release; split_ifs <;> rfl

theorem release?_frame (a : Option Addr) (o : Owner) :
    release? a o s = { s with owners := (release? a o s).owners } := by
  cases a with
  | none => rfl
  | some a => exact release_frame s _ _

/-- An output order changes outputs only. -/
theorem orderOutput_frame (n : LineId) (fn : LineFn) (on : Bool) :
    orderOutput n fn on s = { s with outputs := (orderOutput n fn on s).outputs } := by
  unfold orderOutput; split_ifs <;> rfl

theorem orderEnable_frame (r : RampId) (on : Bool) :
    orderEnable r on s = { s with outputs := (orderEnable r on s).outputs } := by
  unfold orderEnable; split
  · rfl
  · exact orderOutput_frame s _ _ _

theorem orderDoorHold_frame (z : ZoneId) (on : Bool) :
    orderDoorHold z on s = { s with outputs := (orderDoorHold z on s).outputs } := by
  unfold orderDoorHold; split
  · rfl
  · exact orderOutput_frame s _ _ _

/-! ## Fields after an operation -/

@[simp] theorem raiseCode_pending (x : Activation) : (raiseCode x s).pending = s.pending := by rw [raiseCode_frame]
@[simp] theorem raiseCode_now (x : Activation) : (raiseCode x s).now = s.now := by rw [raiseCode_frame]
@[simp] theorem raiseCode_resetHeld (x : Activation) :
    (raiseCode x s).resetHeld = s.resetHeld := by rw [raiseCode_frame]
@[simp] theorem raiseCode_straps (x : Activation) : (raiseCode x s).straps = s.straps := by rw [raiseCode_frame]
@[simp] theorem raiseCode_pins (x : Activation) : (raiseCode x s).pins = s.pins := by rw [raiseCode_frame]
@[simp] theorem raiseCode_device (x : Activation) : (raiseCode x s).device = s.device := by rw [raiseCode_frame]
@[simp] theorem raiseCode_record (x : Activation) : (raiseCode x s).record = s.record := by rw [raiseCode_frame]
@[simp] theorem raiseCode_ports (x : Activation) : (raiseCode x s).ports = s.ports := by rw [raiseCode_frame]
@[simp] theorem raiseCode_bridgeLoss (x : Activation) :
    (raiseCode x s).bridgeLoss = s.bridgeLoss := by rw [raiseCode_frame]
@[simp] theorem raiseCode_stations (x : Activation) : (raiseCode x s).stations = s.stations := by rw [raiseCode_frame]
@[simp] theorem raiseCode_stationDyn (x : Activation) :
    (raiseCode x s).stationDyn = s.stationDyn := by rw [raiseCode_frame]
@[simp] theorem raiseCode_owners (x : Activation) : (raiseCode x s).owners = s.owners := by rw [raiseCode_frame]
@[simp] theorem raiseCode_mapCounts (x : Activation) :
    (raiseCode x s).mapCounts = s.mapCounts := by rw [raiseCode_frame]
@[simp] theorem raiseCode_supervisionDue (x : Activation) :
    (raiseCode x s).supervisionDue = s.supervisionDue := by rw [raiseCode_frame]
@[simp] theorem raiseCode_mirror (x : Activation) : (raiseCode x s).mirror = s.mirror := by rw [raiseCode_frame]
@[simp] theorem raiseCode_lines (x : Activation) : (raiseCode x s).lines = s.lines := by rw [raiseCode_frame]
@[simp] theorem raiseCode_lineDyn (x : Activation) : (raiseCode x s).lineDyn = s.lineDyn := by rw [raiseCode_frame]
@[simp] theorem raiseCode_outputs (x : Activation) : (raiseCode x s).outputs = s.outputs := by rw [raiseCode_frame]
@[simp] theorem raiseCode_lineCounts (x : Activation) :
    (raiseCode x s).lineCounts = s.lineCounts := by rw [raiseCode_frame]
@[simp] theorem raiseCode_timers (x : Activation) : (raiseCode x s).timers = s.timers := by rw [raiseCode_frame]
@[simp] theorem raiseCode_timerDyn (x : Activation) : (raiseCode x s).timerDyn = s.timerDyn := by rw [raiseCode_frame]
@[simp] theorem raiseCode_vectors (x : Activation) : (raiseCode x s).vectors = s.vectors := by rw [raiseCode_frame]
@[simp] theorem raiseCode_alerts (x : Activation) : (raiseCode x s).alerts = s.alerts := by rw [raiseCode_frame]
@[simp] theorem raiseCode_ga (x : Activation) : (raiseCode x s).ga = s.ga := by rw [raiseCode_frame]
@[simp] theorem raiseCode_zones (x : Activation) : (raiseCode x s).zones = s.zones := by rw [raiseCode_frame]
@[simp] theorem raiseCode_zoneDyn (x : Activation) : (raiseCode x s).zoneDyn = s.zoneDyn := by rw [raiseCode_frame]
@[simp] theorem raiseCode_doors (x : Activation) : (raiseCode x s).doors = s.doors := by rw [raiseCode_frame]
@[simp] theorem raiseCode_doorDyn (x : Activation) : (raiseCode x s).doorDyn = s.doorDyn := by rw [raiseCode_frame]
@[simp] theorem raiseCode_messages (x : Activation) : (raiseCode x s).messages = s.messages := by rw [raiseCode_frame]
@[simp] theorem raiseCode_calls (x : Activation) : (raiseCode x s).calls = s.calls := by rw [raiseCode_frame]
@[simp] theorem raiseCode_nextStamp (x : Activation) :
    (raiseCode x s).nextStamp = s.nextStamp := by rw [raiseCode_frame]
@[simp] theorem raiseCode_zoneLines (x : Activation) :
    (raiseCode x s).zoneLines = s.zoneLines := by rw [raiseCode_frame]
@[simp] theorem raiseCode_ramps (x : Activation) : (raiseCode x s).ramps = s.ramps := by rw [raiseCode_frame]
@[simp] theorem raiseCode_rampDyn (x : Activation) : (raiseCode x s).rampDyn = s.rampDyn := by rw [raiseCode_frame]
@[simp] theorem raiseCode_counters (x : Activation) : (raiseCode x s).counters = s.counters := by rw [raiseCode_frame]
@[simp] theorem raiseCode_quality (x : Activation) : (raiseCode x s).quality = s.quality := by rw [raiseCode_frame]

@[simp] theorem raiseInternal_pending (c : Option Code) (a : Option Addr) (z : Option ZoneId) (d : Word16) :
    (raiseInternal c a z d s).pending = s.pending := by rw [raiseInternal_frame]
@[simp] theorem raiseInternal_now (c : Option Code) (a : Option Addr) (z : Option ZoneId) (d : Word16) :
    (raiseInternal c a z d s).now = s.now := by rw [raiseInternal_frame]
@[simp] theorem raiseInternal_resetHeld (c : Option Code) (a : Option Addr) (z : Option ZoneId) (d : Word16) :
    (raiseInternal c a z d s).resetHeld = s.resetHeld := by rw [raiseInternal_frame]
@[simp] theorem raiseInternal_straps (c : Option Code) (a : Option Addr) (z : Option ZoneId) (d : Word16) :
    (raiseInternal c a z d s).straps = s.straps := by rw [raiseInternal_frame]
@[simp] theorem raiseInternal_pins (c : Option Code) (a : Option Addr) (z : Option ZoneId) (d : Word16) :
    (raiseInternal c a z d s).pins = s.pins := by rw [raiseInternal_frame]
@[simp] theorem raiseInternal_device (c : Option Code) (a : Option Addr) (z : Option ZoneId) (d : Word16) :
    (raiseInternal c a z d s).device = s.device := by rw [raiseInternal_frame]
@[simp] theorem raiseInternal_record (c : Option Code) (a : Option Addr) (z : Option ZoneId) (d : Word16) :
    (raiseInternal c a z d s).record = s.record := by rw [raiseInternal_frame]
@[simp] theorem raiseInternal_ports (c : Option Code) (a : Option Addr) (z : Option ZoneId) (d : Word16) :
    (raiseInternal c a z d s).ports = s.ports := by rw [raiseInternal_frame]
@[simp] theorem raiseInternal_bridgeLoss (c : Option Code) (a : Option Addr) (z : Option ZoneId) (d : Word16) :
    (raiseInternal c a z d s).bridgeLoss = s.bridgeLoss := by rw [raiseInternal_frame]
@[simp] theorem raiseInternal_stations (c : Option Code) (a : Option Addr) (z : Option ZoneId) (d : Word16) :
    (raiseInternal c a z d s).stations = s.stations := by rw [raiseInternal_frame]
@[simp] theorem raiseInternal_stationDyn (c : Option Code) (a : Option Addr) (z : Option ZoneId) (d : Word16) :
    (raiseInternal c a z d s).stationDyn = s.stationDyn := by rw [raiseInternal_frame]
@[simp] theorem raiseInternal_owners (c : Option Code) (a : Option Addr) (z : Option ZoneId) (d : Word16) :
    (raiseInternal c a z d s).owners = s.owners := by rw [raiseInternal_frame]
@[simp] theorem raiseInternal_mapCounts (c : Option Code) (a : Option Addr) (z : Option ZoneId) (d : Word16) :
    (raiseInternal c a z d s).mapCounts = s.mapCounts := by rw [raiseInternal_frame]
@[simp] theorem raiseInternal_supervisionDue (c : Option Code) (a : Option Addr) (z : Option ZoneId) (d : Word16) :
    (raiseInternal c a z d s).supervisionDue = s.supervisionDue := by rw [raiseInternal_frame]
@[simp] theorem raiseInternal_mirror (c : Option Code) (a : Option Addr) (z : Option ZoneId) (d : Word16) :
    (raiseInternal c a z d s).mirror = s.mirror := by rw [raiseInternal_frame]
@[simp] theorem raiseInternal_lines (c : Option Code) (a : Option Addr) (z : Option ZoneId) (d : Word16) :
    (raiseInternal c a z d s).lines = s.lines := by rw [raiseInternal_frame]
@[simp] theorem raiseInternal_lineDyn (c : Option Code) (a : Option Addr) (z : Option ZoneId) (d : Word16) :
    (raiseInternal c a z d s).lineDyn = s.lineDyn := by rw [raiseInternal_frame]
@[simp] theorem raiseInternal_outputs (c : Option Code) (a : Option Addr) (z : Option ZoneId) (d : Word16) :
    (raiseInternal c a z d s).outputs = s.outputs := by rw [raiseInternal_frame]
@[simp] theorem raiseInternal_lineCounts (c : Option Code) (a : Option Addr) (z : Option ZoneId) (d : Word16) :
    (raiseInternal c a z d s).lineCounts = s.lineCounts := by rw [raiseInternal_frame]
@[simp] theorem raiseInternal_timers (c : Option Code) (a : Option Addr) (z : Option ZoneId) (d : Word16) :
    (raiseInternal c a z d s).timers = s.timers := by rw [raiseInternal_frame]
@[simp] theorem raiseInternal_timerDyn (c : Option Code) (a : Option Addr) (z : Option ZoneId) (d : Word16) :
    (raiseInternal c a z d s).timerDyn = s.timerDyn := by rw [raiseInternal_frame]
@[simp] theorem raiseInternal_vectors (c : Option Code) (a : Option Addr) (z : Option ZoneId) (d : Word16) :
    (raiseInternal c a z d s).vectors = s.vectors := by rw [raiseInternal_frame]
@[simp] theorem raiseInternal_alerts (c : Option Code) (a : Option Addr) (z : Option ZoneId) (d : Word16) :
    (raiseInternal c a z d s).alerts = s.alerts := by rw [raiseInternal_frame]
@[simp] theorem raiseInternal_ga (c : Option Code) (a : Option Addr) (z : Option ZoneId) (d : Word16) :
    (raiseInternal c a z d s).ga = s.ga := by rw [raiseInternal_frame]
@[simp] theorem raiseInternal_zones (c : Option Code) (a : Option Addr) (z : Option ZoneId) (d : Word16) :
    (raiseInternal c a z d s).zones = s.zones := by rw [raiseInternal_frame]
@[simp] theorem raiseInternal_zoneDyn (c : Option Code) (a : Option Addr) (z : Option ZoneId) (d : Word16) :
    (raiseInternal c a z d s).zoneDyn = s.zoneDyn := by rw [raiseInternal_frame]
@[simp] theorem raiseInternal_doors (c : Option Code) (a : Option Addr) (z : Option ZoneId) (d : Word16) :
    (raiseInternal c a z d s).doors = s.doors := by rw [raiseInternal_frame]
@[simp] theorem raiseInternal_doorDyn (c : Option Code) (a : Option Addr) (z : Option ZoneId) (d : Word16) :
    (raiseInternal c a z d s).doorDyn = s.doorDyn := by rw [raiseInternal_frame]
@[simp] theorem raiseInternal_messages (c : Option Code) (a : Option Addr) (z : Option ZoneId) (d : Word16) :
    (raiseInternal c a z d s).messages = s.messages := by rw [raiseInternal_frame]
@[simp] theorem raiseInternal_calls (c : Option Code) (a : Option Addr) (z : Option ZoneId) (d : Word16) :
    (raiseInternal c a z d s).calls = s.calls := by rw [raiseInternal_frame]
@[simp] theorem raiseInternal_nextStamp (c : Option Code) (a : Option Addr) (z : Option ZoneId) (d : Word16) :
    (raiseInternal c a z d s).nextStamp = s.nextStamp := by rw [raiseInternal_frame]
@[simp] theorem raiseInternal_zoneLines (c : Option Code) (a : Option Addr) (z : Option ZoneId) (d : Word16) :
    (raiseInternal c a z d s).zoneLines = s.zoneLines := by rw [raiseInternal_frame]
@[simp] theorem raiseInternal_ramps (c : Option Code) (a : Option Addr) (z : Option ZoneId) (d : Word16) :
    (raiseInternal c a z d s).ramps = s.ramps := by rw [raiseInternal_frame]
@[simp] theorem raiseInternal_rampDyn (c : Option Code) (a : Option Addr) (z : Option ZoneId) (d : Word16) :
    (raiseInternal c a z d s).rampDyn = s.rampDyn := by rw [raiseInternal_frame]
@[simp] theorem raiseInternal_counters (c : Option Code) (a : Option Addr) (z : Option ZoneId) (d : Word16) :
    (raiseInternal c a z d s).counters = s.counters := by rw [raiseInternal_frame]
@[simp] theorem raiseInternal_quality (c : Option Code) (a : Option Addr) (z : Option ZoneId) (d : Word16) :
    (raiseInternal c a z d s).quality = s.quality := by rw [raiseInternal_frame]

@[simp] theorem reportCondition_pending (src : CondSource) (c : Code) (b : Bool) (a : Attributes) :
    (reportCondition src c b a s).pending = s.pending := by rw [reportCondition_frame]
@[simp] theorem reportCondition_now (src : CondSource) (c : Code) (b : Bool) (a : Attributes) :
    (reportCondition src c b a s).now = s.now := by rw [reportCondition_frame]
@[simp] theorem reportCondition_resetHeld (src : CondSource) (c : Code) (b : Bool) (a : Attributes) :
    (reportCondition src c b a s).resetHeld = s.resetHeld := by rw [reportCondition_frame]
@[simp] theorem reportCondition_straps (src : CondSource) (c : Code) (b : Bool) (a : Attributes) :
    (reportCondition src c b a s).straps = s.straps := by rw [reportCondition_frame]
@[simp] theorem reportCondition_pins (src : CondSource) (c : Code) (b : Bool) (a : Attributes) :
    (reportCondition src c b a s).pins = s.pins := by rw [reportCondition_frame]
@[simp] theorem reportCondition_device (src : CondSource) (c : Code) (b : Bool) (a : Attributes) :
    (reportCondition src c b a s).device = s.device := by rw [reportCondition_frame]
@[simp] theorem reportCondition_record (src : CondSource) (c : Code) (b : Bool) (a : Attributes) :
    (reportCondition src c b a s).record = s.record := by rw [reportCondition_frame]
@[simp] theorem reportCondition_ports (src : CondSource) (c : Code) (b : Bool) (a : Attributes) :
    (reportCondition src c b a s).ports = s.ports := by rw [reportCondition_frame]
@[simp] theorem reportCondition_bridgeLoss (src : CondSource) (c : Code) (b : Bool) (a : Attributes) :
    (reportCondition src c b a s).bridgeLoss = s.bridgeLoss := by rw [reportCondition_frame]
@[simp] theorem reportCondition_stations (src : CondSource) (c : Code) (b : Bool) (a : Attributes) :
    (reportCondition src c b a s).stations = s.stations := by rw [reportCondition_frame]
@[simp] theorem reportCondition_stationDyn (src : CondSource) (c : Code) (b : Bool) (a : Attributes) :
    (reportCondition src c b a s).stationDyn = s.stationDyn := by rw [reportCondition_frame]
@[simp] theorem reportCondition_owners (src : CondSource) (c : Code) (b : Bool) (a : Attributes) :
    (reportCondition src c b a s).owners = s.owners := by rw [reportCondition_frame]
@[simp] theorem reportCondition_mapCounts (src : CondSource) (c : Code) (b : Bool) (a : Attributes) :
    (reportCondition src c b a s).mapCounts = s.mapCounts := by rw [reportCondition_frame]
@[simp] theorem reportCondition_supervisionDue (src : CondSource) (c : Code) (b : Bool) (a : Attributes) :
    (reportCondition src c b a s).supervisionDue = s.supervisionDue := by rw [reportCondition_frame]
@[simp] theorem reportCondition_mirror (src : CondSource) (c : Code) (b : Bool) (a : Attributes) :
    (reportCondition src c b a s).mirror = s.mirror := by rw [reportCondition_frame]
@[simp] theorem reportCondition_lines (src : CondSource) (c : Code) (b : Bool) (a : Attributes) :
    (reportCondition src c b a s).lines = s.lines := by rw [reportCondition_frame]
@[simp] theorem reportCondition_lineDyn (src : CondSource) (c : Code) (b : Bool) (a : Attributes) :
    (reportCondition src c b a s).lineDyn = s.lineDyn := by rw [reportCondition_frame]
@[simp] theorem reportCondition_outputs (src : CondSource) (c : Code) (b : Bool) (a : Attributes) :
    (reportCondition src c b a s).outputs = s.outputs := by rw [reportCondition_frame]
@[simp] theorem reportCondition_lineCounts (src : CondSource) (c : Code) (b : Bool) (a : Attributes) :
    (reportCondition src c b a s).lineCounts = s.lineCounts := by rw [reportCondition_frame]
@[simp] theorem reportCondition_timers (src : CondSource) (c : Code) (b : Bool) (a : Attributes) :
    (reportCondition src c b a s).timers = s.timers := by rw [reportCondition_frame]
@[simp] theorem reportCondition_timerDyn (src : CondSource) (c : Code) (b : Bool) (a : Attributes) :
    (reportCondition src c b a s).timerDyn = s.timerDyn := by rw [reportCondition_frame]
@[simp] theorem reportCondition_vectors (src : CondSource) (c : Code) (b : Bool) (a : Attributes) :
    (reportCondition src c b a s).vectors = s.vectors := by rw [reportCondition_frame]
@[simp] theorem reportCondition_alerts (src : CondSource) (c : Code) (b : Bool) (a : Attributes) :
    (reportCondition src c b a s).alerts = s.alerts := by rw [reportCondition_frame]
@[simp] theorem reportCondition_ga (src : CondSource) (c : Code) (b : Bool) (a : Attributes) :
    (reportCondition src c b a s).ga = s.ga := by rw [reportCondition_frame]
@[simp] theorem reportCondition_zones (src : CondSource) (c : Code) (b : Bool) (a : Attributes) :
    (reportCondition src c b a s).zones = s.zones := by rw [reportCondition_frame]
@[simp] theorem reportCondition_zoneDyn (src : CondSource) (c : Code) (b : Bool) (a : Attributes) :
    (reportCondition src c b a s).zoneDyn = s.zoneDyn := by rw [reportCondition_frame]
@[simp] theorem reportCondition_doors (src : CondSource) (c : Code) (b : Bool) (a : Attributes) :
    (reportCondition src c b a s).doors = s.doors := by rw [reportCondition_frame]
@[simp] theorem reportCondition_doorDyn (src : CondSource) (c : Code) (b : Bool) (a : Attributes) :
    (reportCondition src c b a s).doorDyn = s.doorDyn := by rw [reportCondition_frame]
@[simp] theorem reportCondition_messages (src : CondSource) (c : Code) (b : Bool) (a : Attributes) :
    (reportCondition src c b a s).messages = s.messages := by rw [reportCondition_frame]
@[simp] theorem reportCondition_calls (src : CondSource) (c : Code) (b : Bool) (a : Attributes) :
    (reportCondition src c b a s).calls = s.calls := by rw [reportCondition_frame]
@[simp] theorem reportCondition_nextStamp (src : CondSource) (c : Code) (b : Bool) (a : Attributes) :
    (reportCondition src c b a s).nextStamp = s.nextStamp := by rw [reportCondition_frame]
@[simp] theorem reportCondition_zoneLines (src : CondSource) (c : Code) (b : Bool) (a : Attributes) :
    (reportCondition src c b a s).zoneLines = s.zoneLines := by rw [reportCondition_frame]
@[simp] theorem reportCondition_ramps (src : CondSource) (c : Code) (b : Bool) (a : Attributes) :
    (reportCondition src c b a s).ramps = s.ramps := by rw [reportCondition_frame]
@[simp] theorem reportCondition_rampDyn (src : CondSource) (c : Code) (b : Bool) (a : Attributes) :
    (reportCondition src c b a s).rampDyn = s.rampDyn := by rw [reportCondition_frame]
@[simp] theorem reportCondition_counters (src : CondSource) (c : Code) (b : Bool) (a : Attributes) :
    (reportCondition src c b a s).counters = s.counters := by rw [reportCondition_frame]
@[simp] theorem reportCondition_quality (src : CondSource) (c : Code) (b : Bool) (a : Attributes) :
    (reportCondition src c b a s).quality = s.quality := by rw [reportCondition_frame]

@[simp] theorem bump_pending (set : CounterSet) (i : CounterId) (n : Nat) :
    (bump set i n s).pending = s.pending := by rw [bump_frame]
@[simp] theorem bump_now (set : CounterSet) (i : CounterId) (n : Nat) :
    (bump set i n s).now = s.now := by rw [bump_frame]
@[simp] theorem bump_resetHeld (set : CounterSet) (i : CounterId) (n : Nat) :
    (bump set i n s).resetHeld = s.resetHeld := by rw [bump_frame]
@[simp] theorem bump_straps (set : CounterSet) (i : CounterId) (n : Nat) :
    (bump set i n s).straps = s.straps := by rw [bump_frame]
@[simp] theorem bump_pins (set : CounterSet) (i : CounterId) (n : Nat) :
    (bump set i n s).pins = s.pins := by rw [bump_frame]
@[simp] theorem bump_device (set : CounterSet) (i : CounterId) (n : Nat) :
    (bump set i n s).device = s.device := by rw [bump_frame]
@[simp] theorem bump_record (set : CounterSet) (i : CounterId) (n : Nat) :
    (bump set i n s).record = s.record := by rw [bump_frame]
@[simp] theorem bump_ports (set : CounterSet) (i : CounterId) (n : Nat) :
    (bump set i n s).ports = s.ports := by rw [bump_frame]
@[simp] theorem bump_bridgeLoss (set : CounterSet) (i : CounterId) (n : Nat) :
    (bump set i n s).bridgeLoss = s.bridgeLoss := by rw [bump_frame]
@[simp] theorem bump_stations (set : CounterSet) (i : CounterId) (n : Nat) :
    (bump set i n s).stations = s.stations := by rw [bump_frame]
@[simp] theorem bump_stationDyn (set : CounterSet) (i : CounterId) (n : Nat) :
    (bump set i n s).stationDyn = s.stationDyn := by rw [bump_frame]
@[simp] theorem bump_owners (set : CounterSet) (i : CounterId) (n : Nat) :
    (bump set i n s).owners = s.owners := by rw [bump_frame]
@[simp] theorem bump_mapCounts (set : CounterSet) (i : CounterId) (n : Nat) :
    (bump set i n s).mapCounts = s.mapCounts := by rw [bump_frame]
@[simp] theorem bump_supervisionDue (set : CounterSet) (i : CounterId) (n : Nat) :
    (bump set i n s).supervisionDue = s.supervisionDue := by rw [bump_frame]
@[simp] theorem bump_mirror (set : CounterSet) (i : CounterId) (n : Nat) :
    (bump set i n s).mirror = s.mirror := by rw [bump_frame]
@[simp] theorem bump_lines (set : CounterSet) (i : CounterId) (n : Nat) :
    (bump set i n s).lines = s.lines := by rw [bump_frame]
@[simp] theorem bump_lineDyn (set : CounterSet) (i : CounterId) (n : Nat) :
    (bump set i n s).lineDyn = s.lineDyn := by rw [bump_frame]
@[simp] theorem bump_outputs (set : CounterSet) (i : CounterId) (n : Nat) :
    (bump set i n s).outputs = s.outputs := by rw [bump_frame]
@[simp] theorem bump_lineCounts (set : CounterSet) (i : CounterId) (n : Nat) :
    (bump set i n s).lineCounts = s.lineCounts := by rw [bump_frame]
@[simp] theorem bump_timers (set : CounterSet) (i : CounterId) (n : Nat) :
    (bump set i n s).timers = s.timers := by rw [bump_frame]
@[simp] theorem bump_timerDyn (set : CounterSet) (i : CounterId) (n : Nat) :
    (bump set i n s).timerDyn = s.timerDyn := by rw [bump_frame]
@[simp] theorem bump_vectors (set : CounterSet) (i : CounterId) (n : Nat) :
    (bump set i n s).vectors = s.vectors := by rw [bump_frame]
@[simp] theorem bump_alerts (set : CounterSet) (i : CounterId) (n : Nat) :
    (bump set i n s).alerts = s.alerts := by rw [bump_frame]
@[simp] theorem bump_ga (set : CounterSet) (i : CounterId) (n : Nat) : (bump set i n s).ga = s.ga := by rw [bump_frame]
@[simp] theorem bump_zones (set : CounterSet) (i : CounterId) (n : Nat) :
    (bump set i n s).zones = s.zones := by rw [bump_frame]
@[simp] theorem bump_zoneDyn (set : CounterSet) (i : CounterId) (n : Nat) :
    (bump set i n s).zoneDyn = s.zoneDyn := by rw [bump_frame]
@[simp] theorem bump_doors (set : CounterSet) (i : CounterId) (n : Nat) :
    (bump set i n s).doors = s.doors := by rw [bump_frame]
@[simp] theorem bump_doorDyn (set : CounterSet) (i : CounterId) (n : Nat) :
    (bump set i n s).doorDyn = s.doorDyn := by rw [bump_frame]
@[simp] theorem bump_messages (set : CounterSet) (i : CounterId) (n : Nat) :
    (bump set i n s).messages = s.messages := by rw [bump_frame]
@[simp] theorem bump_calls (set : CounterSet) (i : CounterId) (n : Nat) :
    (bump set i n s).calls = s.calls := by rw [bump_frame]
@[simp] theorem bump_nextStamp (set : CounterSet) (i : CounterId) (n : Nat) :
    (bump set i n s).nextStamp = s.nextStamp := by rw [bump_frame]
@[simp] theorem bump_zoneLines (set : CounterSet) (i : CounterId) (n : Nat) :
    (bump set i n s).zoneLines = s.zoneLines := by rw [bump_frame]
@[simp] theorem bump_ramps (set : CounterSet) (i : CounterId) (n : Nat) :
    (bump set i n s).ramps = s.ramps := by rw [bump_frame]
@[simp] theorem bump_rampDyn (set : CounterSet) (i : CounterId) (n : Nat) :
    (bump set i n s).rampDyn = s.rampDyn := by rw [bump_frame]
@[simp] theorem bump_quality (set : CounterSet) (i : CounterId) (n : Nat) :
    (bump set i n s).quality = s.quality := by rw [bump_frame]

@[simp] theorem bumpPort_pending (p : Port) (i : CounterId) :
    (bumpPort p i s).pending = s.pending := by rw [bumpPort_frame]
@[simp] theorem bumpPort_now (p : Port) (i : CounterId) : (bumpPort p i s).now = s.now := by rw [bumpPort_frame]
@[simp] theorem bumpPort_resetHeld (p : Port) (i : CounterId) :
    (bumpPort p i s).resetHeld = s.resetHeld := by rw [bumpPort_frame]
@[simp] theorem bumpPort_straps (p : Port) (i : CounterId) :
    (bumpPort p i s).straps = s.straps := by rw [bumpPort_frame]
@[simp] theorem bumpPort_pins (p : Port) (i : CounterId) : (bumpPort p i s).pins = s.pins := by rw [bumpPort_frame]
@[simp] theorem bumpPort_device (p : Port) (i : CounterId) :
    (bumpPort p i s).device = s.device := by rw [bumpPort_frame]
@[simp] theorem bumpPort_record (p : Port) (i : CounterId) :
    (bumpPort p i s).record = s.record := by rw [bumpPort_frame]
@[simp] theorem bumpPort_ports (p : Port) (i : CounterId) : (bumpPort p i s).ports = s.ports := by rw [bumpPort_frame]
@[simp] theorem bumpPort_bridgeLoss (p : Port) (i : CounterId) :
    (bumpPort p i s).bridgeLoss = s.bridgeLoss := by rw [bumpPort_frame]
@[simp] theorem bumpPort_stations (p : Port) (i : CounterId) :
    (bumpPort p i s).stations = s.stations := by rw [bumpPort_frame]
@[simp] theorem bumpPort_stationDyn (p : Port) (i : CounterId) :
    (bumpPort p i s).stationDyn = s.stationDyn := by rw [bumpPort_frame]
@[simp] theorem bumpPort_owners (p : Port) (i : CounterId) :
    (bumpPort p i s).owners = s.owners := by rw [bumpPort_frame]
@[simp] theorem bumpPort_mapCounts (p : Port) (i : CounterId) :
    (bumpPort p i s).mapCounts = s.mapCounts := by rw [bumpPort_frame]
@[simp] theorem bumpPort_supervisionDue (p : Port) (i : CounterId) :
    (bumpPort p i s).supervisionDue = s.supervisionDue := by rw [bumpPort_frame]
@[simp] theorem bumpPort_mirror (p : Port) (i : CounterId) :
    (bumpPort p i s).mirror = s.mirror := by rw [bumpPort_frame]
@[simp] theorem bumpPort_lines (p : Port) (i : CounterId) : (bumpPort p i s).lines = s.lines := by rw [bumpPort_frame]
@[simp] theorem bumpPort_lineDyn (p : Port) (i : CounterId) :
    (bumpPort p i s).lineDyn = s.lineDyn := by rw [bumpPort_frame]
@[simp] theorem bumpPort_outputs (p : Port) (i : CounterId) :
    (bumpPort p i s).outputs = s.outputs := by rw [bumpPort_frame]
@[simp] theorem bumpPort_lineCounts (p : Port) (i : CounterId) :
    (bumpPort p i s).lineCounts = s.lineCounts := by rw [bumpPort_frame]
@[simp] theorem bumpPort_timers (p : Port) (i : CounterId) :
    (bumpPort p i s).timers = s.timers := by rw [bumpPort_frame]
@[simp] theorem bumpPort_timerDyn (p : Port) (i : CounterId) :
    (bumpPort p i s).timerDyn = s.timerDyn := by rw [bumpPort_frame]
@[simp] theorem bumpPort_vectors (p : Port) (i : CounterId) :
    (bumpPort p i s).vectors = s.vectors := by rw [bumpPort_frame]
@[simp] theorem bumpPort_alerts (p : Port) (i : CounterId) :
    (bumpPort p i s).alerts = s.alerts := by rw [bumpPort_frame]
@[simp] theorem bumpPort_ga (p : Port) (i : CounterId) : (bumpPort p i s).ga = s.ga := by rw [bumpPort_frame]
@[simp] theorem bumpPort_zones (p : Port) (i : CounterId) : (bumpPort p i s).zones = s.zones := by rw [bumpPort_frame]
@[simp] theorem bumpPort_zoneDyn (p : Port) (i : CounterId) :
    (bumpPort p i s).zoneDyn = s.zoneDyn := by rw [bumpPort_frame]
@[simp] theorem bumpPort_doors (p : Port) (i : CounterId) : (bumpPort p i s).doors = s.doors := by rw [bumpPort_frame]
@[simp] theorem bumpPort_doorDyn (p : Port) (i : CounterId) :
    (bumpPort p i s).doorDyn = s.doorDyn := by rw [bumpPort_frame]
@[simp] theorem bumpPort_messages (p : Port) (i : CounterId) :
    (bumpPort p i s).messages = s.messages := by rw [bumpPort_frame]
@[simp] theorem bumpPort_calls (p : Port) (i : CounterId) : (bumpPort p i s).calls = s.calls := by rw [bumpPort_frame]
@[simp] theorem bumpPort_nextStamp (p : Port) (i : CounterId) :
    (bumpPort p i s).nextStamp = s.nextStamp := by rw [bumpPort_frame]
@[simp] theorem bumpPort_zoneLines (p : Port) (i : CounterId) :
    (bumpPort p i s).zoneLines = s.zoneLines := by rw [bumpPort_frame]
@[simp] theorem bumpPort_ramps (p : Port) (i : CounterId) : (bumpPort p i s).ramps = s.ramps := by rw [bumpPort_frame]
@[simp] theorem bumpPort_rampDyn (p : Port) (i : CounterId) :
    (bumpPort p i s).rampDyn = s.rampDyn := by rw [bumpPort_frame]
@[simp] theorem bumpPort_quality (p : Port) (i : CounterId) :
    (bumpPort p i s).quality = s.quality := by rw [bumpPort_frame]

@[simp] theorem bumpGlobal_pending (i : CounterId) : (bumpGlobal i s).pending = s.pending := by rw [bumpGlobal_frame]
@[simp] theorem bumpGlobal_now (i : CounterId) : (bumpGlobal i s).now = s.now := by rw [bumpGlobal_frame]
@[simp] theorem bumpGlobal_resetHeld (i : CounterId) :
    (bumpGlobal i s).resetHeld = s.resetHeld := by rw [bumpGlobal_frame]
@[simp] theorem bumpGlobal_straps (i : CounterId) : (bumpGlobal i s).straps = s.straps := by rw [bumpGlobal_frame]
@[simp] theorem bumpGlobal_pins (i : CounterId) : (bumpGlobal i s).pins = s.pins := by rw [bumpGlobal_frame]
@[simp] theorem bumpGlobal_device (i : CounterId) : (bumpGlobal i s).device = s.device := by rw [bumpGlobal_frame]
@[simp] theorem bumpGlobal_record (i : CounterId) : (bumpGlobal i s).record = s.record := by rw [bumpGlobal_frame]
@[simp] theorem bumpGlobal_ports (i : CounterId) : (bumpGlobal i s).ports = s.ports := by rw [bumpGlobal_frame]
@[simp] theorem bumpGlobal_bridgeLoss (i : CounterId) :
    (bumpGlobal i s).bridgeLoss = s.bridgeLoss := by rw [bumpGlobal_frame]
@[simp] theorem bumpGlobal_stations (i : CounterId) : (bumpGlobal i s).stations = s.stations := by rw [bumpGlobal_frame]
@[simp] theorem bumpGlobal_stationDyn (i : CounterId) :
    (bumpGlobal i s).stationDyn = s.stationDyn := by rw [bumpGlobal_frame]
@[simp] theorem bumpGlobal_owners (i : CounterId) : (bumpGlobal i s).owners = s.owners := by rw [bumpGlobal_frame]
@[simp] theorem bumpGlobal_mapCounts (i : CounterId) :
    (bumpGlobal i s).mapCounts = s.mapCounts := by rw [bumpGlobal_frame]
@[simp] theorem bumpGlobal_supervisionDue (i : CounterId) :
    (bumpGlobal i s).supervisionDue = s.supervisionDue := by rw [bumpGlobal_frame]
@[simp] theorem bumpGlobal_mirror (i : CounterId) : (bumpGlobal i s).mirror = s.mirror := by rw [bumpGlobal_frame]
@[simp] theorem bumpGlobal_lines (i : CounterId) : (bumpGlobal i s).lines = s.lines := by rw [bumpGlobal_frame]
@[simp] theorem bumpGlobal_lineDyn (i : CounterId) : (bumpGlobal i s).lineDyn = s.lineDyn := by rw [bumpGlobal_frame]
@[simp] theorem bumpGlobal_outputs (i : CounterId) : (bumpGlobal i s).outputs = s.outputs := by rw [bumpGlobal_frame]
@[simp] theorem bumpGlobal_lineCounts (i : CounterId) :
    (bumpGlobal i s).lineCounts = s.lineCounts := by rw [bumpGlobal_frame]
@[simp] theorem bumpGlobal_timers (i : CounterId) : (bumpGlobal i s).timers = s.timers := by rw [bumpGlobal_frame]
@[simp] theorem bumpGlobal_timerDyn (i : CounterId) : (bumpGlobal i s).timerDyn = s.timerDyn := by rw [bumpGlobal_frame]
@[simp] theorem bumpGlobal_vectors (i : CounterId) : (bumpGlobal i s).vectors = s.vectors := by rw [bumpGlobal_frame]
@[simp] theorem bumpGlobal_alerts (i : CounterId) : (bumpGlobal i s).alerts = s.alerts := by rw [bumpGlobal_frame]
@[simp] theorem bumpGlobal_ga (i : CounterId) : (bumpGlobal i s).ga = s.ga := by rw [bumpGlobal_frame]
@[simp] theorem bumpGlobal_zones (i : CounterId) : (bumpGlobal i s).zones = s.zones := by rw [bumpGlobal_frame]
@[simp] theorem bumpGlobal_zoneDyn (i : CounterId) : (bumpGlobal i s).zoneDyn = s.zoneDyn := by rw [bumpGlobal_frame]
@[simp] theorem bumpGlobal_doors (i : CounterId) : (bumpGlobal i s).doors = s.doors := by rw [bumpGlobal_frame]
@[simp] theorem bumpGlobal_doorDyn (i : CounterId) : (bumpGlobal i s).doorDyn = s.doorDyn := by rw [bumpGlobal_frame]
@[simp] theorem bumpGlobal_messages (i : CounterId) : (bumpGlobal i s).messages = s.messages := by rw [bumpGlobal_frame]
@[simp] theorem bumpGlobal_calls (i : CounterId) : (bumpGlobal i s).calls = s.calls := by rw [bumpGlobal_frame]
@[simp] theorem bumpGlobal_nextStamp (i : CounterId) :
    (bumpGlobal i s).nextStamp = s.nextStamp := by rw [bumpGlobal_frame]
@[simp] theorem bumpGlobal_zoneLines (i : CounterId) :
    (bumpGlobal i s).zoneLines = s.zoneLines := by rw [bumpGlobal_frame]
@[simp] theorem bumpGlobal_ramps (i : CounterId) : (bumpGlobal i s).ramps = s.ramps := by rw [bumpGlobal_frame]
@[simp] theorem bumpGlobal_rampDyn (i : CounterId) : (bumpGlobal i s).rampDyn = s.rampDyn := by rw [bumpGlobal_frame]
@[simp] theorem bumpGlobal_quality (i : CounterId) : (bumpGlobal i s).quality = s.quality := by rw [bumpGlobal_frame]

@[simp] theorem startTransmission_pending (p : Port) :
    (startTransmission p s).pending = s.pending := by rw [startTransmission_frame]
@[simp] theorem startTransmission_now (p : Port) :
    (startTransmission p s).now = s.now := by rw [startTransmission_frame]
@[simp] theorem startTransmission_resetHeld (p : Port) :
    (startTransmission p s).resetHeld = s.resetHeld := by rw [startTransmission_frame]
@[simp] theorem startTransmission_straps (p : Port) :
    (startTransmission p s).straps = s.straps := by rw [startTransmission_frame]
@[simp] theorem startTransmission_pins (p : Port) :
    (startTransmission p s).pins = s.pins := by rw [startTransmission_frame]
@[simp] theorem startTransmission_device (p : Port) :
    (startTransmission p s).device = s.device := by rw [startTransmission_frame]
@[simp] theorem startTransmission_record (p : Port) :
    (startTransmission p s).record = s.record := by rw [startTransmission_frame]
@[simp] theorem startTransmission_bridgeLoss (p : Port) :
    (startTransmission p s).bridgeLoss = s.bridgeLoss := by rw [startTransmission_frame]
@[simp] theorem startTransmission_stations (p : Port) :
    (startTransmission p s).stations = s.stations := by rw [startTransmission_frame]
@[simp] theorem startTransmission_stationDyn (p : Port) :
    (startTransmission p s).stationDyn = s.stationDyn := by rw [startTransmission_frame]
@[simp] theorem startTransmission_owners (p : Port) :
    (startTransmission p s).owners = s.owners := by rw [startTransmission_frame]
@[simp] theorem startTransmission_mapCounts (p : Port) :
    (startTransmission p s).mapCounts = s.mapCounts := by rw [startTransmission_frame]
@[simp] theorem startTransmission_supervisionDue (p : Port) :
    (startTransmission p s).supervisionDue = s.supervisionDue := by rw [startTransmission_frame]
@[simp] theorem startTransmission_mirror (p : Port) :
    (startTransmission p s).mirror = s.mirror := by rw [startTransmission_frame]
@[simp] theorem startTransmission_lines (p : Port) :
    (startTransmission p s).lines = s.lines := by rw [startTransmission_frame]
@[simp] theorem startTransmission_lineDyn (p : Port) :
    (startTransmission p s).lineDyn = s.lineDyn := by rw [startTransmission_frame]
@[simp] theorem startTransmission_outputs (p : Port) :
    (startTransmission p s).outputs = s.outputs := by rw [startTransmission_frame]
@[simp] theorem startTransmission_lineCounts (p : Port) :
    (startTransmission p s).lineCounts = s.lineCounts := by rw [startTransmission_frame]
@[simp] theorem startTransmission_timers (p : Port) :
    (startTransmission p s).timers = s.timers := by rw [startTransmission_frame]
@[simp] theorem startTransmission_timerDyn (p : Port) :
    (startTransmission p s).timerDyn = s.timerDyn := by rw [startTransmission_frame]
@[simp] theorem startTransmission_vectors (p : Port) :
    (startTransmission p s).vectors = s.vectors := by rw [startTransmission_frame]
@[simp] theorem startTransmission_codes (p : Port) :
    (startTransmission p s).codes = s.codes := by rw [startTransmission_frame]
@[simp] theorem startTransmission_alerts (p : Port) :
    (startTransmission p s).alerts = s.alerts := by rw [startTransmission_frame]
@[simp] theorem startTransmission_ga (p : Port) : (startTransmission p s).ga = s.ga := by rw [startTransmission_frame]
@[simp] theorem startTransmission_zones (p : Port) :
    (startTransmission p s).zones = s.zones := by rw [startTransmission_frame]
@[simp] theorem startTransmission_zoneDyn (p : Port) :
    (startTransmission p s).zoneDyn = s.zoneDyn := by rw [startTransmission_frame]
@[simp] theorem startTransmission_doors (p : Port) :
    (startTransmission p s).doors = s.doors := by rw [startTransmission_frame]
@[simp] theorem startTransmission_doorDyn (p : Port) :
    (startTransmission p s).doorDyn = s.doorDyn := by rw [startTransmission_frame]
@[simp] theorem startTransmission_messages (p : Port) :
    (startTransmission p s).messages = s.messages := by rw [startTransmission_frame]
@[simp] theorem startTransmission_calls (p : Port) :
    (startTransmission p s).calls = s.calls := by rw [startTransmission_frame]
@[simp] theorem startTransmission_nextStamp (p : Port) :
    (startTransmission p s).nextStamp = s.nextStamp := by rw [startTransmission_frame]
@[simp] theorem startTransmission_zoneLines (p : Port) :
    (startTransmission p s).zoneLines = s.zoneLines := by rw [startTransmission_frame]
@[simp] theorem startTransmission_ramps (p : Port) :
    (startTransmission p s).ramps = s.ramps := by rw [startTransmission_frame]
@[simp] theorem startTransmission_rampDyn (p : Port) :
    (startTransmission p s).rampDyn = s.rampDyn := by rw [startTransmission_frame]
@[simp] theorem startTransmission_counters (p : Port) :
    (startTransmission p s).counters = s.counters := by rw [startTransmission_frame]
@[simp] theorem startTransmission_quality (p : Port) :
    (startTransmission p s).quality = s.quality := by rw [startTransmission_frame]

@[simp] theorem sendTx_pending (p : Port) (cls : TxClass) (f : TxFrame) :
    (sendTx p cls f s).pending = s.pending := by rw [sendTx_frame]
@[simp] theorem sendTx_now (p : Port) (cls : TxClass) (f : TxFrame) :
    (sendTx p cls f s).now = s.now := by rw [sendTx_frame]
@[simp] theorem sendTx_resetHeld (p : Port) (cls : TxClass) (f : TxFrame) :
    (sendTx p cls f s).resetHeld = s.resetHeld := by rw [sendTx_frame]
@[simp] theorem sendTx_straps (p : Port) (cls : TxClass) (f : TxFrame) :
    (sendTx p cls f s).straps = s.straps := by rw [sendTx_frame]
@[simp] theorem sendTx_pins (p : Port) (cls : TxClass) (f : TxFrame) :
    (sendTx p cls f s).pins = s.pins := by rw [sendTx_frame]
@[simp] theorem sendTx_device (p : Port) (cls : TxClass) (f : TxFrame) :
    (sendTx p cls f s).device = s.device := by rw [sendTx_frame]
@[simp] theorem sendTx_record (p : Port) (cls : TxClass) (f : TxFrame) :
    (sendTx p cls f s).record = s.record := by rw [sendTx_frame]
@[simp] theorem sendTx_bridgeLoss (p : Port) (cls : TxClass) (f : TxFrame) :
    (sendTx p cls f s).bridgeLoss = s.bridgeLoss := by rw [sendTx_frame]
@[simp] theorem sendTx_stations (p : Port) (cls : TxClass) (f : TxFrame) :
    (sendTx p cls f s).stations = s.stations := by rw [sendTx_frame]
@[simp] theorem sendTx_stationDyn (p : Port) (cls : TxClass) (f : TxFrame) :
    (sendTx p cls f s).stationDyn = s.stationDyn := by rw [sendTx_frame]
@[simp] theorem sendTx_owners (p : Port) (cls : TxClass) (f : TxFrame) :
    (sendTx p cls f s).owners = s.owners := by rw [sendTx_frame]
@[simp] theorem sendTx_mapCounts (p : Port) (cls : TxClass) (f : TxFrame) :
    (sendTx p cls f s).mapCounts = s.mapCounts := by rw [sendTx_frame]
@[simp] theorem sendTx_supervisionDue (p : Port) (cls : TxClass) (f : TxFrame) :
    (sendTx p cls f s).supervisionDue = s.supervisionDue := by rw [sendTx_frame]
@[simp] theorem sendTx_mirror (p : Port) (cls : TxClass) (f : TxFrame) :
    (sendTx p cls f s).mirror = s.mirror := by rw [sendTx_frame]
@[simp] theorem sendTx_lines (p : Port) (cls : TxClass) (f : TxFrame) :
    (sendTx p cls f s).lines = s.lines := by rw [sendTx_frame]
@[simp] theorem sendTx_lineDyn (p : Port) (cls : TxClass) (f : TxFrame) :
    (sendTx p cls f s).lineDyn = s.lineDyn := by rw [sendTx_frame]
@[simp] theorem sendTx_outputs (p : Port) (cls : TxClass) (f : TxFrame) :
    (sendTx p cls f s).outputs = s.outputs := by rw [sendTx_frame]
@[simp] theorem sendTx_lineCounts (p : Port) (cls : TxClass) (f : TxFrame) :
    (sendTx p cls f s).lineCounts = s.lineCounts := by rw [sendTx_frame]
@[simp] theorem sendTx_timers (p : Port) (cls : TxClass) (f : TxFrame) :
    (sendTx p cls f s).timers = s.timers := by rw [sendTx_frame]
@[simp] theorem sendTx_timerDyn (p : Port) (cls : TxClass) (f : TxFrame) :
    (sendTx p cls f s).timerDyn = s.timerDyn := by rw [sendTx_frame]
@[simp] theorem sendTx_vectors (p : Port) (cls : TxClass) (f : TxFrame) :
    (sendTx p cls f s).vectors = s.vectors := by rw [sendTx_frame]
@[simp] theorem sendTx_alerts (p : Port) (cls : TxClass) (f : TxFrame) :
    (sendTx p cls f s).alerts = s.alerts := by rw [sendTx_frame]
@[simp] theorem sendTx_ga (p : Port) (cls : TxClass) (f : TxFrame) :
    (sendTx p cls f s).ga = s.ga := by rw [sendTx_frame]
@[simp] theorem sendTx_zones (p : Port) (cls : TxClass) (f : TxFrame) :
    (sendTx p cls f s).zones = s.zones := by rw [sendTx_frame]
@[simp] theorem sendTx_zoneDyn (p : Port) (cls : TxClass) (f : TxFrame) :
    (sendTx p cls f s).zoneDyn = s.zoneDyn := by rw [sendTx_frame]
@[simp] theorem sendTx_doors (p : Port) (cls : TxClass) (f : TxFrame) :
    (sendTx p cls f s).doors = s.doors := by rw [sendTx_frame]
@[simp] theorem sendTx_doorDyn (p : Port) (cls : TxClass) (f : TxFrame) :
    (sendTx p cls f s).doorDyn = s.doorDyn := by rw [sendTx_frame]
@[simp] theorem sendTx_messages (p : Port) (cls : TxClass) (f : TxFrame) :
    (sendTx p cls f s).messages = s.messages := by rw [sendTx_frame]
@[simp] theorem sendTx_calls (p : Port) (cls : TxClass) (f : TxFrame) :
    (sendTx p cls f s).calls = s.calls := by rw [sendTx_frame]
@[simp] theorem sendTx_nextStamp (p : Port) (cls : TxClass) (f : TxFrame) :
    (sendTx p cls f s).nextStamp = s.nextStamp := by rw [sendTx_frame]
@[simp] theorem sendTx_zoneLines (p : Port) (cls : TxClass) (f : TxFrame) :
    (sendTx p cls f s).zoneLines = s.zoneLines := by rw [sendTx_frame]
@[simp] theorem sendTx_ramps (p : Port) (cls : TxClass) (f : TxFrame) :
    (sendTx p cls f s).ramps = s.ramps := by rw [sendTx_frame]
@[simp] theorem sendTx_rampDyn (p : Port) (cls : TxClass) (f : TxFrame) :
    (sendTx p cls f s).rampDyn = s.rampDyn := by rw [sendTx_frame]
@[simp] theorem sendTx_quality (p : Port) (cls : TxClass) (f : TxFrame) :
    (sendTx p cls f s).quality = s.quality := by rw [sendTx_frame]

@[simp] theorem jobCommand_pending (a : Addr) (b : List Byte) :
    (jobCommand a b s).pending = s.pending := by rw [jobCommand_frame]
@[simp] theorem jobCommand_now (a : Addr) (b : List Byte) : (jobCommand a b s).now = s.now := by rw [jobCommand_frame]
@[simp] theorem jobCommand_resetHeld (a : Addr) (b : List Byte) :
    (jobCommand a b s).resetHeld = s.resetHeld := by rw [jobCommand_frame]
@[simp] theorem jobCommand_straps (a : Addr) (b : List Byte) :
    (jobCommand a b s).straps = s.straps := by rw [jobCommand_frame]
@[simp] theorem jobCommand_pins (a : Addr) (b : List Byte) :
    (jobCommand a b s).pins = s.pins := by rw [jobCommand_frame]
@[simp] theorem jobCommand_device (a : Addr) (b : List Byte) :
    (jobCommand a b s).device = s.device := by rw [jobCommand_frame]
@[simp] theorem jobCommand_record (a : Addr) (b : List Byte) :
    (jobCommand a b s).record = s.record := by rw [jobCommand_frame]
@[simp] theorem jobCommand_bridgeLoss (a : Addr) (b : List Byte) :
    (jobCommand a b s).bridgeLoss = s.bridgeLoss := by rw [jobCommand_frame]
@[simp] theorem jobCommand_stations (a : Addr) (b : List Byte) :
    (jobCommand a b s).stations = s.stations := by rw [jobCommand_frame]
@[simp] theorem jobCommand_stationDyn (a : Addr) (b : List Byte) :
    (jobCommand a b s).stationDyn = s.stationDyn := by rw [jobCommand_frame]
@[simp] theorem jobCommand_owners (a : Addr) (b : List Byte) :
    (jobCommand a b s).owners = s.owners := by rw [jobCommand_frame]
@[simp] theorem jobCommand_mapCounts (a : Addr) (b : List Byte) :
    (jobCommand a b s).mapCounts = s.mapCounts := by rw [jobCommand_frame]
@[simp] theorem jobCommand_supervisionDue (a : Addr) (b : List Byte) :
    (jobCommand a b s).supervisionDue = s.supervisionDue := by rw [jobCommand_frame]
@[simp] theorem jobCommand_mirror (a : Addr) (b : List Byte) :
    (jobCommand a b s).mirror = s.mirror := by rw [jobCommand_frame]
@[simp] theorem jobCommand_lines (a : Addr) (b : List Byte) :
    (jobCommand a b s).lines = s.lines := by rw [jobCommand_frame]
@[simp] theorem jobCommand_lineDyn (a : Addr) (b : List Byte) :
    (jobCommand a b s).lineDyn = s.lineDyn := by rw [jobCommand_frame]
@[simp] theorem jobCommand_outputs (a : Addr) (b : List Byte) :
    (jobCommand a b s).outputs = s.outputs := by rw [jobCommand_frame]
@[simp] theorem jobCommand_lineCounts (a : Addr) (b : List Byte) :
    (jobCommand a b s).lineCounts = s.lineCounts := by rw [jobCommand_frame]
@[simp] theorem jobCommand_timers (a : Addr) (b : List Byte) :
    (jobCommand a b s).timers = s.timers := by rw [jobCommand_frame]
@[simp] theorem jobCommand_timerDyn (a : Addr) (b : List Byte) :
    (jobCommand a b s).timerDyn = s.timerDyn := by rw [jobCommand_frame]
@[simp] theorem jobCommand_vectors (a : Addr) (b : List Byte) :
    (jobCommand a b s).vectors = s.vectors := by rw [jobCommand_frame]
@[simp] theorem jobCommand_alerts (a : Addr) (b : List Byte) :
    (jobCommand a b s).alerts = s.alerts := by rw [jobCommand_frame]
@[simp] theorem jobCommand_ga (a : Addr) (b : List Byte) : (jobCommand a b s).ga = s.ga := by rw [jobCommand_frame]
@[simp] theorem jobCommand_zones (a : Addr) (b : List Byte) :
    (jobCommand a b s).zones = s.zones := by rw [jobCommand_frame]
@[simp] theorem jobCommand_zoneDyn (a : Addr) (b : List Byte) :
    (jobCommand a b s).zoneDyn = s.zoneDyn := by rw [jobCommand_frame]
@[simp] theorem jobCommand_doors (a : Addr) (b : List Byte) :
    (jobCommand a b s).doors = s.doors := by rw [jobCommand_frame]
@[simp] theorem jobCommand_doorDyn (a : Addr) (b : List Byte) :
    (jobCommand a b s).doorDyn = s.doorDyn := by rw [jobCommand_frame]
@[simp] theorem jobCommand_messages (a : Addr) (b : List Byte) :
    (jobCommand a b s).messages = s.messages := by rw [jobCommand_frame]
@[simp] theorem jobCommand_calls (a : Addr) (b : List Byte) :
    (jobCommand a b s).calls = s.calls := by rw [jobCommand_frame]
@[simp] theorem jobCommand_nextStamp (a : Addr) (b : List Byte) :
    (jobCommand a b s).nextStamp = s.nextStamp := by rw [jobCommand_frame]
@[simp] theorem jobCommand_zoneLines (a : Addr) (b : List Byte) :
    (jobCommand a b s).zoneLines = s.zoneLines := by rw [jobCommand_frame]
@[simp] theorem jobCommand_ramps (a : Addr) (b : List Byte) :
    (jobCommand a b s).ramps = s.ramps := by rw [jobCommand_frame]
@[simp] theorem jobCommand_rampDyn (a : Addr) (b : List Byte) :
    (jobCommand a b s).rampDyn = s.rampDyn := by rw [jobCommand_frame]
@[simp] theorem jobCommand_quality (a : Addr) (b : List Byte) :
    (jobCommand a b s).quality = s.quality := by rw [jobCommand_frame]

@[simp] theorem jobCommand?_pending (a : Option Addr) (b : List Byte) :
    (jobCommand? a b s).pending = s.pending := by rw [jobCommand?_frame]
@[simp] theorem jobCommand?_now (a : Option Addr) (b : List Byte) :
    (jobCommand? a b s).now = s.now := by rw [jobCommand?_frame]
@[simp] theorem jobCommand?_resetHeld (a : Option Addr) (b : List Byte) :
    (jobCommand? a b s).resetHeld = s.resetHeld := by rw [jobCommand?_frame]
@[simp] theorem jobCommand?_straps (a : Option Addr) (b : List Byte) :
    (jobCommand? a b s).straps = s.straps := by rw [jobCommand?_frame]
@[simp] theorem jobCommand?_pins (a : Option Addr) (b : List Byte) :
    (jobCommand? a b s).pins = s.pins := by rw [jobCommand?_frame]
@[simp] theorem jobCommand?_device (a : Option Addr) (b : List Byte) :
    (jobCommand? a b s).device = s.device := by rw [jobCommand?_frame]
@[simp] theorem jobCommand?_record (a : Option Addr) (b : List Byte) :
    (jobCommand? a b s).record = s.record := by rw [jobCommand?_frame]
@[simp] theorem jobCommand?_bridgeLoss (a : Option Addr) (b : List Byte) :
    (jobCommand? a b s).bridgeLoss = s.bridgeLoss := by rw [jobCommand?_frame]
@[simp] theorem jobCommand?_stations (a : Option Addr) (b : List Byte) :
    (jobCommand? a b s).stations = s.stations := by rw [jobCommand?_frame]
@[simp] theorem jobCommand?_stationDyn (a : Option Addr) (b : List Byte) :
    (jobCommand? a b s).stationDyn = s.stationDyn := by rw [jobCommand?_frame]
@[simp] theorem jobCommand?_owners (a : Option Addr) (b : List Byte) :
    (jobCommand? a b s).owners = s.owners := by rw [jobCommand?_frame]
@[simp] theorem jobCommand?_mapCounts (a : Option Addr) (b : List Byte) :
    (jobCommand? a b s).mapCounts = s.mapCounts := by rw [jobCommand?_frame]
@[simp] theorem jobCommand?_supervisionDue (a : Option Addr) (b : List Byte) :
    (jobCommand? a b s).supervisionDue = s.supervisionDue := by rw [jobCommand?_frame]
@[simp] theorem jobCommand?_mirror (a : Option Addr) (b : List Byte) :
    (jobCommand? a b s).mirror = s.mirror := by rw [jobCommand?_frame]
@[simp] theorem jobCommand?_lines (a : Option Addr) (b : List Byte) :
    (jobCommand? a b s).lines = s.lines := by rw [jobCommand?_frame]
@[simp] theorem jobCommand?_lineDyn (a : Option Addr) (b : List Byte) :
    (jobCommand? a b s).lineDyn = s.lineDyn := by rw [jobCommand?_frame]
@[simp] theorem jobCommand?_outputs (a : Option Addr) (b : List Byte) :
    (jobCommand? a b s).outputs = s.outputs := by rw [jobCommand?_frame]
@[simp] theorem jobCommand?_lineCounts (a : Option Addr) (b : List Byte) :
    (jobCommand? a b s).lineCounts = s.lineCounts := by rw [jobCommand?_frame]
@[simp] theorem jobCommand?_timers (a : Option Addr) (b : List Byte) :
    (jobCommand? a b s).timers = s.timers := by rw [jobCommand?_frame]
@[simp] theorem jobCommand?_timerDyn (a : Option Addr) (b : List Byte) :
    (jobCommand? a b s).timerDyn = s.timerDyn := by rw [jobCommand?_frame]
@[simp] theorem jobCommand?_vectors (a : Option Addr) (b : List Byte) :
    (jobCommand? a b s).vectors = s.vectors := by rw [jobCommand?_frame]
@[simp] theorem jobCommand?_alerts (a : Option Addr) (b : List Byte) :
    (jobCommand? a b s).alerts = s.alerts := by rw [jobCommand?_frame]
@[simp] theorem jobCommand?_ga (a : Option Addr) (b : List Byte) :
    (jobCommand? a b s).ga = s.ga := by rw [jobCommand?_frame]
@[simp] theorem jobCommand?_zones (a : Option Addr) (b : List Byte) :
    (jobCommand? a b s).zones = s.zones := by rw [jobCommand?_frame]
@[simp] theorem jobCommand?_zoneDyn (a : Option Addr) (b : List Byte) :
    (jobCommand? a b s).zoneDyn = s.zoneDyn := by rw [jobCommand?_frame]
@[simp] theorem jobCommand?_doors (a : Option Addr) (b : List Byte) :
    (jobCommand? a b s).doors = s.doors := by rw [jobCommand?_frame]
@[simp] theorem jobCommand?_doorDyn (a : Option Addr) (b : List Byte) :
    (jobCommand? a b s).doorDyn = s.doorDyn := by rw [jobCommand?_frame]
@[simp] theorem jobCommand?_messages (a : Option Addr) (b : List Byte) :
    (jobCommand? a b s).messages = s.messages := by rw [jobCommand?_frame]
@[simp] theorem jobCommand?_calls (a : Option Addr) (b : List Byte) :
    (jobCommand? a b s).calls = s.calls := by rw [jobCommand?_frame]
@[simp] theorem jobCommand?_nextStamp (a : Option Addr) (b : List Byte) :
    (jobCommand? a b s).nextStamp = s.nextStamp := by rw [jobCommand?_frame]
@[simp] theorem jobCommand?_zoneLines (a : Option Addr) (b : List Byte) :
    (jobCommand? a b s).zoneLines = s.zoneLines := by rw [jobCommand?_frame]
@[simp] theorem jobCommand?_ramps (a : Option Addr) (b : List Byte) :
    (jobCommand? a b s).ramps = s.ramps := by rw [jobCommand?_frame]
@[simp] theorem jobCommand?_rampDyn (a : Option Addr) (b : List Byte) :
    (jobCommand? a b s).rampDyn = s.rampDyn := by rw [jobCommand?_frame]
@[simp] theorem jobCommand?_quality (a : Option Addr) (b : List Byte) :
    (jobCommand? a b s).quality = s.quality := by rw [jobCommand?_frame]

@[simp] theorem release_pending (a : Addr) (o : Owner) : (release a o s).pending = s.pending := by rw [release_frame]
@[simp] theorem release_now (a : Addr) (o : Owner) : (release a o s).now = s.now := by rw [release_frame]
@[simp] theorem release_resetHeld (a : Addr) (o : Owner) :
    (release a o s).resetHeld = s.resetHeld := by rw [release_frame]
@[simp] theorem release_straps (a : Addr) (o : Owner) : (release a o s).straps = s.straps := by rw [release_frame]
@[simp] theorem release_pins (a : Addr) (o : Owner) : (release a o s).pins = s.pins := by rw [release_frame]
@[simp] theorem release_device (a : Addr) (o : Owner) : (release a o s).device = s.device := by rw [release_frame]
@[simp] theorem release_record (a : Addr) (o : Owner) : (release a o s).record = s.record := by rw [release_frame]
@[simp] theorem release_ports (a : Addr) (o : Owner) : (release a o s).ports = s.ports := by rw [release_frame]
@[simp] theorem release_bridgeLoss (a : Addr) (o : Owner) :
    (release a o s).bridgeLoss = s.bridgeLoss := by rw [release_frame]
@[simp] theorem release_stations (a : Addr) (o : Owner) : (release a o s).stations = s.stations := by rw [release_frame]
@[simp] theorem release_stationDyn (a : Addr) (o : Owner) :
    (release a o s).stationDyn = s.stationDyn := by rw [release_frame]
@[simp] theorem release_mapCounts (a : Addr) (o : Owner) :
    (release a o s).mapCounts = s.mapCounts := by rw [release_frame]
@[simp] theorem release_supervisionDue (a : Addr) (o : Owner) :
    (release a o s).supervisionDue = s.supervisionDue := by rw [release_frame]
@[simp] theorem release_mirror (a : Addr) (o : Owner) : (release a o s).mirror = s.mirror := by rw [release_frame]
@[simp] theorem release_lines (a : Addr) (o : Owner) : (release a o s).lines = s.lines := by rw [release_frame]
@[simp] theorem release_lineDyn (a : Addr) (o : Owner) : (release a o s).lineDyn = s.lineDyn := by rw [release_frame]
@[simp] theorem release_outputs (a : Addr) (o : Owner) : (release a o s).outputs = s.outputs := by rw [release_frame]
@[simp] theorem release_lineCounts (a : Addr) (o : Owner) :
    (release a o s).lineCounts = s.lineCounts := by rw [release_frame]
@[simp] theorem release_timers (a : Addr) (o : Owner) : (release a o s).timers = s.timers := by rw [release_frame]
@[simp] theorem release_timerDyn (a : Addr) (o : Owner) : (release a o s).timerDyn = s.timerDyn := by rw [release_frame]
@[simp] theorem release_vectors (a : Addr) (o : Owner) : (release a o s).vectors = s.vectors := by rw [release_frame]
@[simp] theorem release_codes (a : Addr) (o : Owner) : (release a o s).codes = s.codes := by rw [release_frame]
@[simp] theorem release_alerts (a : Addr) (o : Owner) : (release a o s).alerts = s.alerts := by rw [release_frame]
@[simp] theorem release_ga (a : Addr) (o : Owner) : (release a o s).ga = s.ga := by rw [release_frame]
@[simp] theorem release_zones (a : Addr) (o : Owner) : (release a o s).zones = s.zones := by rw [release_frame]
@[simp] theorem release_zoneDyn (a : Addr) (o : Owner) : (release a o s).zoneDyn = s.zoneDyn := by rw [release_frame]
@[simp] theorem release_doors (a : Addr) (o : Owner) : (release a o s).doors = s.doors := by rw [release_frame]
@[simp] theorem release_doorDyn (a : Addr) (o : Owner) : (release a o s).doorDyn = s.doorDyn := by rw [release_frame]
@[simp] theorem release_messages (a : Addr) (o : Owner) : (release a o s).messages = s.messages := by rw [release_frame]
@[simp] theorem release_calls (a : Addr) (o : Owner) : (release a o s).calls = s.calls := by rw [release_frame]
@[simp] theorem release_nextStamp (a : Addr) (o : Owner) :
    (release a o s).nextStamp = s.nextStamp := by rw [release_frame]
@[simp] theorem release_zoneLines (a : Addr) (o : Owner) :
    (release a o s).zoneLines = s.zoneLines := by rw [release_frame]
@[simp] theorem release_ramps (a : Addr) (o : Owner) : (release a o s).ramps = s.ramps := by rw [release_frame]
@[simp] theorem release_rampDyn (a : Addr) (o : Owner) : (release a o s).rampDyn = s.rampDyn := by rw [release_frame]
@[simp] theorem release_counters (a : Addr) (o : Owner) : (release a o s).counters = s.counters := by rw [release_frame]
@[simp] theorem release_quality (a : Addr) (o : Owner) : (release a o s).quality = s.quality := by rw [release_frame]

@[simp] theorem release?_pending (a : Option Addr) (o : Owner) :
    (release? a o s).pending = s.pending := by rw [release?_frame]
@[simp] theorem release?_now (a : Option Addr) (o : Owner) : (release? a o s).now = s.now := by rw [release?_frame]
@[simp] theorem release?_resetHeld (a : Option Addr) (o : Owner) :
    (release? a o s).resetHeld = s.resetHeld := by rw [release?_frame]
@[simp] theorem release?_straps (a : Option Addr) (o : Owner) :
    (release? a o s).straps = s.straps := by rw [release?_frame]
@[simp] theorem release?_pins (a : Option Addr) (o : Owner) : (release? a o s).pins = s.pins := by rw [release?_frame]
@[simp] theorem release?_device (a : Option Addr) (o : Owner) :
    (release? a o s).device = s.device := by rw [release?_frame]
@[simp] theorem release?_record (a : Option Addr) (o : Owner) :
    (release? a o s).record = s.record := by rw [release?_frame]
@[simp] theorem release?_ports (a : Option Addr) (o : Owner) :
    (release? a o s).ports = s.ports := by rw [release?_frame]
@[simp] theorem release?_bridgeLoss (a : Option Addr) (o : Owner) :
    (release? a o s).bridgeLoss = s.bridgeLoss := by rw [release?_frame]
@[simp] theorem release?_stations (a : Option Addr) (o : Owner) :
    (release? a o s).stations = s.stations := by rw [release?_frame]
@[simp] theorem release?_stationDyn (a : Option Addr) (o : Owner) :
    (release? a o s).stationDyn = s.stationDyn := by rw [release?_frame]
@[simp] theorem release?_mapCounts (a : Option Addr) (o : Owner) :
    (release? a o s).mapCounts = s.mapCounts := by rw [release?_frame]
@[simp] theorem release?_supervisionDue (a : Option Addr) (o : Owner) :
    (release? a o s).supervisionDue = s.supervisionDue := by rw [release?_frame]
@[simp] theorem release?_mirror (a : Option Addr) (o : Owner) :
    (release? a o s).mirror = s.mirror := by rw [release?_frame]
@[simp] theorem release?_lines (a : Option Addr) (o : Owner) :
    (release? a o s).lines = s.lines := by rw [release?_frame]
@[simp] theorem release?_lineDyn (a : Option Addr) (o : Owner) :
    (release? a o s).lineDyn = s.lineDyn := by rw [release?_frame]
@[simp] theorem release?_outputs (a : Option Addr) (o : Owner) :
    (release? a o s).outputs = s.outputs := by rw [release?_frame]
@[simp] theorem release?_lineCounts (a : Option Addr) (o : Owner) :
    (release? a o s).lineCounts = s.lineCounts := by rw [release?_frame]
@[simp] theorem release?_timers (a : Option Addr) (o : Owner) :
    (release? a o s).timers = s.timers := by rw [release?_frame]
@[simp] theorem release?_timerDyn (a : Option Addr) (o : Owner) :
    (release? a o s).timerDyn = s.timerDyn := by rw [release?_frame]
@[simp] theorem release?_vectors (a : Option Addr) (o : Owner) :
    (release? a o s).vectors = s.vectors := by rw [release?_frame]
@[simp] theorem release?_codes (a : Option Addr) (o : Owner) :
    (release? a o s).codes = s.codes := by rw [release?_frame]
@[simp] theorem release?_alerts (a : Option Addr) (o : Owner) :
    (release? a o s).alerts = s.alerts := by rw [release?_frame]
@[simp] theorem release?_ga (a : Option Addr) (o : Owner) : (release? a o s).ga = s.ga := by rw [release?_frame]
@[simp] theorem release?_zones (a : Option Addr) (o : Owner) :
    (release? a o s).zones = s.zones := by rw [release?_frame]
@[simp] theorem release?_zoneDyn (a : Option Addr) (o : Owner) :
    (release? a o s).zoneDyn = s.zoneDyn := by rw [release?_frame]
@[simp] theorem release?_doors (a : Option Addr) (o : Owner) :
    (release? a o s).doors = s.doors := by rw [release?_frame]
@[simp] theorem release?_doorDyn (a : Option Addr) (o : Owner) :
    (release? a o s).doorDyn = s.doorDyn := by rw [release?_frame]
@[simp] theorem release?_messages (a : Option Addr) (o : Owner) :
    (release? a o s).messages = s.messages := by rw [release?_frame]
@[simp] theorem release?_calls (a : Option Addr) (o : Owner) :
    (release? a o s).calls = s.calls := by rw [release?_frame]
@[simp] theorem release?_nextStamp (a : Option Addr) (o : Owner) :
    (release? a o s).nextStamp = s.nextStamp := by rw [release?_frame]
@[simp] theorem release?_zoneLines (a : Option Addr) (o : Owner) :
    (release? a o s).zoneLines = s.zoneLines := by rw [release?_frame]
@[simp] theorem release?_ramps (a : Option Addr) (o : Owner) :
    (release? a o s).ramps = s.ramps := by rw [release?_frame]
@[simp] theorem release?_rampDyn (a : Option Addr) (o : Owner) :
    (release? a o s).rampDyn = s.rampDyn := by rw [release?_frame]
@[simp] theorem release?_counters (a : Option Addr) (o : Owner) :
    (release? a o s).counters = s.counters := by rw [release?_frame]
@[simp] theorem release?_quality (a : Option Addr) (o : Owner) :
    (release? a o s).quality = s.quality := by rw [release?_frame]

@[simp] theorem orderOutput_pending (n : LineId) (fn : LineFn) (on : Bool) :
    (orderOutput n fn on s).pending = s.pending := by rw [orderOutput_frame]
@[simp] theorem orderOutput_now (n : LineId) (fn : LineFn) (on : Bool) :
    (orderOutput n fn on s).now = s.now := by rw [orderOutput_frame]
@[simp] theorem orderOutput_resetHeld (n : LineId) (fn : LineFn) (on : Bool) :
    (orderOutput n fn on s).resetHeld = s.resetHeld := by rw [orderOutput_frame]
@[simp] theorem orderOutput_straps (n : LineId) (fn : LineFn) (on : Bool) :
    (orderOutput n fn on s).straps = s.straps := by rw [orderOutput_frame]
@[simp] theorem orderOutput_pins (n : LineId) (fn : LineFn) (on : Bool) :
    (orderOutput n fn on s).pins = s.pins := by rw [orderOutput_frame]
@[simp] theorem orderOutput_device (n : LineId) (fn : LineFn) (on : Bool) :
    (orderOutput n fn on s).device = s.device := by rw [orderOutput_frame]
@[simp] theorem orderOutput_record (n : LineId) (fn : LineFn) (on : Bool) :
    (orderOutput n fn on s).record = s.record := by rw [orderOutput_frame]
@[simp] theorem orderOutput_ports (n : LineId) (fn : LineFn) (on : Bool) :
    (orderOutput n fn on s).ports = s.ports := by rw [orderOutput_frame]
@[simp] theorem orderOutput_bridgeLoss (n : LineId) (fn : LineFn) (on : Bool) :
    (orderOutput n fn on s).bridgeLoss = s.bridgeLoss := by rw [orderOutput_frame]
@[simp] theorem orderOutput_stations (n : LineId) (fn : LineFn) (on : Bool) :
    (orderOutput n fn on s).stations = s.stations := by rw [orderOutput_frame]
@[simp] theorem orderOutput_stationDyn (n : LineId) (fn : LineFn) (on : Bool) :
    (orderOutput n fn on s).stationDyn = s.stationDyn := by rw [orderOutput_frame]
@[simp] theorem orderOutput_owners (n : LineId) (fn : LineFn) (on : Bool) :
    (orderOutput n fn on s).owners = s.owners := by rw [orderOutput_frame]
@[simp] theorem orderOutput_mapCounts (n : LineId) (fn : LineFn) (on : Bool) :
    (orderOutput n fn on s).mapCounts = s.mapCounts := by rw [orderOutput_frame]
@[simp] theorem orderOutput_supervisionDue (n : LineId) (fn : LineFn) (on : Bool) :
    (orderOutput n fn on s).supervisionDue = s.supervisionDue := by rw [orderOutput_frame]
@[simp] theorem orderOutput_mirror (n : LineId) (fn : LineFn) (on : Bool) :
    (orderOutput n fn on s).mirror = s.mirror := by rw [orderOutput_frame]
@[simp] theorem orderOutput_lines (n : LineId) (fn : LineFn) (on : Bool) :
    (orderOutput n fn on s).lines = s.lines := by rw [orderOutput_frame]
@[simp] theorem orderOutput_lineDyn (n : LineId) (fn : LineFn) (on : Bool) :
    (orderOutput n fn on s).lineDyn = s.lineDyn := by rw [orderOutput_frame]
@[simp] theorem orderOutput_lineCounts (n : LineId) (fn : LineFn) (on : Bool) :
    (orderOutput n fn on s).lineCounts = s.lineCounts := by rw [orderOutput_frame]
@[simp] theorem orderOutput_timers (n : LineId) (fn : LineFn) (on : Bool) :
    (orderOutput n fn on s).timers = s.timers := by rw [orderOutput_frame]
@[simp] theorem orderOutput_timerDyn (n : LineId) (fn : LineFn) (on : Bool) :
    (orderOutput n fn on s).timerDyn = s.timerDyn := by rw [orderOutput_frame]
@[simp] theorem orderOutput_vectors (n : LineId) (fn : LineFn) (on : Bool) :
    (orderOutput n fn on s).vectors = s.vectors := by rw [orderOutput_frame]
@[simp] theorem orderOutput_codes (n : LineId) (fn : LineFn) (on : Bool) :
    (orderOutput n fn on s).codes = s.codes := by rw [orderOutput_frame]
@[simp] theorem orderOutput_alerts (n : LineId) (fn : LineFn) (on : Bool) :
    (orderOutput n fn on s).alerts = s.alerts := by rw [orderOutput_frame]
@[simp] theorem orderOutput_ga (n : LineId) (fn : LineFn) (on : Bool) :
    (orderOutput n fn on s).ga = s.ga := by rw [orderOutput_frame]
@[simp] theorem orderOutput_zones (n : LineId) (fn : LineFn) (on : Bool) :
    (orderOutput n fn on s).zones = s.zones := by rw [orderOutput_frame]
@[simp] theorem orderOutput_zoneDyn (n : LineId) (fn : LineFn) (on : Bool) :
    (orderOutput n fn on s).zoneDyn = s.zoneDyn := by rw [orderOutput_frame]
@[simp] theorem orderOutput_doors (n : LineId) (fn : LineFn) (on : Bool) :
    (orderOutput n fn on s).doors = s.doors := by rw [orderOutput_frame]
@[simp] theorem orderOutput_doorDyn (n : LineId) (fn : LineFn) (on : Bool) :
    (orderOutput n fn on s).doorDyn = s.doorDyn := by rw [orderOutput_frame]
@[simp] theorem orderOutput_messages (n : LineId) (fn : LineFn) (on : Bool) :
    (orderOutput n fn on s).messages = s.messages := by rw [orderOutput_frame]
@[simp] theorem orderOutput_calls (n : LineId) (fn : LineFn) (on : Bool) :
    (orderOutput n fn on s).calls = s.calls := by rw [orderOutput_frame]
@[simp] theorem orderOutput_nextStamp (n : LineId) (fn : LineFn) (on : Bool) :
    (orderOutput n fn on s).nextStamp = s.nextStamp := by rw [orderOutput_frame]
@[simp] theorem orderOutput_zoneLines (n : LineId) (fn : LineFn) (on : Bool) :
    (orderOutput n fn on s).zoneLines = s.zoneLines := by rw [orderOutput_frame]
@[simp] theorem orderOutput_ramps (n : LineId) (fn : LineFn) (on : Bool) :
    (orderOutput n fn on s).ramps = s.ramps := by rw [orderOutput_frame]
@[simp] theorem orderOutput_rampDyn (n : LineId) (fn : LineFn) (on : Bool) :
    (orderOutput n fn on s).rampDyn = s.rampDyn := by rw [orderOutput_frame]
@[simp] theorem orderOutput_counters (n : LineId) (fn : LineFn) (on : Bool) :
    (orderOutput n fn on s).counters = s.counters := by rw [orderOutput_frame]
@[simp] theorem orderOutput_quality (n : LineId) (fn : LineFn) (on : Bool) :
    (orderOutput n fn on s).quality = s.quality := by rw [orderOutput_frame]

@[simp] theorem orderEnable_pending (r : RampId) (on : Bool) :
    (orderEnable r on s).pending = s.pending := by rw [orderEnable_frame]
@[simp] theorem orderEnable_now (r : RampId) (on : Bool) : (orderEnable r on s).now = s.now := by rw [orderEnable_frame]
@[simp] theorem orderEnable_resetHeld (r : RampId) (on : Bool) :
    (orderEnable r on s).resetHeld = s.resetHeld := by rw [orderEnable_frame]
@[simp] theorem orderEnable_straps (r : RampId) (on : Bool) :
    (orderEnable r on s).straps = s.straps := by rw [orderEnable_frame]
@[simp] theorem orderEnable_pins (r : RampId) (on : Bool) :
    (orderEnable r on s).pins = s.pins := by rw [orderEnable_frame]
@[simp] theorem orderEnable_device (r : RampId) (on : Bool) :
    (orderEnable r on s).device = s.device := by rw [orderEnable_frame]
@[simp] theorem orderEnable_record (r : RampId) (on : Bool) :
    (orderEnable r on s).record = s.record := by rw [orderEnable_frame]
@[simp] theorem orderEnable_ports (r : RampId) (on : Bool) :
    (orderEnable r on s).ports = s.ports := by rw [orderEnable_frame]
@[simp] theorem orderEnable_bridgeLoss (r : RampId) (on : Bool) :
    (orderEnable r on s).bridgeLoss = s.bridgeLoss := by rw [orderEnable_frame]
@[simp] theorem orderEnable_stations (r : RampId) (on : Bool) :
    (orderEnable r on s).stations = s.stations := by rw [orderEnable_frame]
@[simp] theorem orderEnable_stationDyn (r : RampId) (on : Bool) :
    (orderEnable r on s).stationDyn = s.stationDyn := by rw [orderEnable_frame]
@[simp] theorem orderEnable_owners (r : RampId) (on : Bool) :
    (orderEnable r on s).owners = s.owners := by rw [orderEnable_frame]
@[simp] theorem orderEnable_mapCounts (r : RampId) (on : Bool) :
    (orderEnable r on s).mapCounts = s.mapCounts := by rw [orderEnable_frame]
@[simp] theorem orderEnable_supervisionDue (r : RampId) (on : Bool) :
    (orderEnable r on s).supervisionDue = s.supervisionDue := by rw [orderEnable_frame]
@[simp] theorem orderEnable_mirror (r : RampId) (on : Bool) :
    (orderEnable r on s).mirror = s.mirror := by rw [orderEnable_frame]
@[simp] theorem orderEnable_lines (r : RampId) (on : Bool) :
    (orderEnable r on s).lines = s.lines := by rw [orderEnable_frame]
@[simp] theorem orderEnable_lineDyn (r : RampId) (on : Bool) :
    (orderEnable r on s).lineDyn = s.lineDyn := by rw [orderEnable_frame]
@[simp] theorem orderEnable_lineCounts (r : RampId) (on : Bool) :
    (orderEnable r on s).lineCounts = s.lineCounts := by rw [orderEnable_frame]
@[simp] theorem orderEnable_timers (r : RampId) (on : Bool) :
    (orderEnable r on s).timers = s.timers := by rw [orderEnable_frame]
@[simp] theorem orderEnable_timerDyn (r : RampId) (on : Bool) :
    (orderEnable r on s).timerDyn = s.timerDyn := by rw [orderEnable_frame]
@[simp] theorem orderEnable_vectors (r : RampId) (on : Bool) :
    (orderEnable r on s).vectors = s.vectors := by rw [orderEnable_frame]
@[simp] theorem orderEnable_codes (r : RampId) (on : Bool) :
    (orderEnable r on s).codes = s.codes := by rw [orderEnable_frame]
@[simp] theorem orderEnable_alerts (r : RampId) (on : Bool) :
    (orderEnable r on s).alerts = s.alerts := by rw [orderEnable_frame]
@[simp] theorem orderEnable_ga (r : RampId) (on : Bool) : (orderEnable r on s).ga = s.ga := by rw [orderEnable_frame]
@[simp] theorem orderEnable_zones (r : RampId) (on : Bool) :
    (orderEnable r on s).zones = s.zones := by rw [orderEnable_frame]
@[simp] theorem orderEnable_zoneDyn (r : RampId) (on : Bool) :
    (orderEnable r on s).zoneDyn = s.zoneDyn := by rw [orderEnable_frame]
@[simp] theorem orderEnable_doors (r : RampId) (on : Bool) :
    (orderEnable r on s).doors = s.doors := by rw [orderEnable_frame]
@[simp] theorem orderEnable_doorDyn (r : RampId) (on : Bool) :
    (orderEnable r on s).doorDyn = s.doorDyn := by rw [orderEnable_frame]
@[simp] theorem orderEnable_messages (r : RampId) (on : Bool) :
    (orderEnable r on s).messages = s.messages := by rw [orderEnable_frame]
@[simp] theorem orderEnable_calls (r : RampId) (on : Bool) :
    (orderEnable r on s).calls = s.calls := by rw [orderEnable_frame]
@[simp] theorem orderEnable_nextStamp (r : RampId) (on : Bool) :
    (orderEnable r on s).nextStamp = s.nextStamp := by rw [orderEnable_frame]
@[simp] theorem orderEnable_zoneLines (r : RampId) (on : Bool) :
    (orderEnable r on s).zoneLines = s.zoneLines := by rw [orderEnable_frame]
@[simp] theorem orderEnable_ramps (r : RampId) (on : Bool) :
    (orderEnable r on s).ramps = s.ramps := by rw [orderEnable_frame]
@[simp] theorem orderEnable_rampDyn (r : RampId) (on : Bool) :
    (orderEnable r on s).rampDyn = s.rampDyn := by rw [orderEnable_frame]
@[simp] theorem orderEnable_counters (r : RampId) (on : Bool) :
    (orderEnable r on s).counters = s.counters := by rw [orderEnable_frame]
@[simp] theorem orderEnable_quality (r : RampId) (on : Bool) :
    (orderEnable r on s).quality = s.quality := by rw [orderEnable_frame]

@[simp] theorem orderDoorHold_pending (z : ZoneId) (on : Bool) :
    (orderDoorHold z on s).pending = s.pending := by rw [orderDoorHold_frame]
@[simp] theorem orderDoorHold_now (z : ZoneId) (on : Bool) :
    (orderDoorHold z on s).now = s.now := by rw [orderDoorHold_frame]
@[simp] theorem orderDoorHold_resetHeld (z : ZoneId) (on : Bool) :
    (orderDoorHold z on s).resetHeld = s.resetHeld := by rw [orderDoorHold_frame]
@[simp] theorem orderDoorHold_straps (z : ZoneId) (on : Bool) :
    (orderDoorHold z on s).straps = s.straps := by rw [orderDoorHold_frame]
@[simp] theorem orderDoorHold_pins (z : ZoneId) (on : Bool) :
    (orderDoorHold z on s).pins = s.pins := by rw [orderDoorHold_frame]
@[simp] theorem orderDoorHold_device (z : ZoneId) (on : Bool) :
    (orderDoorHold z on s).device = s.device := by rw [orderDoorHold_frame]
@[simp] theorem orderDoorHold_record (z : ZoneId) (on : Bool) :
    (orderDoorHold z on s).record = s.record := by rw [orderDoorHold_frame]
@[simp] theorem orderDoorHold_ports (z : ZoneId) (on : Bool) :
    (orderDoorHold z on s).ports = s.ports := by rw [orderDoorHold_frame]
@[simp] theorem orderDoorHold_bridgeLoss (z : ZoneId) (on : Bool) :
    (orderDoorHold z on s).bridgeLoss = s.bridgeLoss := by rw [orderDoorHold_frame]
@[simp] theorem orderDoorHold_stations (z : ZoneId) (on : Bool) :
    (orderDoorHold z on s).stations = s.stations := by rw [orderDoorHold_frame]
@[simp] theorem orderDoorHold_stationDyn (z : ZoneId) (on : Bool) :
    (orderDoorHold z on s).stationDyn = s.stationDyn := by rw [orderDoorHold_frame]
@[simp] theorem orderDoorHold_owners (z : ZoneId) (on : Bool) :
    (orderDoorHold z on s).owners = s.owners := by rw [orderDoorHold_frame]
@[simp] theorem orderDoorHold_mapCounts (z : ZoneId) (on : Bool) :
    (orderDoorHold z on s).mapCounts = s.mapCounts := by rw [orderDoorHold_frame]
@[simp] theorem orderDoorHold_supervisionDue (z : ZoneId) (on : Bool) :
    (orderDoorHold z on s).supervisionDue = s.supervisionDue := by rw [orderDoorHold_frame]
@[simp] theorem orderDoorHold_mirror (z : ZoneId) (on : Bool) :
    (orderDoorHold z on s).mirror = s.mirror := by rw [orderDoorHold_frame]
@[simp] theorem orderDoorHold_lines (z : ZoneId) (on : Bool) :
    (orderDoorHold z on s).lines = s.lines := by rw [orderDoorHold_frame]
@[simp] theorem orderDoorHold_lineDyn (z : ZoneId) (on : Bool) :
    (orderDoorHold z on s).lineDyn = s.lineDyn := by rw [orderDoorHold_frame]
@[simp] theorem orderDoorHold_lineCounts (z : ZoneId) (on : Bool) :
    (orderDoorHold z on s).lineCounts = s.lineCounts := by rw [orderDoorHold_frame]
@[simp] theorem orderDoorHold_timers (z : ZoneId) (on : Bool) :
    (orderDoorHold z on s).timers = s.timers := by rw [orderDoorHold_frame]
@[simp] theorem orderDoorHold_timerDyn (z : ZoneId) (on : Bool) :
    (orderDoorHold z on s).timerDyn = s.timerDyn := by rw [orderDoorHold_frame]
@[simp] theorem orderDoorHold_vectors (z : ZoneId) (on : Bool) :
    (orderDoorHold z on s).vectors = s.vectors := by rw [orderDoorHold_frame]
@[simp] theorem orderDoorHold_codes (z : ZoneId) (on : Bool) :
    (orderDoorHold z on s).codes = s.codes := by rw [orderDoorHold_frame]
@[simp] theorem orderDoorHold_alerts (z : ZoneId) (on : Bool) :
    (orderDoorHold z on s).alerts = s.alerts := by rw [orderDoorHold_frame]
@[simp] theorem orderDoorHold_ga (z : ZoneId) (on : Bool) :
    (orderDoorHold z on s).ga = s.ga := by rw [orderDoorHold_frame]
@[simp] theorem orderDoorHold_zones (z : ZoneId) (on : Bool) :
    (orderDoorHold z on s).zones = s.zones := by rw [orderDoorHold_frame]
@[simp] theorem orderDoorHold_zoneDyn (z : ZoneId) (on : Bool) :
    (orderDoorHold z on s).zoneDyn = s.zoneDyn := by rw [orderDoorHold_frame]
@[simp] theorem orderDoorHold_doors (z : ZoneId) (on : Bool) :
    (orderDoorHold z on s).doors = s.doors := by rw [orderDoorHold_frame]
@[simp] theorem orderDoorHold_doorDyn (z : ZoneId) (on : Bool) :
    (orderDoorHold z on s).doorDyn = s.doorDyn := by rw [orderDoorHold_frame]
@[simp] theorem orderDoorHold_messages (z : ZoneId) (on : Bool) :
    (orderDoorHold z on s).messages = s.messages := by rw [orderDoorHold_frame]
@[simp] theorem orderDoorHold_calls (z : ZoneId) (on : Bool) :
    (orderDoorHold z on s).calls = s.calls := by rw [orderDoorHold_frame]
@[simp] theorem orderDoorHold_nextStamp (z : ZoneId) (on : Bool) :
    (orderDoorHold z on s).nextStamp = s.nextStamp := by rw [orderDoorHold_frame]
@[simp] theorem orderDoorHold_zoneLines (z : ZoneId) (on : Bool) :
    (orderDoorHold z on s).zoneLines = s.zoneLines := by rw [orderDoorHold_frame]
@[simp] theorem orderDoorHold_ramps (z : ZoneId) (on : Bool) :
    (orderDoorHold z on s).ramps = s.ramps := by rw [orderDoorHold_frame]
@[simp] theorem orderDoorHold_rampDyn (z : ZoneId) (on : Bool) :
    (orderDoorHold z on s).rampDyn = s.rampDyn := by rw [orderDoorHold_frame]
@[simp] theorem orderDoorHold_counters (z : ZoneId) (on : Bool) :
    (orderDoorHold z on s).counters = s.counters := by rw [orderDoorHold_frame]
@[simp] theorem orderDoorHold_quality (z : ZoneId) (on : Bool) :
    (orderDoorHold z on s).quality = s.quality := by rw [orderDoorHold_frame]

@[simp] theorem claim_pending (a : Addr) (o : Owner) : (claim a o s).2.pending = s.pending := by rw [claim_frame]
@[simp] theorem claim_now (a : Addr) (o : Owner) : (claim a o s).2.now = s.now := by rw [claim_frame]
@[simp] theorem claim_resetHeld (a : Addr) (o : Owner) : (claim a o s).2.resetHeld = s.resetHeld := by rw [claim_frame]
@[simp] theorem claim_straps (a : Addr) (o : Owner) : (claim a o s).2.straps = s.straps := by rw [claim_frame]
@[simp] theorem claim_pins (a : Addr) (o : Owner) : (claim a o s).2.pins = s.pins := by rw [claim_frame]
@[simp] theorem claim_device (a : Addr) (o : Owner) : (claim a o s).2.device = s.device := by rw [claim_frame]
@[simp] theorem claim_record (a : Addr) (o : Owner) : (claim a o s).2.record = s.record := by rw [claim_frame]
@[simp] theorem claim_ports (a : Addr) (o : Owner) : (claim a o s).2.ports = s.ports := by rw [claim_frame]
@[simp] theorem claim_bridgeLoss (a : Addr) (o : Owner) : (claim a o s).2.bridgeLoss = s.bridgeLoss := by rw [claim_frame]
@[simp] theorem claim_stations (a : Addr) (o : Owner) : (claim a o s).2.stations = s.stations := by rw [claim_frame]
@[simp] theorem claim_stationDyn (a : Addr) (o : Owner) : (claim a o s).2.stationDyn = s.stationDyn := by rw [claim_frame]
@[simp] theorem claim_mapCounts (a : Addr) (o : Owner) : (claim a o s).2.mapCounts = s.mapCounts := by rw [claim_frame]
@[simp] theorem claim_supervisionDue (a : Addr) (o : Owner) : (claim a o s).2.supervisionDue = s.supervisionDue := by rw [claim_frame]
@[simp] theorem claim_mirror (a : Addr) (o : Owner) : (claim a o s).2.mirror = s.mirror := by rw [claim_frame]
@[simp] theorem claim_lines (a : Addr) (o : Owner) : (claim a o s).2.lines = s.lines := by rw [claim_frame]
@[simp] theorem claim_lineDyn (a : Addr) (o : Owner) : (claim a o s).2.lineDyn = s.lineDyn := by rw [claim_frame]
@[simp] theorem claim_outputs (a : Addr) (o : Owner) : (claim a o s).2.outputs = s.outputs := by rw [claim_frame]
@[simp] theorem claim_lineCounts (a : Addr) (o : Owner) : (claim a o s).2.lineCounts = s.lineCounts := by rw [claim_frame]
@[simp] theorem claim_timers (a : Addr) (o : Owner) : (claim a o s).2.timers = s.timers := by rw [claim_frame]
@[simp] theorem claim_timerDyn (a : Addr) (o : Owner) : (claim a o s).2.timerDyn = s.timerDyn := by rw [claim_frame]
@[simp] theorem claim_vectors (a : Addr) (o : Owner) : (claim a o s).2.vectors = s.vectors := by rw [claim_frame]
@[simp] theorem claim_codes (a : Addr) (o : Owner) : (claim a o s).2.codes = s.codes := by rw [claim_frame]
@[simp] theorem claim_alerts (a : Addr) (o : Owner) : (claim a o s).2.alerts = s.alerts := by rw [claim_frame]
@[simp] theorem claim_ga (a : Addr) (o : Owner) : (claim a o s).2.ga = s.ga := by rw [claim_frame]
@[simp] theorem claim_zones (a : Addr) (o : Owner) : (claim a o s).2.zones = s.zones := by rw [claim_frame]
@[simp] theorem claim_zoneDyn (a : Addr) (o : Owner) : (claim a o s).2.zoneDyn = s.zoneDyn := by rw [claim_frame]
@[simp] theorem claim_doors (a : Addr) (o : Owner) : (claim a o s).2.doors = s.doors := by rw [claim_frame]
@[simp] theorem claim_doorDyn (a : Addr) (o : Owner) : (claim a o s).2.doorDyn = s.doorDyn := by rw [claim_frame]
@[simp] theorem claim_messages (a : Addr) (o : Owner) : (claim a o s).2.messages = s.messages := by rw [claim_frame]
@[simp] theorem claim_calls (a : Addr) (o : Owner) : (claim a o s).2.calls = s.calls := by rw [claim_frame]
@[simp] theorem claim_nextStamp (a : Addr) (o : Owner) : (claim a o s).2.nextStamp = s.nextStamp := by rw [claim_frame]
@[simp] theorem claim_zoneLines (a : Addr) (o : Owner) : (claim a o s).2.zoneLines = s.zoneLines := by rw [claim_frame]
@[simp] theorem claim_ramps (a : Addr) (o : Owner) : (claim a o s).2.ramps = s.ramps := by rw [claim_frame]
@[simp] theorem claim_rampDyn (a : Addr) (o : Owner) : (claim a o s).2.rampDyn = s.rampDyn := by rw [claim_frame]
@[simp] theorem claim_counters (a : Addr) (o : Owner) : (claim a o s).2.counters = s.counters := by rw [claim_frame]
@[simp] theorem claim_quality (a : Addr) (o : Owner) : (claim a o s).2.quality = s.quality := by rw [claim_frame]

/-! ## The core after an operation -/

/-- A change of the port units that keeps their line states and receive queues keeps the core. -/
theorem modPort_core (p : Port) (f : PortUnit → PortUnit) (hu : (f (s.ports.at p)).up = (s.ports.at p).up)
    (hr : (f (s.ports.at p)).rx = (s.ports.at p).rx) : (s.modPort p f).core = s.core := by
  cases p <;> simp_all [State.core, State.kept, State.modPort, ByPort.put, ByPort.at]

theorem startTransmission_core (p : Port) : (startTransmission p s).core = s.core := by
  unfold startTransmission; dsimp only; split_ifs
  · split
    · rfl
    · exact modPort_core s _ _ rfl rfl
  · rfl

@[simp] theorem raiseCode_core (x : Activation) : (raiseCode x s).core = s.core := by rw [raiseCode_frame]; rfl

@[simp] theorem raiseInternal_core (c : Option Code) (a : Option Addr) (z : Option ZoneId) (d : Word16) :
    (raiseInternal c a z d s).core = s.core := by rw [raiseInternal_frame]; rfl

@[simp] theorem bump_core (set : CounterSet) (i : CounterId) (n : Nat) : (bump set i n s).core = s.core := by
  rw [bump_frame]; rfl

@[simp] theorem bumpPort_core (p : Port) (i : CounterId) : (bumpPort p i s).core = s.core := bump_core s _ _ _

@[simp] theorem bumpGlobal_core (i : CounterId) : (bumpGlobal i s).core = s.core := bump_core s _ _ _

@[simp] theorem sendTx_core (p : Port) (cls : TxClass) (f : TxFrame) : (sendTx p cls f s).core = s.core := by
  unfold sendTx offerTx; dsimp only; split_ifs
  · exact modPort_core s _ _ rfl rfl
  · exact bumpPort_core s _ _
  · dsimp only
    rw [startTransmission_core]
    exact modPort_core s _ _ rfl rfl

@[simp] theorem jobCommand_core (a : Addr) (b : List Byte) : (jobCommand a b s).core = s.core := by
  unfold jobCommand; split <;> simp

@[simp] theorem jobCommand?_core (a : Option Addr) (b : List Byte) : (jobCommand? a b s).core = s.core := by
  cases a <;> simp [jobCommand?]

@[simp] theorem claim_core (a : Addr) (o : Owner) : (claim a o s).2.core = s.core := by rw [claim_frame]; rfl

@[simp] theorem release_core (a : Addr) (o : Owner) : (release a o s).core = s.core := by rw [release_frame]; rfl

@[simp] theorem release?_core (a : Option Addr) (o : Owner) : (release? a o s).core = s.core := by
  rw [release?_frame]; rfl

@[simp] theorem orderEnable_core (r : RampId) (on : Bool) : (orderEnable r on s).core = s.core := by
  rw [orderEnable_frame]; rfl

@[simp] theorem orderDoorHold_core (z : ZoneId) (on : Bool) : (orderDoorHold z on s).core = s.core := by
  rw [orderDoorHold_frame]; rfl

/-! ## Receiving -/

/-- A bad frame changes the counters, the codes and the quality monitors only. -/
theorem badFrame_frame (p : Port) :
    badFrame p s =
      { s with
        counters := (badFrame p s).counters, codes := (badFrame p s).codes, quality := (badFrame p s).quality } := by
  unfold badFrame reportBadFrame
  cases p <;> (dsimp only; rw [bumpPort_frame]) <;> rfl

/-- An accepted frame changes the receive queues, the counters and the codes only. -/
theorem acceptFrame_frame (p : Port) (f : Frame) :
    acceptFrame p f s =
      { s with
        ports := (acceptFrame p f s).ports, counters := (acceptFrame p f s).counters
        codes := (acceptFrame p f s).codes } := by
  unfold acceptFrame offerRx; dsimp only; split_ifs
  · rw [bumpPort_frame, bumpPort_frame, bump_frame, bumpPort_frame]
  · rw [State.modPort, bumpPort_frame, bump_frame, bumpPort_frame]
  · rw [bumpPort_frame, bumpPort_frame, bump_frame, bumpPort_frame]

end Sys2Proof.Machine
end

