-- ==== Sys2Proof/WellFormed.lean ====
section
/-! DEFINITION. Which commands are well formed: what the operand types alone do not say. -/

namespace Sys2Proof

/-- A STATION record holds 0 to 4 event maps (R18). -/
def StationFields.wf (f : StationFields) : Bool := f.maps.length ≤ 4

/-- A request is well formed when the STATION record it carries, if any, has at most four event maps. -/
def Request.wf : Request → Bool
  | .stationWrite _ f => f.wf
  | _ => true

/-- The well-formed commands. A frame ends only after a start delimiter A7 hex (R1); the escalation record's ack timer
has a command of its own, so an ack timer's expiry names another code (R82, R85); a STATION record has at most four
event maps (R18). -/
def Instr.wf : Instr → Bool
  | .frameEnd _ bytes => bytes.contains 0xA7#8
  | .ackTimerExpiry c => c.val ≠ 2
  | .stationWrite _ _ f => f.wf
  | _ => true

end Sys2Proof
end

