-- ==== Sys2Proof/Tests/Slice0.lean ====
section
/-! SUPPORT. Tests: the WellFormed smoke test, single steps checked against the manual's worked examples, and for every
statement of Certificates/Slice0/Obligations.lean that has hypotheses a concrete state and operands that meet them,
clause by clause, at boundary values where a clause names a range. -/

namespace Sys2Proof.Tests
open Sys2Proof Sys2Proof.Machine

-- One kernel evaluation at a time: many at once would ask for more memory than the check allows.
set_option Elab.async false

/-! ## A small ship -/

/-- A header of the given authority. -/
def hdr (authority : Nat) : Header := ⟨200, 7, authority⟩

/-- Both deck lines and the bridge line UP; door station 1 (index 0), detector station 2, amplifier station 3 and drive
station 4 of zone 0; message 0 in use; lines 0 to 6 given; codes 10 (HOLD, EDGE), 11 (DISPATCH, EDGE), 12 (PASS, EDGE)
and 13 (HOLD, LEVEL) present; every table consistent. -/
def ship (dev : DeviceState) : State :=
  let idle : PortUnit := ⟨true, [], [], none⟩
  let st (role : Role) : StationRecord :=
    { StationRecord.powerOn with role := role, zone := some 0, mirrorAllowed := true }
  let ready : StationDyn := { StationDyn.powerOn 0 with raw := 1, filtered := 1 }
  let line (fn : LineFn) : LineEntry := { LineEntry.powerOn with fn := fn }
  let entry (gate : Gate) (sense : Sense) : VectorEntry :=
    ⟨true, gate, 5, sense, true, 2, .zoneCloseRoutine 0⟩
  let r := State.reset
  { r with
    device := dev
    ports := ⟨idle, idle, idle⟩
    stations := Tab.put (Tab.put (Tab.put (Tab.put r.stations 0 (st .door)) 1 (st .detector)) 2 (st .amplifier)) 3
      (st .rampDrive)
    stationDyn := Tab.put r.stationDyn 3 ready
    lines := Tab.put (Tab.put (Tab.put (Tab.put (Tab.put (Tab.put (Tab.put r.lines
      0 { line .generalIn with code := some 10 }) 1 (line .stopLoop)) 2 (line .alarmButton)) 3 (line (.doorHold 0)))
      4 (line (.encoderA 0))) 5 (line (.encoderB 0))) 6 (line (.rampEnable 0))
    pins := Tab.put r.pins 1 true
    lineDyn := Tab.put r.lineDyn 1 ⟨true, true, none, 0⟩
    vectors := Tab.put (Tab.put (Tab.put (Tab.put r.vectors 10 (entry .hold .edge)) 11 (entry .dispatch .edge))
      12 (entry .pass .edge)) 13 (entry .hold .level)
    zones := Tab.put r.zones 0 { ZoneRecord.powerOn with amplifier := some 2, doorHold := some 3 }
    zoneLines := Tab.put r.zoneLines 0 ⟨.free, none, .stopped, .stopped, .stopped⟩
    doors := Tab.put r.doors 0 { DoorRecord.powerOn with station := some 0 }
    doorDyn := Tab.put r.doorDyn 0 { DoorDyn.powerOn with state := .between }
    zoneDyn := Tab.put r.zoneDyn 0 { ZoneDyn.powerOn with state := .partly }
    messages := Tab.put r.messages 0 ⟨true, 60, false, 5⟩
    ramps := Tab.put r.ramps 0 { RampRecord.powerOn with drive := some 3, enableLine := some 6 }
    rampDyn := Tab.put r.rampDyn 0 { RampDyn.powerOn with state := .idle, referenced := true } }

/-- The ship in RUN. -/
def run : State := ship .run

/-- The ship with a frame at the head of a port's receive queue. -/
def received (p : Port) (f : Frame) : State := run.modPort p fun u => { u with rx := [f] }

/-- The ship with `n` frames of a class waiting and one being sent. -/
def waiting (p : Port) (cls : TxClass) (n : Nat) : State :=
  let f : TxFrame := ⟨1, 200, 0x02#8, 0, .bytes [0x10#8]⟩
  run.modPort p fun u => { u with tx := List.replicate n ⟨cls, f⟩, sending := some f }

/-- An alert record with its ack timer running. -/
def alert (c : Code) (level : Nat) (gate : Gate) : AlertRecord :=
  ⟨c, level, gate, Attributes.powerOn, .running 9, false⟩

/-- The ship with the alert stores given. -/
def alerted (x : Alerts) : State := { run with alerts := x }

/-- The ship with zone 0's dynamic items changed. -/
def zoned (f : ZoneDyn → ZoneDyn) : State := run.modZone 0 f

/-- The ship with ramp 0's dynamic items changed. -/
def ramped (f : RampDyn → RampDyn) : State := run.modRamp 0 f

/-- A call of message 0 to zone 0 from the bridge, one repeat, stamp 0. -/
def call0 (st : CallState) : CallRecord :=
  ⟨.bridge, 0, [0], 4, 1, 1, 0, st, false, false, true, .running 9⟩

/-- The ship with one call in the queue and zone line 0 as given, its amplifier claimed. -/
def calling (c : CallRecord) (l : ZoneLine) : State :=
  { run with
    calls := [c], nextStamp := 1, zoneLines := Tab.put run.zoneLines 0 l, owners := Tab.put run.owners 2 (.line 0) }

/-- The state a command leaves. -/
def after (c : Instr) (s : State) : State :=
  match exec c s with
  | .next t => t
  | _ => s

/-- A STATION record as written. -/
def stationFields (role : Role) : StationFields :=
  ⟨some role, some 0, some .a, true, some .forward, true, 10, 0, 0, none, []⟩

/-- The record `stationFields` is stored as. -/
def stationRecord (role : Role) : StationRecord :=
  ⟨role, some 0, .a, true, .forward, true, 10, 0, 0, none, []⟩

/-! ## WellFormed: an ill-formed command for each check -/

theorem test_wf_frame_without_delimiter : (Instr.frameEnd .bridge [0x00#8, 0x55#8]).wf = false := by decide
theorem test_wf_frame : (Instr.frameEnd .bridge [0x00#8, 0xA7#8]).wf = true := by decide
theorem test_wf_ack_timer_of_escalation : (Instr.ackTimerExpiry 2).wf = false := by decide
theorem test_wf_five_maps :
    (Instr.stationWrite (hdr 3) 1 { stationFields .door with maps := List.replicate 5 ⟨0, true, 10⟩ }).wf = false ∧
      (Request.stationWrite 1 { stationFields .door with maps := List.replicate 4 ⟨0, true, 10⟩ }).wf = true := by
  decide

/-! ## The manual's examples -/

/-- R3: the check over the bytes 31 hex to 39 hex is 29B1 hex. -/
theorem test_check_value :
    crc16 [0x31#8, 0x32#8, 0x33#8, 0x34#8, 0x35#8, 0x36#8, 0x37#8, 0x38#8, 0x39#8] = 0x29B1#16 := by decide +kernel

/-- No row of the opcode table gives bits. -/
theorem test_no_row_gives_bits : decodeTableWord 16 0 = none := by decide

/-- The measured speed example of spec/08_ramp_motion.md (R148). -/
theorem test_measured_speed :
    let edge (period : Nat) (up : Bool) : RampDyn := { RampDyn.powerOn with meter := 0, lastPeriod := period, lastUp := up }
    (vmeas (edge 65535 true), vmeas (edge 250 true), vmeas (edge 7 false), vmeas (edge 800 false),
      vmeas { edge 800 false with meter := 65535 }) = (0, 400, -10000, -125, 0) := by decide

/-- The receive example of spec/01: station 52 to 60 on Deck Line B is good and passing and is not queued. -/
theorem test_passing_frame :
    let t := after (.frameEnd .deckB (0xA7#8 :: (Frame.mk 60 52 0x01#8 0 [0, 0, 0]).body)) run
    (t.port .deckB).rx = [] ∧ (t.counters.at .deckB).toList = [1, 0, 10, 0, 1, 0, 0, 1, 0, 0, 0, 0, 0] := by
  decide +kernel

/-- The half-mark example of spec/09: the rise to 2147483648 of the Bridge Port's counter 10 raises code 53 with detail
4618 when the half mark is unmasked. -/
theorem test_half_mark :
    let s : State :=
      { run with
        vectors := Tab.put run.vectors 53 (run.vectors.get 12)
        record := { run.record with
          counterCode := run.record.counterCode.put .bridge (some 53)
          markMasks := run.record.markMasks.put .bridge (Vector.replicate 13 ⟨false, true⟩) }
        counters := run.counters.put .bridge (Tab.put run.counters.bridge 10 2147483647#32) }
    ((bump .bridge 10 1 s).codes.get 53).latch = true ∧
      ((bump .bridge 10 1 s).codes.get 53).attrs.detail = 4618#16 := by decide +kernel

/-- The transmit queue example of spec/01 (R14): SPEED(+95) for station 40 takes the place of the waiting SPEED(+50). -/
theorem test_speed_replaced :
    let f (dest : Byte) (payload : List Byte) : TxFrame := ⟨dest, 0, 0x02#8, 0, .bytes payload⟩
    let s := run.modPort .deckA fun u =>
      { u with
        tx := [⟨.urgent, f 17 [0x10#8]⟩, ⟨.urgent, f 40 [0x30#8, 0, 50]⟩, ⟨.normal, f 33 []⟩]
        sending := some (f 1 []) }
    ((offerTx .deckA .urgent (f 40 [0x30#8, 0, 95]) s).2.port .deckA).tx =
      [⟨.urgent, f 17 [0x10#8]⟩, ⟨.urgent, f 40 [0x30#8, 0, 95]⟩, ⟨.normal, f 33 []⟩] := by decide +kernel

/-- R179: the ship's tables pass the consistency check. -/
theorem test_ship_is_consistent : checkTables (ship .config) = none := by decide +kernel

/-- The first part of the example of spec/10: a START with message 0 not in use is refused TABLE, MESSAGE 0, test 1. -/
theorem test_start_refused :
    let s := { ship .config with messages := State.reset.messages }
    ((after (.start (hdr 3)) s).port .bridge).sending.map (·.content) =
      some (.reply ⟨.start, .refused .table (some ⟨.message, 0, 1⟩)⟩) := by decide +kernel

/-- R90: AUTONOMOUS on bridge loss. -/
theorem test_bridge_loss :
    (after .bridgeLossExpiry { run with bridgeLoss := .running 0 }).device = .autonomous := by decide +kernel

/-- R1 to R3: the wire bytes of a SPEED frame to station 30 are the delimiter, the header with its length byte, the
payload and the check, and they are accepted as that frame. -/
theorem test_wire_of_speed :
    let f : TxFrame := ⟨30, 0, 0x02#8, 0, .bytes [0x30#8, 0, 50]⟩
    f.wire.take 9 = [0xA7#8, 30, 0, 0x02#8, 0, 3, 0x30#8, 0, 50] ∧ f.wire.length = 11 ∧
      (f.wire.drop 1 |> parseBody) = some ⟨30, 0, 0x02#8, 0, [0x30#8, 0, 50]⟩ := by decide +kernel

/-- R63, R65: the raise of an INTERVAL channel carries no station and no zone, although its record names station 1. -/
theorem test_interval_raise_uses_no_source :
    let s : State :=
      { run with
        timers := Tab.put run.timers 0 ⟨.interval, .ms1, 3, some (.station 0 2), some 10⟩
        timerDyn := Tab.put run.timerDyn 0 ⟨true, 1, none, 0⟩ }
    let a := ((raiseChannel 0 s).codes.get 10).attrs
    a.station = none ∧ a.zone = none ∧ a.detail = 0 := by decide +kernel

/-- R18: a STATION write with five event maps is refused RANGE. -/
theorem test_five_maps_refused :
    stationOf { stationFields .door with maps := List.replicate 5 ⟨0, true, 10⟩ } = none := by decide

/-! ## Witnesses: states and operands that meet the hypotheses of the statements -/

theorem witness_StepRunsFrontCommand :
    ({ run with pending := [.stop (hdr 3), .bridgeFrameTaken] }).pending = .stop (hdr 3) :: [.bridgeFrameTaken] := by
  decide +kernel

theorem witness_IdleStep :
    (run.pending = [] ∧ run.resetHeld = false ∧ firstDue run = none) ∧
      (firstDue { run with now := 10000 } = some .supervisionExpiry ∧
        ({ run with now := 10000 }).bridgeLoss = .stopped) ∧
      ({ run with resetHeld := true }).pending = [] ∧
      firstDue { run with bridgeLoss := .running 0 } = some .bridgeLossExpiry := by decide +kernel

/-- A frame of the longest payload, and noise before its delimiter; a frame to send, and a port that sends it. -/
theorem witness_FrameEncoding :
    let f : Frame := ⟨0, 1, 0x01#8, 0, List.replicate 32 0⟩
    let g : TxFrame := ⟨30, 0, 0x02#8, 0, .bytes (List.replicate 32 0xA7#8)⟩
    (f.payload.length ≤ 32 ∧ parseBody f.body = some f) ∧
      (delimiter ∉ [0x00#8, 0x55#8] ∧ bodyAfterDelimiter (0x00#8 :: 0x55#8 :: delimiter :: f.body) = some f.body) ∧
      bodyAfterDelimiter [0x00#8] = none ∧ g.content.payload.length ≤ 32 ∧
      (PortUnit.mk true [] [] none).sending = none ∧ (PortUnit.mk true [] [] (some g)).sending = some g := by
  decide +kernel

theorem witness_FrameEndJudged :
    (run.resetHeld = false ∧ ((run.port .deckA).up = true) ∧ (run.port .deckA).rx.length < 16) ∧
      (bodyAfterDelimiter [0xA7#8, 0x00#8] = some [0x00#8] ∧ parseBody [0x00#8] = none) ∧
      ((State.reset.port .deckB).up = false ∧ bodyAfterDelimiter [0x00#8] = none) := by decide +kernel

/-- Every clause at its limit: 12 NORMAL and 16 URGENT frames on a deck line, 28 and 32 on the Bridge Port. -/
theorem witness_TransmitQueue :
    let f : TxFrame := ⟨4, 200, 0x02#8, 0, .bytes [0x30#8, 0, 50]⟩
    let s := run.modPort .deckA fun u => { u with tx := [⟨.urgent, f⟩] }
    ((s.port .deckA).up = true ∧ (s.port .deckA).tx = [] ++ ⟨.urgent, f⟩ :: [] ∧ f.isSpeed = true) ∧
      (State.reset.port .deckA).up = false ∧
      ((waiting .deckA .normal 12).port .deckA).tx.length = 12 ∧
      ((waiting .deckA .urgent 16).port .deckA).tx.length = 16 ∧
      ((waiting .bridge .normal 28).port .bridge).tx.length = 28 ∧
      ((waiting .bridge .urgent 31).port .bridge).tx.length = 31 ∧
      ((waiting .bridge .urgent 31).port .bridge).sending.isSome = true ∧
      ((run.port .bridge).up = true ∧ (run.port .bridge).sending = none ∧ (run.port .bridge).tx = []) := by
  decide +kernel

/-- The first URGENT entry behind a NORMAL one; NORMAL entries alone; an empty queue; a free transmitter. -/
theorem witness_TransmitQueue_end :
    let f : TxFrame := ⟨1, 200, 0x02#8, 0, .bytes [0x10#8]⟩
    let s := waiting .deckB .normal 2
    let v := run.modPort .deckA fun x => { x with tx := [⟨.normal, f⟩, ⟨.urgent, f⟩], sending := some f }
    let u := waiting .bridge .urgent 0
    (s.resetHeld = false ∧ (s.port .deckB).up = true ∧ (s.port .deckB).sending.isSome = true ∧
        (s.port .deckB).tx.length = 2 ∧ ∀ x ∈ (s.port .deckB).tx, x.cls = .normal) ∧
      ((u.port .bridge).sending.isSome = true ∧ (u.port .bridge).tx = []) ∧
      ((v.port .deckA).tx = [⟨.normal, f⟩] ++ ⟨.urgent, f⟩ :: [] ∧ (v.port .deckA).sending = some f) ∧
      (run.port .deckA).sending = none := by decide +kernel

theorem witness_LineStates :
    (State.reset.resetHeld = false ∧ (State.reset.port .bridge).up = false ∧
        (State.reset.port (deckPort .b)).up = false) ∧
      (run.resetHeld = false ∧ (run.port .bridge).up = true ∧ (run.port (deckPort .a)).up = true) ∧
      ({ run with bridgeLoss := .running 0 }).bridgeLoss = .running 0 ∧ run.bridgeLoss = .stopped := by decide +kernel

/-- Speeds at both bounds; a station with a line, and without one for each attachment. -/
theorem witness_FramesBuiltAndSent :
    let down := run.modPort .deckA fun u => { u with up := false }
    let other : State :=
      { State.reset with stations := Tab.put run.stations 0 { run.stations.get 0 with attachment := .b } }
    ((-1000 : Int) ≤ -1000 ∧ (-1000 : Int) ≤ 1000 ∧ (1000 : Int) ≤ 1000) ∧ steer 0 run = some .a ∧
      (steer 0 down = none ∧ (down.stations.get 0).attachment ≠ .b) ∧
      (steer 0 other = none ∧ (other.stations.get 0).attachment = .b) := by decide +kernel

/-- No point changes; a role station without its record; a door with no command, held and not, and commanded CLOSE. -/
theorem witness_RoleReports :
    let seen (a : Addr) (w : Word16) (s : State) : State := s.modStation a fun d => { d with filtered := w }
    let door (f : DoorDyn → DoorDyn) : State :=
      (zoned fun d => { d with state := .closing, cause := .routine }).modDoor 0 f
    let close (warned : Bool) (retry : Timer) :=
      door fun d => { d with command := .close, warned := warned, retryTimer := retry }
    (∀ p < 5, (0x20#16).getLsbD p = (0#16).getLsbD p) ∧
      ((run.stations.get 0).role = .door ∧ ∀ d : DoorId, (State.reset.doors.get d).station ≠ some 0) ∧
      ((run.stations.get 3).role = .rampDrive ∧ ∀ r : RampId, (State.reset.ramps.get r).drive ≠ some 3) ∧
      ((run.stations.get 2).role = .amplifier ∧ ∀ z : ZoneId, (State.reset.zones.get z).amplifier ≠ some 2) ∧
      ((∀ e : DoorId, (run.doors.get e).station = some 0 ↔ e = 0) ∧ (run.doorDyn.get 0).command = .none ∧
        (run.doorDyn.get 0).held = false ∧ ((door fun d => { d with held := true }).doorDyn.get 0).held = true) ∧
      ([1#16, 2#16, 4#16, 16#16].map fun w => ((seen 0 w run).stationDyn.get 0).filtered) = [1, 2, 4, 16] ∧
      (((close false .stopped).zoneDyn.get 0).state.isRest = false ∧
        ((close false .stopped).doorDyn.get 0).command = .close ∧
        ((close false .stopped).doorDyn.get 0).warned = false ∧ ((close true .stopped).doorDyn.get 0).warned = true ∧
        ((close true (.running 9)).doorDyn.get 0).retryTimer ≠ .stopped ∧
        ((door fun d => { d with command := .open }).doorDyn.get 0).command = .open) := by decide +kernel

/-- A detector and a call panel with a zone and without; a drive in each kind of motion; an amplifier's line FREE and
carrying a call, and FAULT. -/
theorem witness_RoleReports_others :
    let panel (zone : Option ZoneId) : State :=
      { run with stations := Tab.put run.stations 4 { run.stations.get 1 with role := .callPanel, zone := zone } }
    let awaits := (panel (some 0)).modZone 0 fun d => { d with state := .countdown, awaitingClear := true }
    let carries := calling (call0 .playing) ⟨.playing, some 0, .stopped, .running 9, .stopped⟩
    ((run.stations.get 1).role = .detector ∧ (run.stations.get 1).zone = some 0) ∧
      (((panel none).stations.get 4).role = .callPanel ∧ ((panel none).stations.get 4).zone = none) ∧
      ((awaits.stations.get 4).zone = some 0 ∧ (awaits.zoneDyn.get 0).clear = false ∧
        (awaits.zoneDyn.get 0).awaitingClear = true ∧ (run.zoneDyn.get 0).clear = false ∧
        (run.zoneDyn.get 0).state ≠ .countdown ∧
        ((zoned fun d => { d with clear := true }).zoneDyn.get 0).clear = true) ∧
      ((∀ q : RampId, (run.ramps.get q).drive = some 3 ↔ q = 0) ∧ (run.rampDyn.get 0).state = .idle ∧
        ((ramped fun d => { d with state := .homing }).rampDyn.get 0).state = .homing ∧
        ((ramped fun d => { d with state := .moving }).rampDyn.get 0).state = .moving) ∧
      ((∀ y : ZoneId, (run.zones.get y).amplifier = some 2 ↔ y = 0) ∧ (run.zoneLines.get 0).state = .free ∧
        (run.zoneLines.get 0).carried = none ∧ run.calls = [] ∧ (State.reset.zoneLines.get 0).state = .fault ∧
        (carries.zoneLines.get 0).carried = some 0) := by decide +kernel

/-- Source 0, an UNUSED record (254, with a STATE of 3 bytes), a receive-disabled station and a station in use, HEARD
and SILENT. -/
theorem witness_DeckFrameSourceJudged :
    let f (source kind : Byte) : Frame := ⟨0, source, kind, 0, [0, 0, 0]⟩
    let s := received .deckA (f 0 0x01#8)
    (s.resetHeld = false ∧ (s.port (deckPort .a)).rx = f 0 0x01#8 :: []) ∧
      ((f 254 0x01#8).source = addrByte 253 ∧ (run.stations.get 253).role = .unused) ∧
      (let deaf := { run with stations := Tab.put run.stations 0 { run.stations.get 0 with rxEnable := false } };
        (deaf.stations.get 0).role ≠ .unused ∧ (deaf.stations.get 0).rxEnable = false) ∧
      ((f 1 0x05#8).source = addrByte 0 ∧ (run.stations.get 0).role ≠ .unused ∧
        (run.stations.get 0).rxEnable = true ∧ (run.stationDyn.get 0).status = .heard ∧
        ((run.modStation 0 fun d => { d with status := .silent }).stationDyn.get 0).status = .silent) ∧
      (run.port (deckPort .b)).rx = [] := by decide +kernel

/-- A STATE of 3 bytes that changes no point, from a HEARD and a SILENT station, and one of 5 bytes. -/
theorem witness_DeckStateTaken :
    let f (payload : List Byte) : Frame := ⟨0, addrByte 3, 0x01#8, 0, payload⟩
    let s := received .deckA (f [0, 1, 0])
    (s.resetHeld = false ∧ (s.port (deckPort .a)).rx = [f [0, 1, 0]] ∧ (s.stations.get 3).role ≠ .unused ∧
        (s.stations.get 3).rxEnable = true ∧ (s.stations.get 3).checkTime = 0) ∧
      ((s.stationDyn.get 3).status = .heard ∧ (0x00#8 ++ 0x01#8 : Word16) = (s.stationDyn.get 3).filtered) ∧
      ((s.modStation 3 fun d => { d with status := .silent }).stationDyn.get 3).status ≠ .heard ∧
      (f [0, 1, 2, 3, 4]).payload = 0 :: 1 :: 2 :: [3, 4] := by decide +kernel

theorem witness_DeckReplyTaken :
    let f : Frame := ⟨0xFF#8, addrByte 0, 0x04#8, 9, [0, 1, 0, 0, 0, 2, 3]⟩
    let s := received .deckB f
    s.resetHeld = false ∧ (s.port (deckPort .b)).rx = f :: [] ∧ f.payload = 0 :: 1 :: 0 :: 0 :: 0 :: [2, 3] ∧
      (s.stations.get 0).role ≠ .unused ∧ (s.stations.get 0).rxEnable = true ∧
      (s.stationDyn.get 0).status = .heard := by decide +kernel

/-- A map of the point that rises with no other active map of its code and with one; one that falls; two maps. -/
theorem witness_EventMapsRaise :
    let m : EventMap := ⟨2, true, 10⟩
    let counts (n : Nat) : State := { run with mapCounts := Tab.put run.mapCounts 10 n }
    let mapped : State :=
      { run with stations := Tab.put run.stations 0 { run.stations.get 0 with maps := [m, ⟨3, false, 11⟩] } }
    (¬(0#16).getLsbD m.point.val = m.activeHigh ∧ (4#16).getLsbD m.point.val = m.activeHigh) ∧
      ((counts 0).mapCounts.get m.code = 0 ∧ 0 < (counts 1).mapCounts.get m.code ∧
        (counts 1).mapCounts.get m.code = 1 ∧ 2 ≤ (counts 2).mapCounts.get m.code) ∧
      ((mapped.stationDyn.get 0).filtered ≠ 4#16 ∧ (mapped.stations.get 0).role ≠ .unused ∧
        (run.stations.get 0).maps = [] ∧ (run.stations.get 253).role = .unused) := by decide +kernel

/-- A MGMT frame, an ACK of code 63, an ACK of 64, and frames that are filtered at either destination. -/
theorem witness_BridgeFrameSorted :
    let f (dest kind : Byte) (payload : List Byte) : Frame := ⟨dest, 200, kind, 0, payload⟩
    let s := received .bridge (f 0 0x07#8 [])
    (s.resetHeld = false ∧ (s.port .bridge).rx = f 0 0x07#8 [] :: []) ∧
      (f 0 0x06#8 [63]).payload = [BitVec.ofNat 8 (63 : Code).val] ∧ 64 ≤ (64 : Byte).toNat ∧
      ((f 0 0x06#8 []).kind ≠ 0x07#8 ∧ (f 0 0x06#8 []).payload.length ≠ 1) ∧
      ((f 4 0x02#8 []).destination ≠ 0x00#8 ∧ (f 4 0x02#8 []).payload.length = 0) ∧
      (run.port .bridge).rx = [] := by decide +kernel

/-- Unknown (station 254), owned, unreachable, no room at 12 frames for a command and for a SPEED with nothing to
replace, a waiting SPEED for the same station, and passing with 5 bytes. -/
theorem witness_BridgeCommandFourTests :
    let f (dest : Byte) (payload : List Byte) : Frame := ⟨dest, 200, 0x02#8, 0, payload⟩
    let s := received .bridge (f 1 [0x10#8])
    let speed : TxEntry := ⟨.normal, ⟨1, 200, 0x02#8, 0, .bytes [0x30#8, 0, 50]⟩⟩
    (s.resetHeld = false ∧ (s.port .bridge).rx = [f 1 [0x10#8]] ∧ (f 1 [0x10#8]).destination = addrByte 0 ∧
        (s.stations.get 0).role ≠ .unused ∧ (s.stations.get 0).rxEnable = true ∧ s.owners.get 0 = .free ∧
        steer 0 s = some .a ∧ (s.port (deckPort .a)).tx.length < 12) ∧
      ((f 254 [1]).destination = addrByte 253 ∧ (s.stations.get 253).role = .unused) ∧
      (s.setOwner 0 (.zone 0)).owners.get 0 ≠ .free ∧
      steer 0 (s.modPort .deckA fun u => { u with up := false }) = none ∧
      (12 ≤ ((waiting .deckA .normal 12).port (deckPort .a)).tx.length ∧ (f 1 [0x10#8]).payload.head? ≠ some 0x30#8 ∧
        ∀ e ∈ ((waiting .deckA .normal 12).port (deckPort .a)).tx, e.frame.isSpeed = false) ∧
      ((f 1 [0x30#8, 0, 95]).payload.head? = some 0x30#8 ∧ speed.cls = .normal ∧ speed.frame.isSpeed = true ∧
        speed.frame.destination = (f 1 []).destination ∧
        ((s.modPort .deckA fun u => { u with tx := [speed] }).port (deckPort .a)).tx = [] ++ speed :: []) ∧
      (f 1 [1, 2, 3, 4, 5]).payload.length = 5 := by decide +kernel

/-- Unknown, a hit at age = freshness limit, a miss, one without a line, one without room; broadcasts barred
and copied to 0, 1, 2 lines. -/
theorem witness_BridgeQueryAndBroadcast :
    let f (dest kind : Byte) (payload : List Byte) : Frame := ⟨dest, 200, kind, 0, payload⟩
    let s := received .bridge (f 1 0x03#8 [])
    let hit := s.modMirror 1 fun l => { l with valid := true, age := 10 }
    let down (p : Port) (t : State) := t.modPort p fun u => { u with up := false }
    (s.resetHeld = false ∧ (s.port .bridge).rx = [f 1 0x03#8 []] ∧ (f 1 0x03#8 []).destination = addrByte 0) ∧
      (s.stations.get 253).role = .unused ∧
      ((hit.mirror.get (mirrorIndex 0)).valid = true ∧ (hit.mirror.get (mirrorIndex 0)).tag = mirrorTag 0 ∧
        (hit.mirror.get (mirrorIndex 0)).age ≤ (hit.stations.get 0).freshness ∧
        (hit.stationDyn.get 0).status = .heard) ∧
      ((s.mirror.get (mirrorIndex 0)).valid = false ∧ steer 0 s = some .a ∧ steer 0 (down .deckA s) = none ∧
        12 ≤ ((waiting .deckA .normal 12).port (deckPort .a)).tx.length) ∧
      ((f 0xFF#8 0x02#8 [1]).payload.length = 1 ∧ (f 0xFF#8 0x03#8 []).payload = []) ∧
      (∃ a : Addr, (s.setOwner 2 (.line 0)).owners.get a ≠ .free) ∧ (¬∃ a : Addr, s.owners.get a ≠ .free) ∧
      ((down .deckA s).port .deckA).up = false ∧ ((down .deckA s).port .deckB).up = true ∧
      ((down .deckB (down .deckA s)).port .deckB).up = false := by decide +kernel

/-- The seven rows of the steering table for a dual-homed station, and claims by the owner and by another. -/
theorem witness_SteeringAndOwnership :
    let both (upA upB badA badB : Bool) : State :=
      let grade (bad : Bool) : Monitor := { Monitor.powerOn with grade := if bad then .degraded else .good }
      { run with
        stations := Tab.put run.stations 0 { run.stations.get 0 with attachment := .both }
        ports := ⟨{ run.ports.deckA with up := upA }, { run.ports.deckB with up := upB }, run.ports.bridge⟩
        quality := ⟨grade badA, grade badB⟩ }
    ((both true true false false).stations.get 0).attachment = .both ∧
      (run.stations.get 0).attachment = .a ∧
      ({ run.stations.get 0 with attachment := .b }).attachment = .b ∧
      [steer 0 (both true true false true), steer 0 (both true true true false), steer 0 (both false true false false),
        steer 0 (both true true true true), steer 0 (both true false true false), steer 0 (both false true false true),
        steer 0 (both false false false false)] = [some .a, some .b, some .b, some .a, some .a, some .b, none] ∧
      (run.owners.get 0 = .free ∧ (run.setOwner 0 (.zone 0)).owners.get 0 = .zone 0 ∧
        (run.setOwner 0 (.zone 0)).owners.get 0 ≠ .zone 1) := by decide +kernel

/-- A supervised station at its silence limit, and one at the sample of its filter. -/
theorem witness_SupervisionExpiry :
    let s : State :=
      { run with
        stations := Tab.put run.stations 0 { run.stations.get 0 with silenceLimit := 1, checkTime := 200 }
        stationDyn := Tab.put run.stationDyn 0 { StationDyn.powerOn 200 with raw := 1, countdown := 1 } }
    s.resetHeld = false ∧ (s.stations.get 0).silenceLimit ≤ (s.stationDyn.get 0).silence + 1 ∧
      (s.stationDyn.get 0).countdown ≤ 1 ∧ (s.stationDyn.get 3).countdown = 0 := by decide +kernel

/-- A station below its limit and at it, with a valid copy; the roles that are told; a FAULT line of a healthy
amplifier. -/
theorem witness_SilenceAndRecovery :
    let s (limit : Nat) : State :=
      { run with
        stations := Tab.put run.stations 0 { run.stations.get 0 with silenceLimit := limit, silenceCode := some 10 }
        mirror := Tab.put run.mirror 1 { run.mirror.get 1 with valid := true, tag := mirrorTag 0 } }
    let faulty : State := { run with zoneLines := State.reset.zoneLines }
    (run.resetHeld = false ∧ (run.stations.get 0).silenceLimit = 0 ∧ ((s 2).stationDyn.get 0).status = .heard ∧
        ((s 2).stationDyn.get 0).silence + 1 < ((s 2).stations.get 0).silenceLimit ∧
        ((s 1).stations.get 0).silenceLimit ≤ ((s 1).stationDyn.get 0).silence + 1 ∧
        ((s 1).mirror.get (mirrorIndex 0)).valid = true) ∧
      ((∀ e : DoorId, (run.doors.get e).station = some 0 ↔ e = 0) ∧
        (∀ q : RampId, (run.ramps.get q).drive = some 3 ↔ q = 0) ∧
        (∀ y : ZoneId, (run.zones.get y).amplifier = some 2 ↔ y = 0) ∧ (run.stations.get 1).role = .detector) ∧
      ((faulty.zoneLines.get 0).state = .fault ∧ (faulty.zones.get 0).amplifier = some 2 ∧
        (faulty.stationDyn.get 2).status = .heard ∧ pointOn faulty 2 1 = false ∧ pointOn faulty 2 0 = false) ∧
      ((run.zoneLines.get 0).state = .free ∧ (run.zoneLines.get 0).carried = none ∧ run.calls = []) ∧
      ((run.modCode 11 fun k => { k with answer := some .busy }).codes.get 11).answer = some .busy := by decide +kernel

/-- A station unfiltered, one whose countdown goes on, and one whose countdown ends with a candidate seen before. -/
theorem witness_SilenceAndRecovery_samples :
    let s (left : Nat) : State :=
      { run with
        stations := Tab.put run.stations 0 { run.stations.get 0 with checkTime := 200 }
        stationDyn := Tab.put run.stationDyn 0
          { StationDyn.powerOn 200 with raw := 1, candidates := 1, countdown := left } }
    let d := (s 1).stationDyn.get 0
    (run.stations.get 0).checkTime = 0 ∧ ((s 2).stations.get 0).checkTime ≠ 0 ∧
      2 ≤ ((s 2).stationDyn.get 0).countdown ∧ d.countdown ≤ 1 ∧
      d.filtered ^^^ ((d.raw ^^^ d.filtered) &&& d.candidates) = 1 := by decide +kernel

/-- In CONFIG with the role kept and with a new role; in service with the record owned, with a new role, with the
role. -/
theorem witness_StationWriteJudged :
    (stationOf { stationFields .door with zone := some 8 } = none ∧ (stationFields .door).role ≠ none) ∧
      (run.resetHeld = false ∧ (ship .config).device = .config ∧ 3 ≤ (hdr 3).authority) ∧
      stationOf (stationFields .door) = some (stationRecord .door) ∧
      stationOf (stationFields .general) = some (stationRecord .general) ∧
      (stationRecord .door).role = ((ship .config).stations.get 0).role ∧
      (stationRecord .general).role ≠ ((ship .config).stations.get 0).role ∧
      (run.device ≠ .config ∧ (run.setOwner 0 (.zone 0)).owners.get 0 ≠ .free ∧ run.owners.get 0 = .free) ∧
      ∀ c : Code, mapCountOf ((ship .config).stations.get 0) ((ship .config).stationDyn.get 0).filtered c ≤
        (ship .config).mapCounts.get c := by decide +kernel

/-- Door station 1 with a raw point that its filter has not let through: both writes tell the change. -/
theorem witness_StationWriteJudged_reports :
    let s (dev : DeviceState) : State := (ship dev).modStation 0 fun d => { d with raw := 1 }
    ((s .config).stationDyn.get 0).filtered.getLsbD 0 ≠ ((s .config).stationDyn.get 0).raw.getLsbD 0 ∧
      ((s .config).stations.get 0).role = (stationRecord .door).role ∧ (s .run).device ≠ .config ∧
      (s .run).owners.get 0 = .free ∧ ((s .run).stations.get 0).role = (stationRecord .door).role := by decide +kernel

/-- Allowed at station 1, and not allowed at the unused station 254; a purge of a valid line and of one that is not. -/
theorem witness_MirrorFillAndPurge :
    ((run.stations.get 0).mirrorAllowed = true ∧ (run.stations.get 0).attachment = .a ∧
        (run.port (deckPort .a)).up = true ∧ (run.quality.at .a).grade = .good) ∧
      (run.stations.get 253).mirrorAllowed = false ∧
      (run.resetHeld = false ∧ 2 ≤ (hdr 2).authority ∧ 255 ≤ 255 ∧ 64 ≤ 64) ∧
      ((run.modMirror 1 fun l => { l with valid := true }).mirror.get (mirrorIndex 0)).valid = true ∧
      (run.mirror.get (mirrorIndex 0)).valid = false := by decide +kernel

theorem witness_MirrorReadShowsLine : run.resetHeld = false ∧ 64 ≤ 64 ∧ (2 : CounterId).val ≤ 2 := by decide +kernel

/-- An unchanged pin, an output line, an input line; a filtered line at each row of its sample table. -/
theorem witness_InputLineFilter :
    let s (d : LineDyn) : State :=
      { run with
        lines := Tab.put run.lines 0 { run.lines.get 0 with checkTime := 64 }, lineDyn := Tab.put run.lineDyn 0 d }
    run.pins.get 0 = false ∧ (run.pins.get 3 ≠ true ∧ (run.lines.get 3).fn.isOutput = true) ∧
      (run.pins.get 0 ≠ true ∧ (run.lines.get 0).fn = .generalIn) ∧
      (run.resetHeld = false ∧ (run.lines.get 0).checkTime = 0) ∧
      (0 < ((s ⟨true, false, none, 1⟩).lines.get 0).checkTime ∧
        ((s ⟨false, false, none, 1⟩).lineDyn.get 0).reading = ((s ⟨false, false, none, 1⟩).lineDyn.get 0).filtered ∧
        ((s ⟨true, false, none, 1⟩).lineDyn.get 0).candidate ≠ some ((s ⟨true, false, none, 1⟩).lineDyn.get 0).reading ∧
        ((s ⟨true, false, some true, 1⟩).lineDyn.get 0).candidate =
          some ((s ⟨true, false, some true, 1⟩).lineDyn.get 0).reading) := by decide +kernel

/-- Both directions of line 0 (GENERAL_IN, code 10) and of line 2 (ALARM_BUTTON), in RUN and in CONFIG. -/
theorem witness_InputLineRaises :
    ((run.lines.get 0).fn = .generalIn ∧ (run.lines.get 0).code = some 10 ∧ (run.lines.get 0).checkTime = 0 ∧
        (run.lines.get 0).enable = true ∧ run.pins.get 0 ≠ true ∧
        (run.lineDyn.get 0).filtered = !(true == (run.lines.get 0).activeHigh) ∧
        (∀ ch : ChannelId, (run.timerDyn.get ch).running = false) ∧ 3 ≤ (10 : Code).val ∧
        (run.vectors.get 10).present = true ∧ (run.vectors.get 10).level ≠ 0 ∧ (run.vectors.get 10).sense = .edge ∧
        run.device ≠ .config) ∧
      ((run.lines.get 2).fn = .alarmButton ∧ (run.lines.get 2).checkTime = 0 ∧ (run.lines.get 2).enable = true ∧
        run.pins.get 2 ≠ true ∧ (run.lineDyn.get 2).filtered = !(true == (run.lines.get 2).activeHigh) ∧
        run.ga.active = false) ∧
      (let held : State :=
          { run with pins := Tab.put run.pins 2 true, lineDyn := Tab.put run.lineDyn 2 ⟨true, true, none, 0⟩ };
        held.pins.get 2 ≠ false ∧ (held.lineDyn.get 2).filtered = !(false == (held.lines.get 2).activeHigh)) ∧
      (ship .config).device = .config := by decide +kernel

/-- The count of line 0's code at 0, 1 and 2; a line of another function; a change let through by the filter. -/
theorem witness_InputLineRaises_told :
    let counts (k : Nat) : State := { run with lineCounts := Tab.put run.lineCounts 10 k }
    let s : State :=
      { run with
        lines := Tab.put run.lines 0 { run.lines.get 0 with checkTime := 64 }
        lineDyn := Tab.put run.lineDyn 0 ⟨true, false, some true, 1⟩ }
    ((counts 0).lineCounts.get 10 = 0 ∧ 0 < (counts 1).lineCounts.get 10 ∧ (counts 1).lineCounts.get 10 = 1 ∧
        2 ≤ (counts 2).lineCounts.get 10) ∧ (run.lines.get 15).fn = .unassigned ∧
      ((run.lines.get 0).fn.isInput = true ∧ (run.lines.get 0).checkTime = 0 ∧ run.pins.get 0 ≠ true ∧
        (run.lineDyn.get 0).filtered ≠ ((run.lines.get 0).enable && (true == (run.lines.get 0).activeHigh))) ∧
      (s.resetHeld = false ∧ 0 < (s.lines.get 0).checkTime ∧ (s.lineDyn.get 0).reading ≠ (s.lineDyn.get 0).filtered ∧
        (s.lineDyn.get 0).candidate = some (s.lineDyn.get 0).reading) := by decide +kernel

/-- The one STOP_LOOP line active, and inactive with the loop open; a second one, inactive, beside it. -/
theorem witness_InputLineRaises_loop :
    let open_ : State := { run with lineDyn := State.reset.lineDyn }
    let two : State := { run with lines := Tab.put run.lines 7 { run.lines.get 7 with fn := .stopLoop } }
    ((run.lines.get 1).fn = .stopLoop ∧ stopLoopOpen run = false) ∧
      ((open_.lines.get 1).fn = .stopLoop ∧ stopLoopOpen open_ = true) ∧
      ((two.lines.get 1).fn = .stopLoop ∧ stopLoopOpen two = true ∧ (7 : LineId) ≠ 1 ∧
        (two.lineDyn.get 7).filtered = false) := by decide +kernel

theorem witness_StopLoopAndOutputs :
    (run.lines.get 1).fn = .stopLoop ∧ (run.lines.get 1).checkTime = 0 ∧ (run.lines.get 1).enable = true ∧
      false ≠ (run.lines.get 1).activeHigh ∧ run.pins.get 1 ≠ false ∧ stopLoopOpen run = false := by decide +kernel

/-- Ramp 0's enable on its line and on a line of another function; zone 0's door hold likewise; the loop open. -/
theorem witness_StopLoopAndOutputs_orders :
    let odd : State :=
      { run with
        ramps := Tab.put run.ramps 0 { run.ramps.get 0 with enableLine := some 7 }
        zones := Tab.put run.zones 0 { run.zones.get 0 with doorHold := some 7 } }
    ((run.ramps.get 0).enableLine = some 6 ∧ (run.lines.get 6).fn = .rampEnable 0 ∧ run.device ≠ .config ∧
        stopLoopOpen run = false) ∧
      ((odd.ramps.get 0).enableLine = some 7 ∧ (odd.lines.get 7).fn ≠ .rampEnable 0 ∧
        (odd.zones.get 0).doorHold = some 7 ∧ (odd.lines.get 7).fn ≠ .doorHold 0) ∧
      stopLoopOpen { run with lineDyn := State.reset.lineDyn } = true ∧
      ((run.zones.get 0).doorHold = some 3 ∧ (run.lines.get 3).fn = .doorHold 0) ∧
      ((run.setOutput 3 true).outputs.get 3 = true ∧ (run.lines.get 3).fn.isOutput = true ∧
        run.outputs.get 3 = false ∧ (run.lines.get 0).fn.isOutput = false) := by decide +kernel

/-- A write that takes an encoder line away, in CONFIG and outside it. -/
theorem witness_LineWriteResetsLine :
    run.resetHeld = false ∧ 3 ≤ (hdr 3).authority ∧
      lineOf ⟨.generalIn, true, true, 65, some 10⟩ = some ⟨.generalIn, true, true, 64, some 10⟩ ∧
      (lineOf ⟨.rampEnable 4, true, true, 0, none⟩ = none ∧ lineOf ⟨.doorHold 8, true, true, 0, none⟩ = none ∧
        16 ≤ 16) ∧
      (run.device ≠ .config ∧ (ship .config).device = .config) ∧
      ((run.lines.get 4).fn ≠ .generalIn ∧ (run.lines.get 4).fn.encoderOf = some 0) := by decide +kernel

/-- A ramp HELD, one in FAULT and one in no motion that the write does not concern. -/
theorem witness_LineWriteResetsLine_ramps :
    let s (st : RampState) : State := (ship .config).modRamp 0 fun d => { d with state := st }
    (((s .held).rampDyn.get 0).state.isActive = false ∧ ((s .fault).rampDyn.get 0).state.isActive = false) ∧
      ((s .held).lines.get 4).fn ≠ .generalIn ∧ ((s .held).lines.get 4).fn.encoderOf = some 0 ∧
      (((s .held).rampDyn.get 1).state.isActive = false ∧ LineFn.generalIn.encoderOf ≠ some 1 ∧
        ((s .held).lines.get 4).fn.encoderOf ≠ some 1) := by decide +kernel

theorem witness_TimerRequests :
    (run.resetHeld = false ∧ 3 ≤ (hdr 3).authority ∧
        timerOf ⟨some .count, some .ms1, 0, .line 0, none⟩ = some ⟨.count, .ms1, 1, some (.line 0), none⟩ ∧ 8 ≤ 8) ∧
      (timerOf ⟨some .width, some .ms1, 1, .absent, none⟩ = none ∧
        timerOf ⟨some .count, some .ms1, 1, .station 255 0, none⟩ = none) ∧
      (2 ≤ (hdr 2).authority ∧ (ship .config).device = .config ∧ run.device ≠ .config) := by decide +kernel

/-- A channel of each mode at count 1, 2 and stopped, and at each phase. -/
theorem witness_TimerModes :
    let s (mode : TimerMode) (phase : Option WidthPhase) (count : Nat) : State :=
      { run with
        timers := Tab.put run.timers 0 ⟨mode, .ms1, 3, some (.line 0), some 10⟩
        timerDyn := Tab.put run.timerDyn 0 ⟨true, count, phase, 0⟩ }
    run.resetHeld = false ∧ (run.timerDyn.get 0).running = false ∧
      (∀ count : Fin 3, ((s .interval none count.val).timerDyn.get 0).running = true ∧
        ((s .interval none count.val).timerDyn.get 0).count = count.val) ∧
      ((s .oneShot none 1).timers.get 0).mode = .oneShot ∧ ((s .count none 1).timers.get 0).mode = .count ∧
      (((s .width (some .timing) 1).timers.get 0).mode = .width ∧
        ((s .width (some .timing) 1).timerDyn.get 0).phase = some .timing ∧
        ((s .width (some .waiting) 1).timerDyn.get 0).phase = some .waiting ∧
        ((s .width (some .tripped) 0).timerDyn.get 0).phase ≠ some .timing) := by decide +kernel

/-- A source that no channel uses, one that channel 0 alone uses, and a change of one point. -/
theorem witness_TimerModes_sources :
    let s : State := { run with timers := Tab.put run.timers 0 ⟨.count, .ms1, 3, some (.station 0 2), some 10⟩ }
    (∀ ch : ChannelId, (run.timers.get ch).source ≠ some (.station 0 2)) ∧
      (∀ ch : ChannelId, (s.timers.get ch).source = some (.station 0 2) ↔ ch = 0) ∧ (s.timers.get 0).mode = .count ∧
      ∀ q : Fin 16, (0#16).getLsbD q.val ≠ (4#16).getLsbD q.val ↔ q = 2 := by decide +kernel

/-- Codes 2, 3, 10 and 13: forbidden, absent, EDGE, LEVEL; the condition that begins and one that holds already. -/
theorem witness_RaisingAndPending :
    (ship .config).device = .config ∧
      (run.device ≠ .config ∧ (2 : Code).val ≤ 2 ∧ (run.vectors.get 3).present = false ∧ 3 ≤ (3 : Code).val) ∧
      ({ run.vectors.get 10 with level := 0 }).level = 0 ∧
      ((run.vectors.get 10).present = true ∧ (run.vectors.get 10).level ≠ 0 ∧ (run.vectors.get 10).sense = .edge ∧
        (run.vectors.get 13).present = true ∧ (run.vectors.get 13).level ≠ 0 ∧ (run.vectors.get 13).sense = .level) ∧
      ((run.codes.get 13).mapCond = false ∧ (run.codes.get 13).lineCond = false ∧
        (run.codes.get 13).condOf .map = false) ∧
      isPending (run.modCode 13 fun k => { k with mapCond := true }) 13 = true := by decide +kernel

/-- Nothing to accept; the general alarm owed; code 2 pending; code 10 as the best candidate, accepted as HOLD at AL 4
and not at AL 5; code 12 as PASS. -/
theorem witness_AcceptanceOrder :
    let latch (c : Code) (s : State) : State := s.modCode c fun k => { k with latch := true }
    let s := latch 10 run
    ((ship .config).device ≠ .run ∧ (run.device = .run ∧ (run.port .bridge).up = true ∧
        (run.port .bridge).tx.length < 32)) ∧
      ({ run with ga := ⟨true, some (.request, 0)⟩ }).ga.remembered = some (.request, 0) ∧
      (run.alerts.escalation = none ∧ isPending (latch 2 run) 2 = true) ∧
      (¬∃ c : Code, isPending run c = true) ∧
      (isPending s 10 = true ∧ (s.vectors.get 10).gate ≠ .dispatch ∧
        (∀ d : Code, isPending s d = true → d = 10) ∧ s.alerts.al < (s.vectors.get 10).level ∧
        (s.vectors.get 10).gate = .hold ∧ s.alerts.stack.length < 4) ∧
      (s.vectors.get 10).level ≤ ({ s.alerts with al := 5 }).al ∧
      ((latch 12 run).vectors.get 12).gate = .pass := by decide +kernel

/-- Code 10 accepted, and nothing accepted or offered after it. -/
theorem witness_AcceptanceOrder_judged :
    let s := run.modCode 10 fun k => { k with latch := true }
    (nextAcceptance s).map (fun t => (nextAcceptance t).isNone && (nextOffer t).isNone) = some true := by
  decide +kernel

theorem witness_JudgementFrame :
    nextAcceptance run = none ∧ nextOffer run = none ∧ (ship .autonomous).device ≠ .run := by decide +kernel

/-- Code 11 with notify, told with 31 frames waiting and not told with 32; code 11 offered next, and nothing offered. -/
theorem witness_OfferAnswers :
    let s := run.modCode 11 fun k => { k with latch := true }
    let q := offerTo 11 (s.vectors.get 11).target s
    let t := actOnAnswer 11 q.1 q.2
    ((run.vectors.get 11).notify = true ∧ ((waiting .bridge .urgent 31).port .bridge).up = true ∧
        ((waiting .bridge .urgent 31).port .bridge).tx.length < 32) ∧
      ¬((waiting .bridge .urgent 32).port .bridge).tx.length < 32 ∧ nextOffer run = none ∧
      (nextAcceptance s = none ∧ nextOffer s = some 11 ∧ nextAcceptance t = none ∧ nextOffer t = none) := by
  decide +kernel

/-- A zone that takes a close and one that refuses it; an open refused, busy and taken; a call queued, merged, with no
place, evicting, and of a message not in use. -/
theorem witness_OfferAnswers_targets :
    let closing (c : Cause) := zoned fun d => { d with state := .closing, cause := c }
    let ask (p : Nat) (s : State) : CallAnswer := (requestCall ⟨.event 11, 0, [0], p, 1⟩ s).1
    let c (k : Nat) : CallRecord := { call0 .waiting with origin := .event ⟨20 + k % 16, by omega⟩, stamp := k }
    let full : State := { run with calls := (List.range 16).map c, nextStamp := 16 }
    ((run.zoneDyn.get 0).state = .partly ∧ run.resetHeld = false ∧ run.device ≠ .config ∧ 2 ≤ (hdr 2).authority) ∧
      (((closing .routine).zoneDyn.get 0).state = .closing ∧ ((closing .fire).zoneDyn.get 0).cause ≠ .routine ∧
        ((closing .routine).zoneDyn.get 0).cause = .routine ∧ (run.zoneDyn.get 0).fire = false) ∧
      ((zoned fun d => { d with fire := true }).zoneDyn.get 0).fire = true ∧
      (ask 4 run = .queued 0 ∧ ask 4 { run with messages := State.reset.messages } = .notInUse ∧ ask 4 full = .full ∧
        ask 5 full = .evicted 16 (c 15) ∧
        ask 4 { run with calls := [{ call0 .waiting with origin := .event 11 }], nextStamp := 1 } = .merged 0) := by
  decide +kernel

/-- Each record's place: the slots, the stack, the list; the timer running and not. -/
theorem witness_AcksAndOverdueRecords :
    let s := alerted ⟨[alert 10 5 .hold], [alert 12 5 .pass], 5, some (alert 0 16 .hold), some (alert 2 15 .hold)⟩
    (s.alerts.gaSlot ≠ none ∧ run.alerts.gaSlot = none ∧ s.alerts.escalation ≠ none ∧ run.alerts.escalation = none) ∧
      (s.alerts.stack = [] ++ alert 10 5 .hold :: [] ∧ (∀ q ∈ s.alerts.stack, q.code ≠ 12) ∧
        s.alerts.pass = [] ++ alert 12 5 .pass :: [] ∧ ∀ q ∈ s.alerts.stack ++ s.alerts.pass, q.code ≠ 13) ∧
      (s.resetHeld = false ∧ (alert 10 5 .hold).ackTimer = .running 9 ∧ (∀ q ∈ s.alerts.pass, q.code ≠ 10) ∧
        (alert 12 5 .pass).ackTimer = .running 9 ∧ (alert 0 16 .hold).code ≠ 12 ∧
        s.alerts.gaSlot = some (alert 0 16 .hold) ∧ (alert 0 16 .hold).code ≠ 10 ∧
        ∀ q ∈ s.alerts.stack ++ s.alerts.pass, q.code ≠ 0) ∧
      ∀ q ∈ run.alerts.stack ++ run.alerts.pass ++ run.alerts.gaSlot.toList, q.code ≠ 10 := by decide +kernel

theorem witness_EscalationEntersAutonomous :
    let s := alerted ⟨[alert 10 5 .hold], [], 5, some (alert 0 16 .hold), some (alert 2 15 .hold)⟩
    let u : State := { s with ga := ⟨true, none⟩ }
    (s.resetHeld = false ∧ s.device = .run ∧ s.alerts.escalation = some (alert 2 15 .hold) ∧
        (alert 2 15 .hold).ackTimer = .running 9 ∧ (s.counters.global.get 4).toNat < 2147483647) ∧
      (alert 10 5 .hold ∈ s.alerts.stack ++ s.alerts.pass ∧ (s.vectors.get 10).sense = .edge) ∧
      (u.alerts.gaSlot = some (alert 0 16 .hold) ∧ u.ga.active = true ∧ u.ga.remembered = none) ∧
      ({ s with ga := ⟨true, some (.request, 0)⟩ }).ga.remembered = some (.request, 0) ∧
      run.alerts.escalation = none ∧
      (AlertsOk s.alerts ∧ (∀ q ∈ s.alerts.stack ++ s.alerts.pass, q.code ≠ 2) ∧
        (∀ x : RampId, (s.rampDyn.get x).state.isActive = false) ∧ (bump .global 4 1 s).codes = s.codes) := by
  unfold AlertsOk; decide +kernel

theorem witness_GeneralAlarmRequests :
    (run.resetHeld = false ∧ 2 ≤ (hdr 2).authority ∧ 3 ≤ (hdr 3).authority ∧ (ship .config).device = .config) ∧
      (run.device ≠ .config ∧ run.ga.active = false) ∧
      (({ run with ga := ⟨true, none⟩ }).ga.active = true ∧ ({ run with ga := ⟨true, none⟩ }).ga.remembered = none) ∧
      ({ run with ga := ⟨true, some (.request, 0)⟩ }).ga.remembered ≠ none := by decide +kernel

/-- START with the tables failing and passing, STOP, RESTART and RESUME in their states and outside them. -/
theorem witness_DeviceStates :
    let config := ship .config
    let failing : State := { run with messages := State.reset.messages }
    (run.resetHeld = false ∧ 3 ≤ (hdr 3).authority ∧ run.device ≠ .config) ∧
      checkTables { config with messages := State.reset.messages } = some ⟨.message, 0, 1⟩ ∧
      (config.device = .config ∧ (config.port .bridge).up = true ∧
        (∀ r : RampId, (config.rampDyn.get r).state.isActive = false) ∧
        ∀ z : ZoneId, (config.zoneDyn.get z).state.isRest = true) ∧
      (checkTables failing = some ⟨.message, 0, 1⟩ ∧ checkTables run = none ∧ (run.port .bridge).up = true) ∧
      ((ship .autonomous).device = .autonomous ∧ ((ship .autonomous).port .bridge).up = true ∧
        (State.reset.port .bridge).up = false) := by decide +kernel

/-- A line PLAYING and a ramp MOVING at a STOP; a burning zone and one on fire before, at entry to RUN. -/
theorem witness_DeviceStates_frames :
    let coded : State :=
      { ship .config with zones := Tab.put run.zones 0 { run.zones.get 0 with fireCode := some 10 } }
    let busy : State :=
      { run with
        zoneLines := Tab.put run.zoneLines 0 ⟨.playing, none, .stopped, .stopped, .stopped⟩
        rampDyn := Tab.put run.rampDyn 0 { run.rampDyn.get 0 with state := .moving } }
    ((busy.zoneLines.get 0).state = .playing ∧ (busy.zones.get 0).amplifier = some 2 ∧
        (busy.rampDyn.get 0).state = .moving ∧ (busy.ramps.get 0).drive = some 3) ∧
      ((coded.zones.get 0).fireCode = some 10 ∧ (coded.vectors.get 10).present = true ∧
        0 < (coded.vectors.get 10).level ∧ ∀ y : ZoneId, y ≠ 0 → (coded.zones.get y).fireCode ≠ some 10) ∧
      (burningDetector (coded.modStation 1 fun d => { d with filtered := 1 }) 0 = some 1 ∧
        ((coded.modZone 0 fun d => { d with fire := true }).zoneDyn.get 0).fire = true) := by decide +kernel

/-- Authorities 1, 2 and an entry of authority 3; codes 2, 3 and 64; absent, masked, latched; EDGE and LEVEL. -/
theorem witness_TestRaiseAndWithdraw :
    let s (v : VectorEntry) : State := { run with vectors := Tab.put run.vectors 10 v }
    let e := run.vectors.get 10
    (run.resetHeld = false ∧ (hdr 1).authority < 2 ∧ 2 ≤ (hdr 2).authority ∧ 2 < 3 ∧ 64 ≤ 64) ∧
      ((ship .config).device = .config ∧ run.device ≠ .config ∧ 3 ≤ (3 : Code).val ∧ 3 ≤ (63 : Code).val) ∧
      (((s { e with authority := 3 }).vectors.get 10).present = true ∧
        min 3 (hdr 2).authority < ((s { e with authority := 3 }).vectors.get 10).authority) ∧
      (run.vectors.get 3).present = false ∧ ((s { e with level := 0 }).vectors.get 10).level = 0 ∧
      (e.present = true ∧ e.authority ≤ min 3 (hdr 2).authority ∧ e.level ≠ 0) ∧
      (run.vectors.get 10).sense = .edge ∧ (run.vectors.get 13).sense = .level := by decide +kernel

theorem witness_VectorWriteKeepsConditions :
    run.resetHeld = false ∧ 3 ≤ (hdr 3).authority ∧
      vectorOf ⟨true, some .hold, 16, some .edge, false, 0, .zoneOpen 7⟩ =
        some ⟨true, .hold, 15, .edge, false, 0, .zoneOpen 7⟩ ∧
      (vectorOf ⟨true, some .hold, 1, some .edge, false, 0, .zoneOpen 8⟩ = none ∧
        vectorOf ⟨true, some .hold, 1, some .edge, false, 0, .call 0 [] 1 1⟩ = none) ∧
      3 ≤ (3 : Code).val ∧ 2 < 3 ∧ 64 ≤ 64 := by
  decide +kernel

theorem witness_AlertStoresInvariant :
    (let s := alerted ⟨[alert 10 5 .hold, alert 13 7 .hold], [alert 12 5 .pass], 7, none, none⟩;
      AlertsOk s.alerts) ∧ ∃ t, step run = .next t :=
  ⟨by unfold AlertsOk; decide, _, rfl⟩

/-- A close that runs, one from rest with its call taken and one with it refused, and an upgrade. -/
theorem witness_ZoneClose :
    let counting := zoned fun d => { d with state := .countdown, cause := .routine, remaining := 10 }
    let silent : State := { run with messages := State.reset.messages }
    (run.resetHeld = false ∧ 2 ≤ (hdr 2).authority ∧ (ship .config).device = .config ∧ 8 ≤ 8) ∧
      (counting.device ≠ .config ∧ (counting.zoneDyn.get 0).state = .countdown) ∧
      ((run.zoneDyn.get 0).state = .partly ∧
        (requestCall ⟨.zone 0, 0, [0], 4, 1⟩ run).1.stamp? = some 0 ∧
        (requestCall ⟨.zone 0, 0, [0], 4, 1⟩ silent).1.stamp? = none) ∧
      ((counting.zoneDyn.get 0).cause = .routine ∧
        0 < min (counting.zoneDyn.get 0).remaining (counting.zones.get 0).fireWarn) ∧
      (0 ∈ members run 0 ∧ (run.doors.get 0).station = some 0 ∧ run.owners.get 0 = .free ∧
        (1 : DoorId) ∉ members run 0 ∧ (run.setOwner 0 (.zone 1)).owners.get 0 ≠ .free) ∧
      ∀ d e : DoorId, d ∈ members run 0 → e ∈ members run 0 →
        (run.doors.get d).station = (run.doors.get e).station → d = e := by decide +kernel

/-- The upgrades: CALLING with a call awaited and without; COUNTDOWN with nothing left; CLOSING with a door skipped
LOCAL; the reversal of an OPENING with a door under OPEN. -/
theorem witness_ZoneClose_upgrades :
    let calls (ref : Option CallRef) := zoned fun d => { d with state := .calling, cause := .routine, callRef := ref }
    let spent := zoned fun d => { d with state := .countdown, cause := .routine, remaining := 0 }
    let closing := (zoned fun d => { d with state := .closing, cause := .routine }).modDoor 0 fun x =>
      { x with skipped := .localControl }
    let opening := (zoned fun d => { d with state := .opening }).modDoor 0 fun x =>
      { x with state := .opening, command := .open, closeTimer := .running 9 }
    (((calls none).zoneDyn.get 0).callRef = none ∧ ((calls (some ⟨0, 3⟩)).zoneDyn.get 0).callRef = some ⟨0, 3⟩ ∧
        ((calls none).zoneDyn.get 0).cause = .routine ∧
        (requestCall ⟨.zone 0, 0, [0], 12, 1⟩ (calls none)).1.stamp? = some 0) ∧
      (min (spent.zoneDyn.get 0).remaining (spent.zones.get 0).fireWarn = 0 ∧
        (spent.zoneDyn.get 0).state = .countdown) ∧
      (0 ∈ members closing 0 ∧ (closing.doors.get 0).station = some 0 ∧ (closing.doorDyn.get 0).state ≠ .closed ∧
        (closing.doorDyn.get 0).command = .none ∧ (closing.doorDyn.get 0).skipped ≠ .claim) ∧
      ((opening.zoneDyn.get 0).state.isRest = false ∧ 0 ∈ members opening 0 ∧
        (opening.doorDyn.get 0).command = .open) := by
  decide +kernel

/-- Each clause's zone state: COUNTDOWN with and without a wait for clear, CALLING with its timer and reference. -/
theorem witness_ClosingOfZone :
    let zone (f : ZoneDyn → ZoneDyn) : State := zoned f
    let counting := zone fun d => { d with state := .countdown, cause := .routine }
    let asking : State :=
      { counting with zones := Tab.put counting.zones 0 { counting.zones.get 0 with clearRequired := true } }
    let calls := zone fun d =>
      { d with state := .calling, cause := .routine, callRef := some ⟨0, 3⟩, callWait := .running 9 }
    (0 ∈ members counting 0 ∧ (counting.doorDyn.get 0).skipped ≠ .claim ∧ pointOn counting 0 3 = false ∧
        (counting.doorDyn.get 0).state ≠ .closed) ∧
      ((run.zoneDyn.get 0).state ≠ .countdown ∧ (counting.zoneDyn.get 0).awaitingClear = false ∧
        (counting.zones.get 0).clearRequired = false ∧ (asking.zones.get 0).clearRequired = true ∧
        (asking.zoneDyn.get 0).clear = false ∧ (asking.zoneDyn.get 0).cause ≠ .fire) ∧
      ((calls.zoneDyn.get 0).callWait = .running 9 ∧ (calls.zoneDyn.get 0).callRef = some ⟨0, 3⟩ ∧
        0 < (calls.zones.get 0).routineWarn ∧ (run.zoneDyn.get 0).callWait = .stopped) ∧
      (run.resetHeld = false ∧ 2 ≤ (hdr 2).authority ∧ 1 ≤ (hdr 1).authority ∧ run.device ≠ .config ∧ 8 ≤ 8) := by
  decide +kernel

/-- A member commanded, and every member excepted: one of a refused claim, one CLOSED, one in local control. -/
theorem witness_ClosingOfZone_end :
    let closing := zoned fun d => { d with state := .countdown, cause := .routine }
    let door (st : DoorState) (k : Skipped) := closing.modDoor 0 fun x => { x with state := st, skipped := k }
    let local_ := closing.modStation 0 fun d => { d with filtered := 8 }
    (0 ∈ members closing 0 ∧ (closing.doorDyn.get 0).skipped ≠ .claim ∧ (closing.doorDyn.get 0).state ≠ .closed) ∧
      (∀ e ∈ members closing 0, e = 0) ∧ ((door .between .claim).doorDyn.get 0).skipped = .claim ∧
      ((door .closed .no).doorDyn.get 0).state = .closed ∧
      ((local_.zoneDyn.get 0).cause = .routine ∧ (local_.doors.get 0).station = some 0 ∧ pointOn local_ 0 3 = true) ∧
      (∀ e ∈ members closing 0, (closing.doorDyn.get e).command ≠ .close) := by decide +kernel

/-- A fire close without warning, a routine one that awaits the clear flag, and a wait whose call is given up. -/
theorem witness_ClosingOfZone_countdown :
    let s (c : Cause) : State := zoned fun d =>
      { d with state := .calling, cause := c, callRef := some ⟨0, 3⟩, callWait := .running 9 }
    let asks (c : Cause) : State :=
      { s c with
        zones := Tab.put run.zones 0 { run.zones.get 0 with fireWarn := 0, routineWarn := 0, clearRequired := true } }
    (0 < (run.zones.get 0).fireWarn ∧ ((asks .fire).zones.get 0).fireWarn = 0 ∧
        ((asks .fire).zoneDyn.get 0).cause = .fire) ∧
      (((asks .routine).zones.get 0).routineWarn = 0 ∧ ((asks .routine).zoneDyn.get 0).cause ≠ .fire ∧
        ((asks .routine).zones.get 0).clearRequired = true ∧ ((asks .routine).zoneDyn.get 0).clear = false) ∧
      ((s .fire).resetHeld = false ∧ ((s .fire).zoneDyn.get 0).state = .calling ∧
        ((s .fire).zoneDyn.get 0).callWait = .running 9 ∧ ((s .fire).zoneDyn.get 0).callRef = some ⟨0, 3⟩) := by
  decide +kernel

theorem witness_ZoneOpenJudged :
    let closing (c : Cause) := zoned fun d => { d with state := .closing, cause := c }
    (run.resetHeld = false ∧ 2 ≤ (hdr 2).authority ∧ (ship .config).device = .config ∧ run.device ≠ .config) ∧
      ((zoned fun d => { d with fire := true }).zoneDyn.get 0).fire = true ∧
      (((closing .fire).zoneDyn.get 0).fire = false ∧ ((closing .fire).zoneDyn.get 0).cause ≠ .routine ∧
        ((closing .routine).zoneDyn.get 0).cause = .routine) ∧
      ((zoned fun d => { d with state := .opening }).zoneDyn.get 0).state = .opening ∧
      ((run.zoneDyn.get 0).fire = false ∧ (run.zoneDyn.get 0).state = .partly ∧ 0 ∈ members run 0 ∧
        (run.doorDyn.get 0).state ≠ .opened ∧ ((claimMembers 0 run).doorDyn.get 0).skipped ≠ .claim) ∧
      ((run.zones.get 0).doorHold = some 3 ∧ (run.lines.get 3).fn = .doorHold 0) := by decide +kernel

/-- Every member OPEN, so that the open ends at once; an OPENING zone whose door is not OPEN. -/
theorem witness_ZoneOpenJudged_end :
    let open_ := run.modDoor 0 fun x => { x with state := .opened }
    let opening := zoned fun d => { d with state := .opening }
    ((∀ e ∈ members open_ 0, (open_.doorDyn.get e).state = .opened) ∧ (open_.zoneDyn.get 0).fire = false ∧ 8 ≤ 8) ∧
      ((opening.zoneDyn.get 0).state = .opening ∧ (∀ e ∈ members opening 0, (opening.doorDyn.get e).command ≠ .open) ∧
        0 ∈ members opening 0 ∧ (opening.doors.get 0).station = some 0 ∧ (opening.doorDyn.get 0).state ≠ .opened ∧
        ∀ x ∈ members opening 0, ¬x < 0) ∧
      ((run.setOwner 0 (.zone 0)).owners.get 0 = .zone 0 ∧ 0 ∈ members run 0) := by decide +kernel

/-- A routine close with its call awaited and without one, a door under CLOSE with an obstruction counted. -/
theorem witness_ZoneOpenJudged_reversal :
    let closing (ref : Option CallRef) : State :=
      (zoned fun d => { d with state := .closing, cause := .routine, callRef := ref }).modDoor 0 fun x =>
        { x with state := .closing, command := .close, obstructions := 2, closeTimer := .running 9 }
    let s := closing (some ⟨0, 3⟩)
    (s.resetHeld = false ∧ s.device ≠ .config ∧ (s.zoneDyn.get 0).fire = false ∧ (s.zoneDyn.get 0).cause = .routine) ∧
      (s.zoneDyn.get 0).callRef = some ⟨0, 3⟩ ∧ ((closing none).zoneDyn.get 0).callRef = none ∧
      0 ∈ members s 0 ∧ (s.doorDyn.get 0).command = .close := by decide +kernel

theorem witness_FireFlagRequests :
    let fire : State := zoned fun d => { d with fire := true }
    let burning := fire.modStation 1 fun d => { d with filtered := 1 }
    (run.resetHeld = false ∧ 2 ≤ (hdr 2).authority ∧ 3 ≤ (hdr 3).authority) ∧
      ((fire.zoneDyn.get 0).fire = true ∧ (run.zoneDyn.get 0).fire = false) ∧
      ((burning.stations.get 1).role = .detector ∧ (burning.stations.get 1).zone = some 0 ∧
        pointOn burning 1 0 = true) ∧ (burningDetector fire 0 = none) ∧
      ((run.zoneDyn.get 0).state ≠ .opening ∧
        ((zoned fun d => { d with state := .opening }).zoneDyn.get 0).state = .opening) ∧
      ((run.zones.get 0).fireCode = none ∧
        (let coded (c : Code) := Tab.put run.zones 0 { run.zones.get 0 with fireCode := some c };
          ((coded 10).get 0).fireCode = some 10 ∧ ((coded 3).get 0).fireCode = some 3) ∧
        ((run.vectors.get 10).present = true ∧ (run.vectors.get 10).level ≠ 0) ∧ (run.vectors.get 3).present = false ∧
        8 ≤ 8) ∧
      ((run.ramps.get 0).guardZone = 0 ∧ (run.zoneDyn.get 0).override = false) := by decide +kernel

/-- The obstruction count at the retry limit and above it, in a ROUTINE close that the failure of the door ends. -/
theorem witness_DoorTimersExpire :
    let s (n : Nat) : State :=
      (zoned fun d => { d with state := .closing, cause := .routine }).modDoor 0 fun x =>
        { x with state := .obstructed, command := .close, closeTimer := .running 9, retryTimer := .running 9
                 obstructions := n }
    (run.resetHeld = false ∧ (run.doorDyn.get 0).closeTimer = .stopped ∧ (run.doorDyn.get 0).retryTimer = .stopped) ∧
      (((s 2).doorDyn.get 0).closeTimer = .running 9 ∧ ((s 2).doorDyn.get 0).command = .close ∧
        ((s 2).doors.get 0).station = some 0 ∧ ((s 2).doors.get 0).zone = 0 ∧
        ((s 2).zoneDyn.get 0).state = .closing ∧ ∀ e ∈ members (s 2) 0, e = 0) ∧
      (((s 2).doorDyn.get 0).obstructions ≤ ((s 2).doors.get 0).retryLimit ∧
        ((s 3).doors.get 0).retryLimit < ((s 3).doorDyn.get 0).obstructions ∧ ((s 3).zoneDyn.get 0).cause ≠ .fire) := by
  decide +kernel

/-- A close that ends with its door CLOSED, with it not CLOSED, and in a zone without doors. -/
theorem witness_DoorTimersExpire_end :
    let closing (z : ZoneId) (st : DoorState) : State :=
      (run.modZone z fun d => { d with state := .closing, cause := .routine }).modDoor 0 fun x => { x with state := st }
    (((closing 0 .closed).zoneDyn.get 0).state = .closing ∧
        (∀ e ∈ members (closing 0 .closed) 0, ((closing 0 .closed).doorDyn.get e).command ≠ .close) ∧
        restState (closing 0 .closed) 0 = .closed) ∧
      (0 ∈ members (closing 0 .between) 0 ∧ (run.doors.get 0).station = some 0 ∧
        ((closing 0 .between).doorDyn.get 0).state ≠ .closed ∧ ∀ x ∈ members (closing 0 .between) 0, ¬x < 0) ∧
      (members (closing 1 .between) 1 = [] ∧ ((closing 1 .between).zoneDyn.get 1).state = .closing) := by decide +kernel

/-- Message 1 not in use; a merge; room; a full queue of 16 without and with a call to evict; the bounds. -/
theorem witness_CallsRequested :
    let c (k : Nat) : CallRecord := { call0 .waiting with origin := .event ⟨k % 64, by omega⟩, stamp := k }
    let full : State := { run with calls := (List.range 16).map c, nextStamp := 16 }
    (run.messages.get 1).inUse = false ∧
      (let s : State := { run with calls := [call0 .waiting], nextStamp := 1 };
        s.calls = [] ++ call0 .waiting :: [] ∧ (s.messages.get 0).inUse = true ∧
          (call0 .waiting).origin = .bridge ∧ (call0 .waiting).message = 0 ∧ CallsOk s) ∧
      (run.calls.length < 16 ∧ run.calls = [] ++ []) ∧
      (16 ≤ full.calls.length ∧ (∀ x ∈ full.calls, x.origin ≠ .bridge) ∧
        (∀ x ∈ full.calls, x.state = .waiting → 4 ≤ x.priority) ∧
        (c 15 ∈ full.calls ∧ (c 15).priority < 5 ∧ ∀ x ∈ full.calls, x = c 15 ∨ x.stamp < 15)) ∧
      (run.resetHeld = false ∧ 1 ≤ (hdr 1).authority ∧ (∀ z ∈ [0, 7], z < 8) ∧ 256 ≤ 256 ∧ (∃ z ∈ [8], 8 ≤ z) ∧
        (ship .config).device = .config ∧ run.device ≠ .config) := by
  unfold CallsOk callBefore; decide +kernel

/-- The bridge's call on a PLAYING line, cancelled; another message; the bound of the request. -/
theorem witness_CallsRequested_cancel :
    let s := calling (call0 .playing) ⟨.playing, some 0, .stopped, .running 9, .stopped⟩
    (s.calls = [] ++ call0 .playing :: [] ∧ (call0 .playing).origin = .bridge ∧ (call0 .playing).message = 0 ∧
        (s.zoneLines.get 0).carried = some (call0 .playing).stamp ∧ (s.zoneLines.get 0).state = .playing) ∧
      (s.device ≠ .config ∧ s.resetHeld = false ∧ 256 ≤ 256 ∧ ∀ c ∈ s.calls, c.message ≠ 1) := by decide +kernel

/-- A full queue whose last WAITING record is the call that zone 0 awaits; the place of a higher request. -/
theorem witness_CallsRequested_eviction :
    let c (k : Nat) : CallRecord := { call0 .starting with origin := .event ⟨k % 64, by omega⟩, stamp := k }
    let old : CallRecord := { call0 .waiting with origin := .zone 0, stamp := 15 }
    let s : State :=
      { zoned (fun d => { d with state := .calling, callRef := some ⟨0, 15⟩ }) with
        calls := (List.range 15).map c ++ [old], nextStamp := 16 }
    let q : CallRequest := ⟨.bridge, 0, [0], 5, 1⟩
    (16 ≤ s.calls.length ∧ (∀ x ∈ s.calls, ¬(x.origin = q.origin ∧ x.message = q.message)) ∧ old ∈ s.calls ∧
        old.state = .waiting ∧ old.priority < q.priority ∧ ∀ x ∈ s.calls, x.state = .waiting → x = old) ∧
      ((s.calls.filter fun x => decide (x.stamp ≠ old.stamp)) = [] ++ (List.range 15).map c ∧
        (((List.range 15).map c).head?.map (·.priority)) = some 4) ∧
      (((notify old .evicted s).zoneDyn.get 0).state ≠ (s.zoneDyn.get 0).state ∧ (requestCall q s).1 = .evicted 16 old) := by decide +kernel

/-- A waiting call whose line is FREE, one whose line is FAULT, and a preempted call that carries a PLAYING line. -/
theorem witness_ArbitrationPass :
    let s := calling (call0 .waiting) ⟨.free, none, .stopped, .stopped, .stopped⟩
    let f := calling (call0 .waiting) ZoneLine.powerOn
    let p := calling (call0 .playing) ⟨.playing, some 0, .stopped, .running 9, .stopped⟩
    (s.calls = [call0 .waiting] ∧ (call0 .waiting).zones = [0] ∧ (s.zoneLines.get 0).state = .free ∧
        (s.zoneLines.get 0).carried = none ∧ (∀ y : ZoneId, (s.zoneLines.get y).carried ≠ some 0) ∧
        (s.zones.get 0).amplifier = some 2 ∧ s.owners.get 2 = .line 0) ∧
      ((f.zoneLines.get 0).state = .fault ∧ ∀ y : ZoneId, (f.zoneLines.get y).carried ≠ some 0) ∧
      (p.calls = [] ++ call0 .playing :: [] ∧ 1 ≠ (call0 .playing).stamp ∧ (p.zoneLines.get 0).carried = some 0 ∧
        (p.zoneLines.get 0).state = .playing) := by decide +kernel

/-- Two waiting calls of which the first is blocked by an equal call; a call of two zones, the second line FREE and
STOPPING. -/
theorem witness_ArbitrationPass_several :
    let first : CallRecord := { call0 .waiting with origin := .zone 0, stamp := 1 }
    let second : CallRecord := { call0 .waiting with origin := .zone 1, stamp := 2 }
    let s : State :=
      { calling (call0 .playing) ⟨.playing, some 0, .stopped, .running 9, .stopped⟩ with
        calls := [call0 .playing, first, second], nextStamp := 3 }
    let two (st : ZoneLineState) : State :=
      { run with
        calls := [{ call0 .waiting with zones := [0, 1] }], nextStamp := 1
        zones := Tab.put run.zones 1 { run.zones.get 1 with amplifier := some 4 }
        zoneLines := Tab.put run.zoneLines 1 ⟨st, none, .stopped, .stopped, .stopped⟩ }
    (s.call? 1 = some first ∧ first.state = .waiting ∧
        0 ∈ first.zones.filter (fun z => (s.zoneLines.get z).state ≠ .fault) ∧
        isAvailable s [] first.priority 0 = false ∧ s.call? 2 = some second ∧ second.state = .waiting ∧
        0 ∈ second.zones) ∧
      (isAvailable run [] 4 0 = true ∧ onePass run = run) ∧
      ((0 : ZoneId) < 1 ∧ (∀ x : ZoneId, ((two .free).zoneLines.get x).carried ≠ some 0) ∧
        ((two .free).zoneLines.get 1).state = .free ∧ ((two .stopping).zoneLines.get 1).state = .stopping ∧
        ((two .free).zones.get 0).amplifier = some 2 ∧ ((two .free).zones.get 1).amplifier = some 4 ∧
        (two .free).owners.get 2 = .free ∧ (two .free).owners.get 4 = .free) := by decide +kernel

/-- A PLAYING call and one in GAP into which zone 1 has merged, its line FREE, FAULT, and held by a lower call; a call
left with a FAULT line alone. -/
theorem witness_ArbitrationPass_growth :
    let line (st : ZoneLineState) (k : Option Nat) : ZoneLine := ⟨st, k, .stopped, .stopped, .stopped⟩
    let c (st : CallState) : CallRecord := { call0 st with zones := [0, 1] }
    let s (st : CallState) (one : ZoneLine) : State :=
      { calling (c st) (line .playing (some 0)) with
        zoneLines := Tab.put (Tab.put run.zoneLines 0 (line .playing (some 0))) 1 one }
    let lone := calling (call0 .starting) ZoneLine.powerOn
    ((s .playing (line .free none)).calls = [] ++ c .playing :: [] ∧
        (c .playing).zones.filter (fun z => ((s .playing (line .free none)).zoneLines.get z).carried ≠ some 0) = [1] ∧
        isAvailable (s .playing (line .free none)) [] 4 1 = true ∧ (c .playing).sent = true ∧
        ∀ y : ZoneId, ((s .playing (line .free none)).zoneLines.get y).state ≠ .starting) ∧
      ((s .gap (line .fault none)).zoneLines.get 1).state = .fault ∧
      ((s .gap (line .playing (some 5))).zoneLines.get 1).carried = some 5 ∧
      (lone.calls = [] ++ call0 .starting :: [] ∧ (lone.zoneLines.get 0).state = .fault ∧
        ∀ y : ZoneId, (lone.zoneLines.get y).carried ≠ some 0) := by decide +kernel

/-- A call of a FREE and a FAULT zone that carries no line, and one of a FAULT zone alone. -/
theorem witness_ArbitrationPass_start :
    let s (zones : List ZoneId) : State :=
      calling { call0 .waiting with zones := zones } ⟨.free, none, .stopped, .stopped, .stopped⟩
    let sound (zones : List ZoneId) := zones.filter fun z => decide (((s zones).zoneLines.get z).state ≠ .fault)
    (s [0, 1]).calls = [] ++ { call0 .waiting with zones := [0, 1] } :: [] ∧ sound [0, 1] = [0] ∧ sound [1] = [] ∧
      ∀ z : ZoneId, ((s [0, 1]).zoneLines.get z).carried ≠ some 0 := by decide +kernel

/-- A line in each state with its timer running; a call in GAP; a last repetition and one that repeats. -/
theorem witness_ZoneLinePlaying :
    let starting := calling (call0 .starting) ⟨.starting, some 0, .running 9, .stopped, .stopped⟩
    let playing (left : Nat) := calling { call0 .playing with left := left, repeats := 2 }
      ⟨.playing, some 0, .stopped, .running 9, .stopped⟩
    let stopping : State :=
      { calling (call0 .stopping) ⟨.stopping, none, .stopped, .stopped, .running 9⟩ with calls := [] }
    let gap := calling (call0 .gap) ⟨.free, some 0, .stopped, .stopped, .stopped⟩
    (run.resetHeld = false ∧ (run.zoneLines.get 0).state ≠ .starting ∧ (run.zoneLines.get 0).state ≠ .playing ∧
        (run.zoneLines.get 0).state ≠ .stopping) ∧
      ((starting.zoneLines.get 0).state = .starting ∧ (starting.zoneLines.get 0).startTimer = .running 9) ∧
      ((playing 1).zoneLines.get 0).durationTimer = .running 9 ∧
      ((stopping.zoneLines.get 0).stopTimer = .running 9 ∧ stopping.calls = [] ∧
        (stopping.zoneLines.get 0).carried = none ∧ stopping.owners.get 2 = .line 0) ∧
      (gap.calls = [call0 .gap] ∧ (call0 .gap).state = .gap ∧ (call0 .gap).gapTimer = .running 9 ∧
        (∀ y : ZoneId, (gap.zoneLines.get y).carried = some 0 ↔ y = 0) ∧ (gap.zones.get 0).amplifier = some 2) ∧
      ((call0 .starting).sent = true ∧ (∀ y : ZoneId, (starting.zoneLines.get y).carried = some 0 ↔ y = 0) ∧
        starting.owners.get 2 = .line 0) ∧
      (((playing 1).calls.map (·.left)) = [1] ∧ ((playing 2).calls.map (·.left)) = [2] ∧
        0 < ((playing 2).messages.get 0).repeatGap) := by decide +kernel

/-- The stop expiry of a line that carries a STARTING call which waits for it, and a call in STOPPING. -/
theorem witness_ZoneLinePlaying_stop :
    let s (st : CallState) : State :=
      calling { call0 st with sent := false } ⟨.stopping, some 0, .stopped, .stopped, .running 9⟩
    ((s .starting).resetHeld = false ∧ (s .starting).calls = [{ call0 .starting with sent := false }] ∧
        (call0 .starting).zones = [0] ∧ (∀ y : ZoneId, ((s .starting).zoneLines.get y).carried = some 0 ↔ y = 0) ∧
        ((s .starting).zoneLines.get 0).state = .stopping ∧ ((s .starting).zoneLines.get 0).stopTimer = .running 9 ∧
        ((s .starting).zones.get 0).amplifier = some 2 ∧ (s .starting).owners.get 2 = .line 0) ∧
      (call0 .stopping).state = .stopping := by decide +kernel

/-- Lines in the states that a rise and a fall do not concern, and one STOPPING that carries nothing; a call in each
state by its line: without zones, STOPPING, STARTING, PLAYING, at the end of a repetition, with PLAY owed and its line
FREE and not, and with the amplifier held by another. -/
theorem witness_ZoneLinePlaying_call :
    let line (st : ZoneLineState) : ZoneLine := ⟨st, some 0, .running 9, .running 9, .running 9⟩
    let s (c : CallRecord) (st : ZoneLineState) : State := calling c (line st)
    let mine (t : State) (z : ZoneId) : Bool := decide ((t.zoneLines.get z).carried = some 0)
    let owed : CallRecord := { call0 .starting with sent := false }
    let held := (s owed .free).setOwner 2 (.ramp 0)
    ((run.zoneLines.get 0).state = .free ∧ ((s (call0 .stopping) .stopping).zoneLines.get 0).state = .stopping ∧
        (s (call0 .stopping) .stopping).call? 0 = some (call0 .stopping) ∧
        (s (call0 .starting) .starting).call? 0 = some (call0 .starting) ∧
        ((calling (call0 .stopping) ⟨.stopping, none, .stopped, .stopped, .running 9⟩).zoneLines.get 0).carried = none) ∧
      ((s { call0 .gap with zones := [] } .free).call? 0 = some { call0 .gap with zones := [] } ∧
        (call0 .gap).zones ≠ [] ∧ (∀ z : ZoneId, mine (s (call0 .stopping) .free) z = true → z = 0)) ∧
      ((call0 .playing).repeats ≠ 0 ∧ (call0 .playing).left ≤ 1 ∧ (call0 .playing).sent = true ∧
        0 < (run.messages.get 0).repeatGap ∧
        (({ run with messages := Tab.put run.messages 0 ⟨true, 60, false, 0⟩ }).messages.get 0).repeatGap = 0) ∧
      (owed.sent = false ∧ (∀ z : ZoneId, mine (s owed .free) z = true ↔ z = 0) ∧
        ((s owed .free).zoneLines.get 0).state = .free ∧ ((s owed .stopping).zoneLines.get 0).state ≠ .free ∧
        (run.zones.get 0).amplifier = some 2 ∧ (s owed .free).owners.get 2 = .line 0) ∧
      (held.owners.get 2 ≠ .free ∧ held.owners.get 2 ≠ .line 0) := by decide +kernel

/-- The drive owned by another, free; each state; the permissive holding and failing; the call taken and refused. -/
theorem witness_RampStartsMotion :
    let moving := ramped fun d => { d with state := .moving }
    let silent : State := { run with messages := State.reset.messages }
    (run.resetHeld = false ∧ 2 ≤ (hdr 2).authority ∧ (run.ramps.get 0).drive = some 3 ∧ run.device = .run ∧
        (ship .config).device ≠ .run) ∧
      (((ramped fun d => { d with state := .fault }).rampDyn.get 0).state = .fault ∧
        ((ramped fun d => { d with state := .clearing }).rampDyn.get 0).state = .clearing ∧
        (moving.rampDyn.get 0).state = .moving) ∧
      ((run.rampDyn.get 0).state = .idle ∧ permissive run 0 = true ∧
        permissive { run with ga := ⟨true, none⟩ } 0 = false) ∧
      (run.owners.get 3 = .free ∧ (run.setOwner 3 (.ramp 1)).owners.get 3 ≠ .free ∧
        (run.setOwner 3 (.ramp 1)).owners.get 3 ≠ .ramp 0) ∧
      ((requestCall ⟨.ramp 0, 0, [0], 6, 1⟩ run).1 = .queued 0 ∧
        (requestCall ⟨.ramp 0, 0, [0], 6, 1⟩ silent).1 = .notInUse) ∧
      (pointOn run 3 1 = false ∧ pointOn (run.modStation 3 fun d => { d with filtered := 3 }) 3 1 = true ∧
        permissive (run.modStation 3 fun d => { d with filtered := 3 }) 0 = true) ∧ 4 ≤ 4 ∧
      ((run.ramps.get 1).drive = none ∧ (run.rampDyn.get 1).state = .unreferenced) := by decide +kernel

theorem witness_RampHoldFaultRelease :
    let at_ (st : RampState) := ramped fun d => { d with state := st }
    ((run.ramps.get 0).drive = some 3 ∧ run.resetHeld = false ∧ 1 ≤ (hdr 1).authority ∧ 2 ≤ (hdr 2).authority) ∧
      (((at_ .clearing).rampDyn.get 0).state = .clearing ∧ ((at_ .homing).rampDyn.get 0).state = .homing ∧
        ((at_ .held).rampDyn.get 0).state = .held ∧ (run.rampDyn.get 0).state = .idle) ∧
      (let s := ramped fun d => { d with state := .fault, fault := some .stall };
        (s.rampDyn.get 0).state = .fault ∧ vmeas (s.rampDyn.get 0) = 0) ∧ 4 ≤ 4 := by decide +kernel

/-- P within and beyond the travel limit 20050; the arrival window at 8 and beyond it; LANDED on and off. -/
theorem witness_RampMotion :
    let s (st : RampState) (p : Int) := ramped fun d =>
      { d with state := st, p := p, t := some 100, control := .running 9, callRef := some ⟨0, 3⟩
               clearance := .running 9 }
    ((run.ramps.get 0).drive = some 3 ∧ run.resetHeld = false ∧ ((s .clearing 0).rampDyn.get 0).state = .clearing ∧
        ((s .clearing 0).rampDyn.get 0).callRef = some ⟨0, 3⟩ ∧
        ((s .clearing 0).rampDyn.get 0).clearance = .running 9 ∧ (run.rampDyn.get 0).clearance = .stopped) ∧
      ((run.lines.get 4).fn = .encoderA 0 ∧ (run.lines.get 5).fn = .encoderB 0 ∧
        (∀ q : RampId, (run.lines.get 0).fn ≠ .encoderA q ∧ (run.lines.get 0).fn ≠ .encoderB q)) ∧
      (((s .moving 20050).rampDyn.get 0).bHigh = false ∧
        ((s .moving 20050).rampDyn.get 0).p + 1 > ((run.ramps.get 0).pmax + (run.ramps.get 0).overtravel : Nat) ∧
        ¬(((s .moving 20049).rampDyn.get 0).p + 1 > ((run.ramps.get 0).pmax + (run.ramps.get 0).overtravel : Nat))) ∧
      (((s .moving 92).rampDyn.get 0).t = some 100 ∧ (100 - 92 : Int).natAbs ≤ (run.ramps.get 0).window ∧
        (run.ramps.get 0).window < (100 - 91 : Int).natAbs ∧ pointOn run 3 2 = false ∧
        pointOn (run.modStation 3 fun d => { d with filtered := 5 }) 3 2 = true) ∧
      (((s .homing 0).rampDyn.get 0).state = .homing ∧ (run.rampDyn.get 0).control = .stopped) ∧
      ((run.rampDyn.get 0).meter = 65535 ∧ ({ RampDyn.powerOn with meter := 65534, lastPeriod := 65534 }).meter < 65535) := by
  decide +kernel

/-- Counters at the marks' edges; windows at their threshold and below it, GOOD and DEGRADED. -/
theorem witness_CountersAndQuality :
    let s (v : Word32) : State := { run with counters := run.counters.put .global (Tab.put run.counters.global 0 v) }
    let m (g : Grade) (count cleanRun : Nat) : State :=
      { run with quality := run.quality.put .a ⟨g, .running 9 16, count, cleanRun⟩ }
    (4294967296 ≤ (((s 4294967295#32).counters.at .global).get 0).toNat + 1 ∧
        ((((s 2147483647#32).counters.at .global).get 0).toNat < 2147483648 ∧
          2147483648 ≤ (((s 2147483647#32).counters.at .global).get 0).toNat + 1) ∧
        ((run.counters.at .global).get 0).toNat + 1 < 2147483648) ∧
      (run.resetHeld = false ∧ (run.quality.at .a).window = .stopped) ∧
      (((m .good 16 0).quality.at .a).window = .running 9 16 ∧ 16 ≤ ((m .good 16 0).quality.at .a).count ∧
        ((m .good 15 0).quality.at .a).count < 16 ∧ ((m .degraded 0 2).quality.at .a).cleanRun = 2 ∧
        ((m .degraded 0 1).quality.at .a).cleanRun < 2 ∧ 0 < ((m .degraded 1 0).quality.at .a).count) := by
  decide +kernel

theorem witness_CounterReadAndClear :
    run.resetHeld = false ∧ (hdr 2).authority < 3 ∧ 3 ≤ (hdr 3).authority ∧ 13 ≤ 13 ∧
      (true = true → 3 ≤ (hdr 3).authority) := by decide +kernel

theorem witness_PowerOnAndReset : ({ run with resetHeld := true }).resetHeld = true := by decide +kernel

/-- A table that passes, one without message 0, and one whose first door fails test 2, or test 3 alone. -/
theorem witness_ConsistencyCheckTests :
    let lost : State := { run with stations := State.reset.stations }
    let twice : State :=
      { run with doors := Tab.put run.doors 23 { DoorRecord.powerOn with station := some 0 } }
    checkTables run = none ∧ (State.reset.messages.get 0).inUse = false ∧
      ((lost.messages.get 0).inUse = true ∧ (lost.doors.get 0).station = some 0 ∧
        (lost.stations.get 0).role ≠ .door) ∧
      ((twice.doors.get 23).station = some 0 ∧ (twice.stations.get 0).role = .door ∧
        (twice.stations.get 0).zone = some (twice.doors.get 23).zone ∧ (twice.doors.get 0).station = some 0) := by
  decide +kernel

/-- One failing record for each test of the zones, ramps, lines and vector entries, with its report. -/
theorem witness_ConsistencyCheckTests_reports :
    let zone (f : ZoneRecord → ZoneRecord) : State := { run with zones := Tab.put run.zones 1 (f (run.zones.get 1)) }
    let ramp (f : RampRecord → RampRecord) : State := { run with ramps := Tab.put run.ramps 0 (f (run.ramps.get 0)) }
    let line (n : LineId) (fn : LineFn) : State :=
      { run with lines := Tab.put run.lines n { run.lines.get n with fn := fn } }
    let vector (f : VectorEntry → VectorEntry) : State :=
      { run with vectors := Tab.put run.vectors 20 (f (run.vectors.get 11)) }
    checkTables (zone fun z => { z with amplifier := some 0 }) = some ⟨.zone, 1, 5⟩ ∧
      checkTables (zone fun z => { z with doorHold := some 9 }) = some ⟨.zone, 1, 6⟩ ∧
      checkTables (zone fun z => { z with openMsg := 1 }) = some ⟨.zone, 1, 7⟩ ∧
      checkTables (ramp fun r => { r with drive := some 0 }) = some ⟨.ramp, 0, 8⟩ ∧
      checkTables (line 4 .generalIn) = some ⟨.ramp, 0, 9⟩ ∧
      checkTables (ramp fun r => { r with enableLine := none }) = some ⟨.ramp, 0, 10⟩ ∧
      checkTables (ramp fun r => { r with vcreep := r.vmax + 1 }) = some ⟨.ramp, 0, 11⟩ ∧
      checkTables (ramp fun r => { r with clearanceMsg := 1 }) = some ⟨.ramp, 0, 12⟩ ∧
      checkTables (line 15 (.encoderA 3)) = some ⟨.line, 15, 13⟩ ∧
      checkTables (vector fun v => { v with target := .rampHold (some 1) }) = some ⟨.vector, 20, 14⟩ := by
  decide +kernel

/-- Seven doors in one zone fail test 4. -/
theorem witness_ConsistencyCheckTests_doors :
    let s : State :=
      { run with
        stations := run.stations.map fun r => { r with role := .door, zone := some 0 }
        zones := State.reset.zones.map fun z => { z with warningMsg := 0 }
        doors := Tab.of fun d =>
          { DoorRecord.powerOn with station := if d.val < 7 then some (Fin.ofNat 254 d.val) else none } }
    checkTables s = some ⟨.zone, 0, 4⟩ := by decide +kernel

/-- Indexes at each table's end, authorities below and at the least one, CONFIG for a request taken in service only. -/
theorem witness_ReadsAndRefusals :
    (run.resetHeld = false ∧ 255 ≤ 255 ∧ 8 ≤ 8 ∧ 24 ≤ 24 ∧ 4 ≤ 4 ∧ 16 ≤ 16 ∧ 64 ≤ 64 ∧ 256 ≤ 256) ∧
      ((run.lines.get 0).fn.isInput = true ∧ (run.lines.get 3).fn.isOutput = true ∧
        ((run.lines.get 4).fn.isInput = false ∧ (run.lines.get 4).fn.isOutput = false)) ∧
      ((hdr 2).authority < leastAuthority .stop ∧ leastAuthority .stop ≤ (hdr 3).authority ∧
        (ship .config).device = .config ∧ needsService .stop = true) ∧
      (let f : Frame := ⟨0, 200, 0x07#8, 0, []⟩;
        ((received .bridge f).port .bridge).rx = f :: [] ∧ f.destination = 0x00#8 ∧ f.kind = 0x07#8) := by
  decide +kernel

/-- The payload of a MGMT frame spells a request or none: one of the two clauses about it applies, whatever the free
reading of log entry 1 is; and so of a name. -/
theorem witness_ReadsAndRefusals_payload (payload : List Byte) :
    ((∃ authority q, readRequest payload = some (authority, q)) ∨ readRequest payload = none) ∧
      ((∃ name, Config.mgmtName payload = some name) ∨ Config.mgmtName payload = none) := by
  constructor
  · cases h : readRequest payload with
    | none => exact .inr rfl
    | some x => exact .inl ⟨x.1, x.2, rfl⟩
  · cases h : Config.mgmtName payload with
    | none => exact .inr rfl
    | some x => exact .inl ⟨x, rfl⟩

/-- In CONFIG and in service; a HELD ramp and one that is not; message 0 silenced, named by a call, and free. -/
theorem witness_TableWrites :
    let config := ship .config
    (run.resetHeld = false ∧ 3 ≤ (hdr 3).authority ∧ run.device ≠ .config ∧ config.device = .config) ∧
      (8 ≤ 8 ∧ 24 ≤ 24 ∧ 4 ≤ 4 ∧ 256 ≤ 256 ∧ 255 ≤ 255 ∧ 64 ≤ 64 ∧ 13 ≤ 13) ∧
      ((config.zoneDyn.get 0).state.isRest = true ∧ (config.zoneDyn.get 1).state.isRest = true) ∧
      ((config.modRamp 0 fun d => { d with state := .held }).rampDyn.get 0).state = .held ∧
      ((config.rampDyn.get 0).state ≠ .held ∧ (config.rampDyn.get 0).state ≠ .fault) ∧
      ((∃ c ∈ (calling (call0 .waiting) ZoneLine.powerOn).calls, c.message = 0) ∧ ¬∃ c ∈ run.calls, c.message = 0) := by
  decide +kernel

theorem witness_QueuesAndCallsInvariant :
    (let s := waiting .bridge .urgent 32;
      QueuesOk s ∧ ∃ t, step s = .next t) ∧
      let s := calling (call0 .playing) ⟨.playing, some 0, .stopped, .running 999999, .stopped⟩
      CallsOk s ∧ ∃ t, step s = .next t := by
  refine ⟨⟨fun p => by cases p <;> decide +kernel, _, rfl⟩, ?_, _, rfl⟩
  unfold CallsOk callBefore; decide +kernel

/-- A ramp in MOVING with Vset and its control period running. -/
theorem witness_RampSafetyInvariant :
    let s := ramped fun d => { d with state := .moving, vset := 40, control := .running 999999 }
    RampsStill s ∧ RampsSafe s ∧ (s.rampDyn.get 0).state.isActive = true ∧ ∃ t, step s = .next t := by
  refine ⟨?_, ?_, by decide +kernel, _, rfl⟩
  · unfold RampsStill; decide +kernel
  · unfold RampsSafe; decide +kernel

/-- Zone 0 PARTLY with a door BETWEEN and its door-hold output energised. -/
theorem witness_ZonesAndOutputsInvariant :
    let s := run.setOutput 3 true
    ZonesOk s ∧ OutputsOk s ∧ s.outputs.get 3 = true ∧ ∃ t, step s = .next t := by
  refine ⟨?_, ⟨fun n h => ?_, by decide +kernel⟩, by decide +kernel, _, rfl⟩
  · unfold ZonesOk; decide +kernel
  · have hn : n = 3 := by revert n; decide +kernel
    subst hn
    exact ⟨by decide +kernel, by decide +kernel, by decide +kernel⟩

/-- Station 1's copy valid; line 0 active with its condition; a map of station 1 active with its condition. -/
theorem witness_MirrorAndConditionsInvariant :
    (let s := run.modMirror 1 fun l => { l with valid := true };
      MirrorOk s ∧ ∃ t, step s = .next t) ∧
      let s : State :=
        { run with
          lineDyn := Tab.put run.lineDyn 0 ⟨true, true, none, 0⟩, lineCounts := Tab.put run.lineCounts 10 1
          codes := Tab.put run.codes 10 { run.codes.get 10 with lineCond := true } }
      LineConditionsOk s ∧ MapConditionsOk s ∧ ∃ t, step s = .next t := by
  refine ⟨⟨fun i h => ?_, _, rfl⟩, ?_, ?_, _, rfl⟩
  · have hi : i = 1 := by revert i; decide +kernel
    subst hi
    have hl : lineStation 1 ((run.modMirror 1 fun l => { l with valid := true }).mirror.get 1) = some 0 := by
      decide +kernel
    rw [hl]
    decide +kernel
  · unfold LineConditionsOk; decide +kernel
  · unfold MapConditionsOk; decide +kernel

theorem witness_MirrorAndConditionsInvariant_maps :
    (∀ a : Addr, (run.stations.get a).maps.length ≤ 4) ∧ ∃ t, step run = .next t :=
  ⟨by decide +kernel, _, rfl⟩

end Sys2Proof.Tests
end

section

-- One proof after another: the many short ones of this section would otherwise each hold a thread while they wait.
set_option Elab.async false

namespace Sys2Proof.Machine

/-! # What every operation keeps: the queues within their capacities and the Call Queue in order

`Orderly e s t` says what a run of operations from `s` to `t` keeps (R11, R13, R126), and how far it reaches. Each
operation of the model has one rule, which carries `Orderly e s t` over the operation applied to `t`; the rule of an
operation is a chain of the rules of what it does. -/

/-! ## The invariants read few fields -/

section Congruence

variable {s t : State}

theorem QueuesOk.congr (hp : t.ports = s.ports) (h : QueuesOk s) : QueuesOk t := by
  simpa only [QueuesOk, State.port, hp] using h

theorem CallsOk.congr (hc : t.calls = s.calls) (hn : t.nextStamp = s.nextStamp) (h : CallsOk s) : CallsOk t := by
  unfold CallsOk at *; rwa [hc, hn]

/-- An empty Call Queue is in order. -/
theorem callsOk_of_nil (hc : s.calls = []) : CallsOk s := by
  simp [CallsOk, hc]

end Congruence

/-! ## Extents -/

/-- How far a run of operations reaches. `items`: what the jobs do without the Call Queue, that is the items, owners,
outputs, codes and counters, and the frames offered to the transmit queues. `jobs`: also the Call Queue. `judgement`:
also the alert records and the general alarm's items. `part`: anything. -/
inductive Extent where
  | items | jobs | judgement | part

/-- What a run keeps of the Call Queue. -/
def Extent.keepsCalls : Extent → State → State → Prop
  | .items, s, t => t.calls = s.calls ∧ t.nextStamp = s.nextStamp
  | .jobs, s, t | .judgement, s, t | .part, s, t => CallsOk s → CallsOk t

/-- The part of the state that a run does not change. -/
def Extent.keepsFrame : Extent → State → State → Prop
  | .items, s, t | .jobs, s, t => t.core = s.core
  | .judgement, s, t => t.kept = s.kept
  | .part, _, _ => True

/-- A run of operations of extent `e` leads from `s` to `t`. -/
structure Orderly (e : Extent) (s t : State) : Prop where
  queues : QueuesOk s → QueuesOk t
  calls : e.keepsCalls s t
  frame : e.keepsFrame s t

section Extents

variable {e : Extent} {s t u : State}

namespace Extent

theorem keepsCalls.of_eq (hc : t.calls = s.calls) (hn : t.nextStamp = s.nextStamp) : e.keepsCalls s t := by
  cases e with
  | items => exact ⟨hc, hn⟩
  | jobs | judgement | part => exact CallsOk.congr hc hn

theorem keepsCalls.trans (h : e.keepsCalls s t) (k : e.keepsCalls t u) : e.keepsCalls s u := by
  cases e with
  | items => exact ⟨k.1.trans h.1, k.2.trans h.2⟩
  | jobs | judgement | part => exact k ∘ h

theorem keepsCalls.callsOk (h : e.keepsCalls s t) (hs : CallsOk s) : CallsOk t := by
  cases e with
  | items => exact hs.congr h.1 h.2
  | jobs | judgement | part => exact h hs

theorem keepsFrame.of_core (h : t.core = s.core) : e.keepsFrame s t := by
  cases e with
  | items | jobs => exact h
  | judgement => exact congrArg Prod.fst h
  | part => exact trivial

theorem keepsFrame.trans (h : e.keepsFrame s t) (k : e.keepsFrame t u) : e.keepsFrame s u := by
  cases e with
  | items | jobs | judgement => exact Eq.trans k h
  | part => exact trivial

end Extent

namespace Orderly

protected theorem refl : Orderly e s s := ⟨id, .of_eq rfl rfl, .of_core rfl⟩

protected theorem trans (h : Orderly e s t) (k : Orderly e t u) : Orderly e s u :=
  ⟨k.queues ∘ h.queues, h.calls.trans k.calls, h.frame.trans k.frame⟩

theorem callsOk (h : Orderly e s t) : CallsOk s → CallsOk t := h.calls.callsOk

/-- What the jobs do is part of a judgement. -/
theorem toJudgement (h : Orderly .jobs s t) : Orderly .judgement s t :=
  ⟨h.queues, h.calls, congrArg Prod.fst h.frame⟩

/-- Every run is a run of the part. -/
theorem toPart (h : Orderly e s t) : Orderly .part s t := ⟨h.queues, h.callsOk, trivial⟩

/-- A change outside the core, the port units and the Call Queue. -/
theorem then_eq (h : Orderly e s t) (core : u.core = t.core := by simp) (ports : u.ports = t.ports := by simp)
    (calls : u.calls = t.calls := by simp) (stamp : u.nextStamp = t.nextStamp := by simp) : Orderly e s u :=
  h.trans ⟨.congr ports, .of_eq calls stamp, .of_core core⟩

/-- A change outside the port units and the Call Queue. -/
theorem then_part (h : Orderly .part s t) (ports : u.ports = t.ports := by simp) (calls : u.calls = t.calls := by simp)
    (stamp : u.nextStamp = t.nextStamp := by simp) : Orderly .part s u :=
  h.trans ⟨.congr ports, .of_eq calls stamp, trivial⟩

protected theorem foldl {α : Type} {l : List α} {f : State → α → State} (h : Orderly e s t)
    (hf : ∀ t x, Orderly e t (f t x)) : Orderly e s (l.foldl f t) := by
  induction l generalizing t with
  | nil => exact h
  | cons x l ih => exact ih (h.trans (hf t x))

/-- Either branch of a test. -/
protected theorem ite {c : Prop} [Decidable c] {u : State} (ht : Orderly e s t) (hu : Orderly e s u) :
    Orderly e s (if c then t else u) := by
  split
  · exact ht
  · exact hu

end Orderly

end Extents

/-! ## Transmit queues (R12 to R14) -/

section Transmit

variable {s : State} {p : Port}

/-- A port unit whose queues stay within their capacities. -/
theorem QueuesOk.modPort {f : PortUnit → PortUnit} (h : QueuesOk s)
    (hf : (f (s.port p)).rx.length ≤ 16 ∧ (f (s.port p)).tx.length ≤ txCapacity p) : QueuesOk (s.modPort p f) := by
  intro q
  by_cases hq : p = q
  · subst hq
    simpa [State.port] using hf
  · simpa [State.port, ByPort.at_put, hq] using h q

theorem length_nextToSend {q rest : List TxEntry} {e : TxEntry} (h : nextToSend q = some (e, rest)) :
    rest.length ≤ q.length := by
  unfold nextToSend at h
  split at h
  · obtain ⟨-, rfl⟩ := Prod.mk.inj (Option.some.inj h)
    exact List.eraseP_sublist.length_le
  · split at h
    · cases h
    · obtain ⟨-, rfl⟩ := Prod.mk.inj (Option.some.inj h)
      simp

theorem QueuesOk.startTransmission (h : QueuesOk s) : QueuesOk (startTransmission p s) := by
  unfold Machine.startTransmission
  dsimp only
  split
  · split
    · exact h
    · next hn => exact h.modPort ⟨(h p).1, (length_nextToSend hn).trans (h p).2⟩
  · exact h

theorem length_replaceSpeed (new : TxEntry) (q : List TxEntry) : (replaceSpeed new q).length = q.length := by
  induction q with
  | nil => rfl
  | cons e q ih =>
    unfold replaceSpeed
    split <;> simp [ih]

theorem txLimit_le_txCapacity (p : Port) (cls : TxClass) : txLimit p cls ≤ txCapacity p := by
  cases p <;> cases cls <;> decide

/-- A queue that does not refuse a frame has a place for it (R13). -/
theorem length_lt_of_not_txRefuses {cls : TxClass} (h : ¬txRefuses p cls s = true) :
    (s.port p).tx.length < txCapacity p := by
  have hl : (s.port p).tx.length < txLimit p cls := by simp_all [txRefuses]
  exact hl.trans_le (txLimit_le_txCapacity p cls)

theorem QueuesOk.offerTx {cls : TxClass} {f : TxFrame} (h : QueuesOk s) : QueuesOk (offerTx p cls f s).2 := by
  unfold Machine.offerTx
  dsimp only
  split
  · exact h.modPort ⟨(h p).1, by simpa only [length_replaceSpeed] using (h p).2⟩
  · split
    · exact h.congr (by simp)
    · next hr =>
      refine (h.modPort ⟨(h p).1, ?_⟩).startTransmission
      simpa using length_lt_of_not_txRefuses hr

end Transmit

/-! ## The shared operations -/

namespace Orderly

variable {e : Extent} {s t : State}

protected theorem modCode (h : Orderly e s t) {c f} : Orderly e s (t.modCode c f) := h.then_eq
protected theorem modZone (h : Orderly e s t) {z f} : Orderly e s (t.modZone z f) := h.then_eq
protected theorem modDoor (h : Orderly e s t) {d f} : Orderly e s (t.modDoor d f) := h.then_eq
protected theorem modRamp (h : Orderly e s t) {r f} : Orderly e s (t.modRamp r f) := h.then_eq
protected theorem modZoneLine (h : Orderly e s t) {z f} : Orderly e s (t.modZoneLine z f) := h.then_eq
protected theorem setLatch (h : Orderly e s t) {c a} : Orderly e s (setLatch c a t) := h.modCode
protected theorem clearLatch (h : Orderly e s t) {c} : Orderly e s (clearLatch c t) := h.modCode
protected theorem raiseCode (h : Orderly e s t) {x} : Orderly e s (raiseCode x t) := h.then_eq
protected theorem raiseInternal (h : Orderly e s t) {c a z d} : Orderly e s (raiseInternal c a z d t) := h.then_eq
protected theorem bump (h : Orderly e s t) {set i n} : Orderly e s (bump set i n t) := h.then_eq
protected theorem bumpPort (h : Orderly e s t) {p i} : Orderly e s (bumpPort p i t) := h.then_eq
protected theorem bumpGlobal (h : Orderly e s t) {i} : Orderly e s (bumpGlobal i t) := h.then_eq
protected theorem claim (h : Orderly e s t) {a o} : Orderly e s (claim a o t).2 := h.then_eq
protected theorem release? (h : Orderly e s t) {a o} : Orderly e s (release? a o t) := h.then_eq
protected theorem orderEnable (h : Orderly e s t) {r on} : Orderly e s (orderEnable r on t) := h.then_eq
protected theorem orderDoorHold (h : Orderly e s t) {z on} : Orderly e s (orderDoorHold z on t) := h.then_eq

protected theorem reportCondition (h : Orderly e s t) {src c b a} : Orderly e s (reportCondition src c b a t) :=
  h.then_eq (core := by rw [reportCondition_frame]; rfl)

protected theorem offerTx (h : Orderly e s t) {p cls f} : Orderly e s (offerTx p cls f t).2 :=
  h.trans ⟨.offerTx, .of_eq (sendTx_calls t p cls f) (sendTx_nextStamp t p cls f),
    .of_core (sendTx_core t p cls f)⟩

protected theorem sendTx (h : Orderly e s t) {p cls f} : Orderly e s (sendTx p cls f t) := h.offerTx

protected theorem jobCommand (h : Orderly e s t) {a b} : Orderly e s (jobCommand a b t) := by
  unfold Machine.jobCommand
  split
  · exact h.sendTx
  · exact h.bumpPort

protected theorem jobCommand? (h : Orderly e s t) {a b} : Orderly e s (jobCommand? a b t) := by
  cases a with
  | none => exact h
  | some a => exact h.jobCommand

end Orderly
end Sys2Proof.Machine

namespace Sys2Proof.Machine.Orderly

variable {e : Extent} {s t : State}

/-! ## Ramps, all that starts no call -/

protected theorem sendSpeed (h : Orderly e s t) {r out} : Orderly e s (sendSpeed r out t) := h.jobCommand?
protected theorem sendEnable (h : Orderly e s t) {r} : Orderly e s (sendEnable r t) := h.jobCommand?
protected theorem sendDisable (h : Orderly e s t) {r} : Orderly e s (sendDisable r t) := h.jobCommand?
protected theorem releaseDrive (h : Orderly e s t) {r} : Orderly e s (releaseDrive r t) := h.release?
protected theorem raiseRamp (h : Orderly e s t) {r c d} : Orderly e s (raiseRamp r c d t) := h.raiseInternal

protected theorem holdRamp (h : Orderly e s t) {r cause} : Orderly e s (holdRamp r cause t) := by
  unfold Machine.holdRamp
  split
  · exact h.modRamp.sendSpeed.raiseRamp
  · exact h.modRamp.sendSpeed.raiseRamp
  · exact h.modRamp.sendSpeed.sendDisable.orderEnable.releaseDrive.raiseRamp
  · exact h

protected theorem holdAll (h : Orderly e s t) {cause} : Orderly e s (holdAll cause t) :=
  h.foldl fun _ _ => Orderly.refl.holdRamp

protected theorem faultRamp (h : Orderly e s t) {r reason} : Orderly e s (faultRamp r reason t) := by
  unfold Machine.faultRamp
  split
  · exact h.modRamp.sendSpeed.sendDisable.orderEnable.raiseRamp
  · exact h

protected theorem enterMoving (h : Orderly e s t) {r} : Orderly e s (enterMoving r t) :=
  h.orderEnable.sendEnable.modRamp

protected theorem rampNotice (h : Orderly e s t) {r ref} : Orderly e s (rampNotice r ref t) := by
  unfold Machine.rampNotice
  exact .ite h.modRamp.enterMoving h

protected theorem endMotion (h : Orderly e s t) {r c} : Orderly e s (endMotion r c t) :=
  h.modRamp.sendSpeed.sendDisable.orderEnable.releaseDrive.raiseRamp

protected theorem endHoming (h : Orderly e s t) {r} : Orderly e s (endHoming r t) :=
  .ite h.modRamp.sendSpeed.sendDisable.orderEnable.releaseDrive.raiseRamp h

protected theorem fireChanged (h : Orderly e s t) {z} : Orderly e s (fireChanged z t) :=
  h.foldl fun _ _ => .ite Orderly.refl.holdRamp .refl

protected theorem driveReport (h : Orderly e s t) {r old new} : Orderly e s (driveReport r old new t) :=
  .ite h.faultRamp (.ite h.endHoming (.ite h.holdRamp (.ite h.holdRamp h)))

protected theorem driveSilent (h : Orderly e s t) {r} : Orderly e s (driveSilent r t) := h.faultRamp

protected theorem encoderRise (h : Orderly e s t) {r} : Orderly e s (encoderRise r t) :=
  .ite h.modRamp.faultRamp h.modRamp

protected theorem encoderPin (h : Orderly e s t) {fn high} : Orderly e s (encoderPin fn high t) := by
  unfold Machine.encoderPin
  split
  · exact .ite h.encoderRise h
  · exact h.modRamp
  · exact h

protected theorem superviseRamp (h : Orderly e s t) {r} : Orderly e s (superviseRamp r t) := by
  unfold Machine.superviseRamp
  dsimp only
  split
  · exact h.modRamp.faultRamp
  · exact h.modRamp

protected theorem motionLaw (h : Orderly e s t) {r} : Orderly e s (motionLaw r t) :=
  .ite h.endMotion (.ite h.endMotion h.modRamp.sendSpeed.superviseRamp)

protected theorem controlPeriod (h : Orderly e s t) {r} : Orderly e s (controlPeriod r t) := by
  unfold Machine.controlPeriod
  split
  · dsimp only
    split
    · exact h.modRamp.motionLaw
    · exact h.modRamp.sendSpeed.superviseRamp
    · exact h.modRamp
  · exact h

/-! ## Zones and doors, all that starts no call -/

protected theorem raiseZone (h : Orderly e s t) {z c a n} : Orderly e s (raiseZone z c a n t) := h.raiseInternal
protected theorem raisePartial (h : Orderly e s t) {z a n} : Orderly e s (raisePartial z a n t) := h.raiseZone
protected theorem refreshRest (h : Orderly e s t) {z} : Orderly e s (refreshRest z t) := .ite h.modZone h
protected theorem changeDoor (h : Orderly e s t) {d f} : Orderly e s (changeDoor d f t) := h.modDoor.refreshRest
protected theorem settleDoor (h : Orderly e s t) {d} : Orderly e s (settleDoor d t) := h.changeDoor
protected theorem failDoor (h : Orderly e s t) {d} : Orderly e s (failDoor d t) := h.changeDoor
protected theorem sendClose (h : Orderly e s t) {d} : Orderly e s (sendClose d t) := h.changeDoor.jobCommand?
protected theorem sendOpen (h : Orderly e s t) {d} : Orderly e s (sendOpen d t) := h.changeDoor.jobCommand?

protected theorem claimDoor (h : Orderly e s t) {z d} : Orderly e s (claimDoor z d t).2 := by
  unfold Machine.claimDoor
  split
  · exact h
  · exact h.claim

protected theorem claimMembers (h : Orderly e s t) {z} : Orderly e s (claimMembers z t) :=
  h.foldl fun _ _ => Orderly.refl.claimDoor.modDoor

protected theorem releaseMembers (h : Orderly e s t) {z} : Orderly e s (releaseMembers z t) :=
  h.foldl fun _ _ => Orderly.refl.release?

protected theorem enterRest (h : Orderly e s t) {z} : Orderly e s (enterRest z t) := h.modZone

protected theorem endClose (h : Orderly e s t) {z} : Orderly e s (endClose z t) := by
  have freed := h.releaseMembers (z := z)
  have rest := (freed.foldl (l := members (releaseMembers z t) z)
    (f := fun s d => s.modDoor d fun x => { x with skipped := .no }) fun _ _ => Orderly.refl.modDoor).enterRest (z := z)
  exact .ite rest.raiseZone rest.raisePartial

protected theorem judgeCloseEnd (h : Orderly e s t) {z} : Orderly e s (judgeCloseEnd z t) := .ite h.endClose h

protected theorem closingDoor (h : Orderly e s t) {z d} : Orderly e s (closingDoor z d t) :=
  .ite h (.ite h.modDoor (.ite h h.sendClose))

protected theorem enterClosing (h : Orderly e s t) {z} : Orderly e s (enterClosing z t) :=
  (h.orderDoorHold.modZone.foldl fun _ _ => Orderly.refl.closingDoor).judgeCloseEnd

protected theorem countdownOver (h : Orderly e s t) {z} : Orderly e s (countdownOver z t) :=
  .ite h.enterClosing h.modZone

protected theorem enterCountdown (h : Orderly e s t) {z} : Orderly e s (enterCountdown z t) :=
  .ite h.modZone.countdownOver h.modZone

protected theorem zoneNotice (h : Orderly e s t) {z ref b} : Orderly e s (zoneNotice z ref b t) := by
  refine .ite (Orderly.enterCountdown ?_) h
  exact .ite h.modZone h.modZone.raisePartial

protected theorem setClear (h : Orderly e s t) {z} : Orderly e s (setClear z t) :=
  .ite h (.ite h.modZone.enterClosing h.modZone)

protected theorem cancelMotions (h : Orderly e s t) {z cmd} : Orderly e s (cancelMotions z cmd t) :=
  h.foldl fun _ _ => .ite Orderly.refl.settleDoor .refl

protected theorem abandonOpening (h : Orderly e s t) {z} : Orderly e s (abandonOpening z t) :=
  .ite h.cancelMotions.releaseMembers.enterRest h

/-! ## Notices (R137) -/

protected theorem notify (h : Orderly e s t) {c n} : Orderly e s (notify c n t) := by
  unfold Machine.notify
  split
  · exact h.zoneNotice
  · exact h.rampNotice
  · exact h
  · exact h
  · exact h

end Sys2Proof.Machine.Orderly

namespace Sys2Proof.Machine

/-! ## The Call Queue (R126, R127) -/

section CallQueue

variable {s t : State}

/-- The change of a record keeps what places it in the queue and tells it from the others. -/
def KeepsPlace (f : CallRecord → CallRecord) : Prop :=
  ∀ c, (f c).priority = c.priority ∧ (f c).stamp = c.stamp ∧ (f c).origin = c.origin ∧ (f c).message = c.message

theorem CallsOk.modCall (h : CallsOk s) (k : Nat) {f : CallRecord → CallRecord} (hf : KeepsPlace f) :
    CallsOk (s.modCall k f) := by
  obtain ⟨hlen, hord, hone, hnew⟩ := h
  have hg : KeepsPlace fun c => if c.stamp = k then f c else c := by
    intro c
    dsimp only
    split
    · exact hf c
    · exact ⟨rfl, rfl, rfl, rfl⟩
  refine ⟨by simpa using hlen, ?_, ?_, ?_⟩
  · refine List.pairwise_map.2 (hord.imp fun {a b} hab => ?_)
    obtain ⟨pa, sa, -, -⟩ := hg a
    obtain ⟨pb, sb, -, -⟩ := hg b
    simpa only [callBefore, pa, sa, pb, sb] using hab
  · refine List.pairwise_map.2 (hone.imp fun {a b} hab => ?_)
    obtain ⟨-, -, oa, ma⟩ := hg a
    obtain ⟨-, -, ob, mb⟩ := hg b
    simpa only [oa, ma, ob, mb] using hab
  · intro c hc
    obtain ⟨c, hmem, rfl⟩ := List.mem_map.1 hc
    exact (hg c).2.1.trans_lt (hnew c hmem)

theorem CallsOk.removeCall (h : CallsOk s) (k : Nat) : CallsOk (removeCall k s) := by
  obtain ⟨hlen, hord, hone, hnew⟩ := h
  exact ⟨(List.length_filter_le _ _).trans hlen, hord.filter _, hone.filter _,
    fun c hc => hnew c (List.mem_filter.1 hc).1⟩

theorem insertCall_perm (c : CallRecord) (l : List CallRecord) : (insertCall c l).Perm (c :: l) := by
  induction l with
  | nil => exact .refl _
  | cons x l ih =>
    unfold insertCall
    split
    · exact .refl _
    · exact (ih.cons x).trans (.swap c x l)

/-- A record later than every other is put in its place. -/
theorem pairwise_insertCall {c : CallRecord} {l : List CallRecord} (hl : l.Pairwise callBefore)
    (hc : ∀ x ∈ l, x.stamp < c.stamp) : (insertCall c l).Pairwise callBefore := by
  induction l with
  | nil => exact List.pairwise_singleton _ _
  | cons x l ih =>
    obtain ⟨hx, hl'⟩ := List.pairwise_cons.1 hl
    unfold insertCall
    split
    · next hlt =>
      refine List.pairwise_cons.2 ⟨fun y hy => .inl ?_, hl⟩
      rcases List.mem_cons.1 hy with rfl | hy
      · exact hlt
      · rcases hx y hy with hxy | ⟨hxy, -⟩ <;> omega
    · next hge =>
      have hcx : callBefore x c := by
        have := hc x List.mem_cons_self
        unfold callBefore; omega
      refine List.pairwise_cons.2 ⟨fun y hy => ?_, ih hl' fun y hy => hc y (List.mem_cons_of_mem _ hy)⟩
      rcases List.mem_cons.1 ((insertCall_perm c l).mem_iff.1 hy) with rfl | hy
      · exact hcx
      · exact hx y hy

/-- A request of a new origin and message enters a queue with a place. -/
theorem CallsOk.enterCall {q : CallRequest} (h : CallsOk s) (hroom : s.calls.length < 16)
    (hone : ∀ c ∈ s.calls, ¬(c.origin = q.origin ∧ c.message = q.message)) : CallsOk (enterCall q s) := by
  obtain ⟨hlen, hord, huniq, hnew⟩ := h
  have hperm := insertCall_perm (newCall q s.nextStamp) s.calls
  refine ⟨hperm.length_eq.trans_le (by simpa using hroom), pairwise_insertCall hord hnew, ?_, fun c hc => ?_⟩
  · refine (hperm.pairwise_iff fun hab => by tauto).2 (List.pairwise_cons.2 ⟨fun c hc => ?_, huniq⟩)
    exact fun ⟨ho, hm⟩ => hone c hc ⟨ho.symm, hm.symm⟩
  · rcases List.mem_cons.1 (hperm.mem_iff.1 hc) with rfl | hc
    · exact Nat.lt_succ_self _
    · exact (hnew c hc).trans (Nat.lt_succ_self _)

theorem evictedFirst_mem {l : List CallRecord} (a : CallRecord) : l.foldl evictedFirst a ∈ a :: l := by
  induction l generalizing a with
  | nil => exact List.mem_singleton.2 rfl
  | cons x l ih =>
    have hx : evictedFirst a x = a ∨ evictedFirst a x = x := by
      unfold evictedFirst; split_ifs <;> simp
    rw [List.foldl_cons]
    rcases List.mem_cons.1 (ih (evictedFirst a x)) with heq | hmem
    · rw [heq]
      rcases hx with hx | hx <;> simp [hx]
    · simp [hmem]

/-- The record that would be evicted waits in the queue (R127). -/
theorem evictable_mem {old : CallRecord} (h : evictable s = some old) : old ∈ s.calls := by
  unfold evictable at h
  split at h
  · cases h
  · next c rest hw =>
    obtain rfl := Option.some.inj h
    have := evictedFirst_mem (l := rest) c
    rw [← hw] at this
    exact (List.mem_filter.1 this).1

/-- The removal of a record makes room. -/
theorem length_removeCall_lt {c : CallRecord} (hc : c ∈ s.calls) :
    (removeCall c.stamp s).calls.length < s.calls.length :=
  List.length_filter_lt_length_iff_exists.2 ⟨c, hc, by simp⟩

end CallQueue

namespace Orderly

variable {s t : State}

protected theorem modCall (h : Orderly .jobs s t) {k f} (hf : KeepsPlace f := by intro; exact ⟨rfl, rfl, rfl, rfl⟩) :
    Orderly .jobs s (t.modCall k f) :=
  h.trans ⟨.congr rfl, fun hc => hc.modCall k hf, rfl⟩

protected theorem removeCall (h : Orderly .jobs s t) {k} : Orderly .jobs s (removeCall k t) :=
  h.trans ⟨.congr rfl, fun hc => hc.removeCall k, rfl⟩

/-- A request enters the queue of `u`, which differs from `t` in items alone: `t` is the state as an eviction has
thinned it out, `u` the state after its notice (R127). -/
protected theorem enterCall {u : State} {q} (h : Orderly .jobs s t) (k : Orderly .items t u)
    (hroom : CallsOk s → t.calls.length < 16)
    (hone : ∀ c ∈ t.calls, ¬(c.origin = q.origin ∧ c.message = q.message)) : Orderly .jobs s (enterCall q u) := by
  obtain ⟨hcalls, -⟩ := k.calls
  refine ⟨fun hq => (k.queues (h.queues hq)).congr rfl, fun hc => ?_, Eq.trans k.frame h.frame⟩
  exact (k.callsOk (h.callsOk hc)).enterCall (hcalls ▸ hroom hc) (hcalls ▸ hone)

/-! ## Zone lines and calls -/

protected theorem dropLines {e : Extent} (h : Orderly e s t) {k} : Orderly e s (dropLines k t) :=
  h.foldl fun _ _ => Orderly.refl.modZoneLine

protected theorem completeCall (h : Orderly .jobs s t) {k} : Orderly .jobs s (completeCall k t) := by
  unfold Machine.completeCall
  split
  · exact h
  · exact h.dropLines.removeCall.notify

protected theorem sendStop {e : Extent} (h : Orderly e s t) {z} : Orderly e s (sendStop z t) := h.jobCommand?

protected theorem releaseAmplifier {e : Extent} (h : Orderly e s t) {z} : Orderly e s (releaseAmplifier z t) :=
  h.release?

protected theorem stopLine {e : Extent} (h : Orderly e s t) {z} : Orderly e s (stopLine z t) := by
  unfold Machine.stopLine
  split
  · exact h.modZoneLine.sendStop
  · exact h.modZoneLine.sendStop
  · exact h.modZoneLine

protected theorem dropZone (h : Orderly .jobs s t) {k z} : Orderly .jobs s (dropZone k z t) := h.modCall

protected theorem failLine (h : Orderly .jobs s t) {z cause} : Orderly .jobs s (failLine z cause t) := by
  unfold Machine.failLine
  refine .ite h (Orderly.raiseInternal ?_)
  split
  · exact (Orderly.ite h.sendStop h).modZoneLine.releaseAmplifier
  · exact (Orderly.ite h.sendStop h).modZoneLine.releaseAmplifier.dropZone

protected theorem playLine (h : Orderly .jobs s t) {c z} : Orderly .jobs s (playLine c z t) := by
  unfold Machine.playLine
  split
  · exact h.failLine
  · exact .ite h.claim.modZoneLine.jobCommand h.claim.failLine

protected theorem tryPlay (h : Orderly .jobs s t) {k} : Orderly .jobs s (tryPlay k t) := by
  unfold Machine.tryPlay
  split
  · exact h
  · refine .ite ?_ h
    dsimp only
    split
    · exact (h.foldl fun _ _ => Orderly.refl.playLine).modCall
    · exact .ite (h.foldl fun _ _ => Orderly.refl.playLine).modCall.completeCall
        (h.foldl fun _ _ => Orderly.refl.playLine).modCall

protected theorem restartCall (h : Orderly .jobs s t) {k} : Orderly .jobs s (restartCall k t) := h.modCall.tryPlay

protected theorem endRepetition (h : Orderly .jobs s t) {k} : Orderly .jobs s (endRepetition k t) := by
  unfold Machine.endRepetition
  split
  · exact h
  · exact .ite h.modCall.completeCall (.ite h.modCall.restartCall h.modCall.modCall)

protected theorem refreshCall (h : Orderly .jobs s t) {k} : Orderly .jobs s (refreshCall k t) := by
  unfold Machine.refreshCall
  split
  · exact h
  · refine .ite h.completeCall ?_
    split
    · exact h
    · exact h
    · exact .ite h h.modCall
    · exact .ite h.tryPlay (.ite h.modCall (.ite h.modCall h.endRepetition))
    · exact .ite h.tryPlay (.ite h.modCall (.ite h.modCall h.endRepetition))

/-! ## The arbitration pass -/

protected theorem preemptCall (h : Orderly .jobs s t) {k wanted winner} :
    Orderly .jobs s (preemptCall k wanted winner t) := by
  refine Orderly.modCall (Orderly.foldl (h.modCall.foldl fun _ _ => Orderly.refl.stopLine) fun _ _ => ?_)
  exact .ite Orderly.refl.modZoneLine (.ite Orderly.refl.modZoneLine .refl)

protected theorem takeLines (h : Orderly .jobs s t) {wanted winner} : Orderly .jobs s (takeLines wanted winner t) := by
  refine h.foldl fun _ _ => ?_
  split
  · exact Orderly.refl.modZoneLine
  · exact .ite .refl Orderly.refl.preemptCall

protected theorem startCall (h : Orderly .jobs s t) {c} : Orderly .jobs s (startCall c t) := by
  have sound : Orderly .jobs s (dropFaultZones c t) := .ite h h.modCall
  exact .ite sound.completeCall sound.takeLines.restartCall

protected theorem growCall (h : Orderly .jobs s t) {c reserved} : Orderly .jobs s (growCall c reserved t).2 := by
  unfold Machine.growCall
  dsimp only
  split
  · exact h
  · exact (h.foldl fun _ _ => .ite Orderly.refl.dropZone .refl).takeLines.refreshCall

protected theorem judgeCall (h : Orderly .jobs s t) {k reserved} : Orderly .jobs s (judgeCall k reserved t).2 := by
  unfold Machine.judgeCall
  split
  · exact h
  · split
    · dsimp only
      split
      · exact h.startCall
      · exact h
    · exact h.growCall
    · exact h.growCall
    · exact h.growCall
    · exact h

/-- The walk of a pass, from any zones reserved. -/
theorem walk {ks : List Nat} {reserved : List ZoneId} (h : Orderly .jobs s t) :
    Orderly .jobs s (ks.foldl (fun (x : List ZoneId × State) k => judgeCall k x.1 x.2) (reserved, t)).2 := by
  induction ks generalizing reserved t with
  | nil => exact h
  | cons k ks ih => exact ih h.judgeCall

protected theorem onePass (h : Orderly .jobs s t) : Orderly .jobs s (onePass t) := h.walk

protected theorem arbitrateFor (h : Orderly .jobs s t) {n} : Orderly .jobs s (arbitrateFor n t) := by
  induction n generalizing t with
  | zero => exact h
  | succ n ih => exact .ite h.onePass (ih h.onePass)

protected theorem arbitrate (h : Orderly .jobs s t) : Orderly .jobs s (arbitrate t) := h.arbitrateFor

/-! ## Requests for calls, and what happens on a line -/

protected theorem requestCall (h : Orderly .jobs s t) {q} : Orderly .jobs s (requestCall q t).2 := by
  refine h.trans ?_
  unfold Machine.requestCall
  split
  · exact .refl
  · split
    · exact Orderly.refl.modCall
    · next hnew =>
      have hone : ∀ c ∈ t.calls, ¬(c.origin = q.origin ∧ c.message = q.message) := by
        simpa using hnew
      split
      · next hroom => exact Orderly.refl.enterCall .refl (fun _ => hroom) hone
      · split
        · exact .refl
        · next old hold =>
          split
          · have hmem := evictable_mem hold
            refine Orderly.refl.removeCall.enterCall Orderly.refl.notify (fun hc => ?_) fun c hc => ?_
            · exact (length_removeCall_lt hmem).trans_le hc.1
            · exact hone c (List.mem_filter.1 hc).1
          · exact .refl

protected theorem postCall (h : Orderly .jobs s t) {q} : Orderly .jobs s (postCall q t).2 := by
  unfold Machine.postCall
  dsimp only
  split
  · exact h.requestCall
  · exact h.requestCall.arbitrate

protected theorem cancelCall (h : Orderly .jobs s t) {o m} : Orderly .jobs s (cancelCall o m t).2 := by
  unfold Machine.cancelCall
  split
  · exact h
  · exact (h.foldl fun _ _ => Orderly.refl.stopLine).dropLines.removeCall.notify.arbitrate

protected theorem afterLine (h : Orderly .jobs s t) {carried} : Orderly .jobs s (afterLine carried t) := by
  unfold Machine.afterLine
  split
  · exact h.arbitrate
  · exact h.refreshCall.arbitrate

protected theorem lineFails (h : Orderly .jobs s t) {z cause} : Orderly .jobs s (lineFails z cause t) :=
  .ite h h.failLine.afterLine

protected theorem playingRises (h : Orderly .jobs s t) {z} : Orderly .jobs s (playingRises z t) :=
  .ite h.modZoneLine.afterLine h

protected theorem stoppingEnds (h : Orderly .jobs s t) {z} : Orderly .jobs s (stoppingEnds z t) := by
  refine (Orderly.ite ?_ ?_).afterLine
  · exact h.modZoneLine.releaseAmplifier.modZoneLine
  · exact h.modZoneLine.releaseAmplifier

protected theorem playingFalls (h : Orderly .jobs s t) {z} : Orderly .jobs s (playingFalls z t) := by
  unfold Machine.playingFalls
  dsimp only
  split
  · exact h.modZoneLine.releaseAmplifier.afterLine
  · exact h.stoppingEnds
  · exact h

protected theorem recoverLine (h : Orderly .jobs s t) {z} : Orderly .jobs s (recoverLine z t) :=
  .ite h.modZoneLine.arbitrate h

protected theorem amplifierReport (h : Orderly .jobs s t) {z old new} :
    Orderly .jobs s (amplifierReport z old new t) := by
  refine (Orderly.ite ?_ (.ite ?_ ?_)).recoverLine
  · exact (Orderly.ite h.lineFails h).playingRises
  · exact (Orderly.ite h.lineFails h).playingFalls
  · exact .ite h.lineFails h

protected theorem amplifierSupervision (h : Orderly .jobs s t) {z silent} :
    Orderly .jobs s (amplifierSupervision z silent t) := .ite h.lineFails h.recoverLine

end Orderly
end Sys2Proof.Machine

namespace Sys2Proof.Machine.Orderly

variable {s t u : State}

/-! ## Ramp requests and the clearance call -/

protected theorem enterClearing (h : Orderly .jobs s t) {r} : Orderly .jobs s (enterClearing r t) := by
  unfold Machine.enterClearing
  dsimp only
  split
  · exact h.modRamp.requestCall.modRamp.arbitrate
  · exact h.modRamp.requestCall.enterMoving

protected theorem clearanceOver (h : Orderly .jobs s t) {r} : Orderly .jobs s (clearanceOver r t) := by
  unfold Machine.clearanceOver
  refine .ite (Orderly.enterMoving ?_) h
  split
  · exact h.modRamp
  · exact h.modRamp.cancelCall

protected theorem claimDrive {e : Extent} (h : Orderly e s t) {r} : Orderly e s (claimDrive r t).2 := by
  unfold Machine.claimDrive
  split
  · exact h
  · exact h.claim

protected theorem disarmRamp (h : Orderly .jobs s t) {r} : Orderly .jobs s (disarmRamp r t) :=
  h.sendDisable.orderEnable.cancelCall

protected theorem referenceAtStowed (h : Orderly .jobs s t) {r} : Orderly .jobs s (referenceAtStowed r t) :=
  (Orderly.ite h.disarmRamp h).modRamp.releaseDrive.raiseRamp

protected theorem startHoming {e : Extent} (h : Orderly e s t) {r} : Orderly e s (startHoming r t) :=
  h.modRamp.orderEnable.sendEnable.sendSpeed.modRamp

protected theorem releaseRamp (h : Orderly .jobs s t) {r} : Orderly .jobs s (releaseRamp r t) :=
  h.disarmRamp.releaseDrive.modRamp

protected theorem rampHoldOffer (h : Orderly .jobs s t) {r} : Orderly .jobs s (rampHoldOffer r t) := by
  unfold Machine.rampHoldOffer
  split
  · exact h.holdRamp
  · exact h.holdAll

/-! ## Zone procedures -/

protected theorem awaitCall (h : Orderly .jobs s t) {z} : Orderly .jobs s (awaitCall z t) := by
  unfold Machine.awaitCall
  dsimp only
  split
  · exact h.requestCall.modZone.arbitrate
  · exact h.requestCall.raisePartial.enterCountdown

protected theorem enterCalling (h : Orderly .jobs s t) {z} : Orderly .jobs s (enterCalling z t) := h.modZone.awaitCall

protected theorem beginClose (h : Orderly .jobs s t) {z c} : Orderly .jobs s (beginClose z c t) :=
  h.modZone.claimMembers.enterCalling

protected theorem reverseOpening (h : Orderly .jobs s t) {z c} : Orderly .jobs s (reverseOpening z c t) :=
  h.modZone.cancelMotions.enterCalling

protected theorem abandonCall (h : Orderly .jobs s t) {z} : Orderly .jobs s (abandonCall z t) := by
  unfold Machine.abandonCall
  split
  · exact h.modZone
  · exact h.modZone.cancelCall

protected theorem upgradeDoor {e : Extent} (h : Orderly e s t) {d} : Orderly e s (upgradeDoor d t) :=
  .ite (Orderly.ite h.modDoor h).sendClose (.ite h.modDoor h)

protected theorem upgradeClose (h : Orderly .jobs s t) {z} : Orderly .jobs s (upgradeClose z t) := by
  unfold Machine.upgradeClose
  dsimp only
  split
  · exact h.modZone.abandonCall.awaitCall
  · exact .ite h.modZone.modZone.enterClosing h.modZone.modZone
  · exact h.modZone.foldl fun _ _ => Orderly.refl.upgradeDoor
  · exact h.modZone

protected theorem zoneCloseJudged (h : Orderly .jobs s t) {z c} : Orderly .jobs s (zoneCloseJudged z c t).2 := by
  unfold Machine.zoneCloseJudged
  dsimp only
  split
  case h_1 | h_2 | h_3 => exact h.beginClose
  case h_4 => exact h.reverseOpening
  case h_5 | h_6 | h_7 =>
    split
    · exact h.upgradeClose
    · exact h

protected theorem endOpen (h : Orderly .jobs s t) {z} : Orderly .jobs s (endOpen z t) :=
  .ite h.releaseMembers.enterRest.modZone.postCall h.releaseMembers.enterRest.modZone.postCall.raisePartial

protected theorem judgeOpenEnd (h : Orderly .jobs s t) {z} : Orderly .jobs s (judgeOpenEnd z t) := .ite h.endOpen h

protected theorem judgeEnd (h : Orderly .jobs s t) {z} : Orderly .jobs s (judgeEnd z t) := h.judgeCloseEnd.judgeOpenEnd

protected theorem enterOpening (h : Orderly .jobs s t) {z} : Orderly .jobs s (enterOpening z t) :=
  (h.modZone.orderDoorHold.foldl fun _ _ => .ite Orderly.refl.sendOpen .refl).judgeOpenEnd

protected theorem beginOpen (h : Orderly .jobs s t) {z} : Orderly .jobs s (beginOpen z t) := h.claimMembers.enterOpening

protected theorem reverseClose (h : Orderly .jobs s t) {z} : Orderly .jobs s (reverseClose z t) :=
  (h.abandonCall.modZone.cancelMotions.foldl fun _ _ => Orderly.refl.modDoor).enterOpening

protected theorem zoneOpenJudged (h : Orderly .jobs s t) {z} : Orderly .jobs s (zoneOpenJudged z t).2 := by
  unfold Machine.zoneOpenJudged
  dsimp only
  split
  · exact h
  · split
    case h_1 | h_2 | h_3 =>
      dsimp only
      exact h.beginOpen
    case h_4 => exact h
    case h_5 | h_6 | h_7 =>
      split
      · dsimp only
        exact h.reverseClose
      · exact h

protected theorem setFire {e : Extent} (h : Orderly e s t) {z a} : Orderly e s (setFire z a t) := by
  unfold Machine.setFire
  refine .ite h (Orderly.abandonOpening ?_)
  split
  · exact h.modZone.orderDoorHold.fireChanged
  · exact h.modZone.orderDoorHold.fireChanged.raiseCode

/-! ## Doors -/

protected theorem obstructDoor (h : Orderly .jobs s t) {d} : Orderly .jobs s (obstructDoor d t) :=
  .ite h.changeDoor h.changeDoor.postCall

protected theorem doorMotionReport (h : Orderly .jobs s t) {d old new} :
    Orderly .jobs s (doorMotionReport d old new t) :=
  .ite h.failDoor.judgeEnd (.ite h.changeDoor.judgeEnd (.ite h.changeDoor.judgeEnd (.ite h.obstructDoor h)))

protected theorem doorRestReport (h : Orderly .jobs s t) {d old new} : Orderly .jobs s (doorRestReport d old new t) :=
  .ite h h.changeDoor

protected theorem doorReport (h : Orderly .jobs s t) {d old new} : Orderly .jobs s (doorReport d old new t) :=
  .ite h.doorRestReport h.doorMotionReport

protected theorem doorSupervision {e : Extent} (h : Orderly e s t) {d} : Orderly e s (doorSupervision d t) := by
  unfold Machine.doorSupervision
  dsimp only
  split
  · exact h.changeDoor
  · exact h.changeDoor
  · exact h.changeDoor

protected theorem closeLimitOver (h : Orderly .jobs s t) {d} : Orderly .jobs s (closeLimitOver d t) :=
  .ite h.failDoor.judgeEnd h

protected theorem retryOver (h : Orderly .jobs s t) {d} : Orderly .jobs s (retryOver d t) :=
  .ite (.ite h.modDoor.sendClose h.failDoor.judgeEnd) h

protected theorem countdownExpires {e : Extent} (h : Orderly e s t) {z} : Orderly e s (countdownExpires z t) :=
  .ite h.countdownOver h

protected theorem callWaitOver (h : Orderly .jobs s t) {z} : Orderly .jobs s (callWaitOver z t) :=
  .ite h.abandonCall.raisePartial.enterCountdown h

protected theorem zonesEnterRun {e : Extent} (h : Orderly e s t) {b} : Orderly e s (zonesEnterRun b t) := by
  unfold Machine.zonesEnterRun
  dsimp only
  refine .ite (Orderly.foldl ?_ fun _ _ => .ite Orderly.refl.orderDoorHold .refl) ?_
  all_goals
    refine Orderly.foldl (Orderly.foldl (Orderly.foldl (h.foldl fun _ _ => .ite Orderly.refl.modDoor .refl)
      fun _ _ => Orderly.refl.refreshRest) fun _ _ => ?_) fun _ _ => Orderly.refl.fireChanged.raiseZone
    split
    · exact Orderly.refl.setFire
    · exact .refl

/-! ## Line and call timers -/

protected theorem startTimerOver (h : Orderly .jobs s t) {z} : Orderly .jobs s (startTimerOver z t) :=
  .ite h.lineFails h

protected theorem durationTimerOver (h : Orderly .jobs s t) {z} : Orderly .jobs s (durationTimerOver z t) :=
  .ite h.lineFails h

protected theorem stopTimerOver (h : Orderly .jobs s t) {z} : Orderly .jobs s (stopTimerOver z t) :=
  .ite h.stoppingEnds h

protected theorem gapTimerOver (h : Orderly .jobs s t) {k} : Orderly .jobs s (gapTimerOver k t) := by
  unfold Machine.gapTimerOver
  split
  · exact h
  · exact .ite h.restartCall.arbitrate h

/-! ## What the Classifier reports to the jobs (R19, R23) -/

protected theorem roleReport (h : Orderly .jobs s t) {a old new} : Orderly .jobs s (roleReport a old new t) := by
  unfold Machine.roleReport
  refine .ite ?_ h
  split
  · exact h.foldl fun _ _ => Orderly.refl.doorReport
  · exact h.foldl fun _ _ => Orderly.refl.driveReport
  · exact h.foldl fun _ _ => Orderly.refl.amplifierReport
  · split
    · exact h
    · exact .ite h.setFire h
  · split
    · exact h
    · exact .ite h.setClear h
  · exact h
  · exact h

protected theorem supervisionReport (h : Orderly .jobs s t) {a silent} :
    Orderly .jobs s (supervisionReport a silent t) := by
  unfold Machine.supervisionReport
  split
  · exact h.foldl fun _ _ => Orderly.refl.doorSupervision
  · exact .ite (h.foldl fun _ _ => Orderly.refl.driveSilent) h
  · exact h.foldl fun _ _ => Orderly.refl.amplifierSupervision
  · exact h
  · exact h
  · exact h
  · exact h

/-! ## Offers (R79) -/

protected theorem offerTo (h : Orderly .jobs s t) {c tgt} : Orderly .jobs s (offerTo c tgt t).2 := by
  unfold Machine.offerTo
  split
  · exact h.zoneCloseJudged
  · exact h.zoneCloseJudged
  · exact h.zoneOpenJudged
  · exact h.rampHoldOffer
  · exact h.postCall

end Sys2Proof.Machine.Orderly

namespace Sys2Proof.Machine.Orderly

variable {e : Extent} {s t u : State}

/-! ## The judgement of R78 -/

/-- A change outside the kept part, the port units and the Call Queue. -/
theorem then_kept (h : Orderly .judgement s t) (kept : u.kept = t.kept := by rfl) (ports : u.ports = t.ports := by rfl)
    (calls : u.calls = t.calls := by rfl) (stamp : u.nextStamp = t.nextStamp := by rfl) : Orderly .judgement s u :=
  h.trans ⟨.congr ports, .of_eq calls stamp, kept⟩

protected theorem modGa (h : Orderly .judgement s t) {f} : Orderly .judgement s (t.modGa f) := h.then_kept

protected theorem modAlerts (h : Orderly .judgement s t) {f} : Orderly .judgement s (t.modAlerts f) := h.then_kept

protected theorem sendAlert (h : Orderly e s t) {c n g a} : Orderly e s (sendAlert c n g a t) := h.sendTx.bumpGlobal

protected theorem acceptAlarm (h : Orderly .judgement s t) {o d} : Orderly .judgement s (acceptAlarm o d t) := by
  unfold Machine.acceptAlarm
  exact h.modGa.sendAlert.modAlerts

protected theorem acceptEscalation (h : Orderly .judgement s t) : Orderly .judgement s (acceptEscalation t) := by
  unfold Machine.acceptEscalation
  exact h.clearLatch.sendAlert.modAlerts

protected theorem acceptCode (h : Orderly .judgement s t) {c} : Orderly .judgement s (acceptCode c t) := by
  unfold Machine.acceptCode
  exact h.clearLatch.sendAlert.modAlerts

protected theorem nextAcceptance (h : Orderly .judgement s t) (hu : nextAcceptance t = some u) :
    Orderly .judgement s u := by
  unfold Machine.nextAcceptance at hu
  split at hu
  · cases hu
  · split at hu
    · exact Option.some.inj hu ▸ h.acceptAlarm
    · split at hu
      · exact Option.some.inj hu ▸ h.acceptEscalation
      · split at hu
        · cases hu
        · split at hu
          · exact Option.some.inj hu ▸ h.acceptCode
          · cases hu

protected theorem acceptFor (h : Orderly .judgement s t) {n} : Orderly .judgement s (acceptFor n t) := by
  induction n generalizing t with
  | zero => exact h
  | succ n ih =>
    unfold Machine.acceptFor
    split
    · exact h
    · next hu => exact ih (h.nextAcceptance hu)

protected theorem sendNotice (h : Orderly e s t) {c b} : Orderly e s (sendNotice c b t) := .ite h.sendAlert h

protected theorem actOnAnswer (h : Orderly e s t) {c ans} : Orderly e s (actOnAnswer c ans t) := by
  unfold Machine.actOnAnswer
  split
  · exact h.modCode
  · exact h.modCode.sendNotice
  · exact h.modCode.bumpGlobal.sendNotice

protected theorem offerCode (h : Orderly .jobs s t) {c} : Orderly .jobs s (offerCode c t) := h.offerTo.actOnAnswer

protected theorem offerFor (h : Orderly .jobs s t) {n} : Orderly .jobs s (offerFor n t) := by
  induction n generalizing t with
  | zero => exact h
  | succ n ih =>
    unfold Machine.offerFor
    split
    · exact h
    · exact ih h.offerCode

protected theorem judge (h : Orderly .judgement s t) : Orderly .judgement s (judge t) :=
  h.acceptFor.trans Orderly.refl.offerFor.toJudgement

protected theorem settleFor (h : Orderly .judgement s t) {n} : Orderly .judgement s (settleFor n t) := by
  induction n generalizing t with
  | zero => exact h
  | succ n ih => exact .ite (ih h.judge) h

/-- The judgement that ends every command. -/
theorem settle_judgement : Orderly .judgement t (settle t) := Orderly.refl.settleFor

protected theorem settle (h : Orderly .part s t) : Orderly .part s (settle t) := h.trans settle_judgement.toPart

/-! ## The general alarm and AUTONOMOUS -/

protected theorem alarmRaise (h : Orderly .judgement s t) {o d} : Orderly .judgement s (alarmRaise o d t).2 := by
  unfold Machine.alarmRaise
  split
  · exact h.bumpGlobal
  · split
    · split
      · exact h.bumpGlobal
      · dsimp only
        exact h.modGa
    · dsimp only
      exact h.modGa.trans Orderly.refl.postCall.holdAll.toJudgement

protected theorem alarmClear (h : Orderly .judgement s t) : Orderly .judgement s (alarmClear t) := by
  unfold Machine.alarmClear
  exact .ite (h.modGa.trans Orderly.refl.cancelCall.toJudgement) h

theorem dropAlerts (h : Orderly .judgement s t) : Orderly .judgement s { t with alerts := Alerts.empty } :=
  h.modAlerts (f := fun _ => Alerts.empty)

protected theorem repend (h : Orderly e s t) {r} : Orderly e s (repend t r) := .ite h.setLatch h

protected theorem discardRecords (h : Orderly .judgement s t) : Orderly .judgement s (discardRecords t) := by
  refine Orderly.dropAlerts (Orderly.clearLatch ?_)
  split
  · exact .ite (h.foldl fun _ _ => Orderly.refl.repend).modGa (h.foldl fun _ _ => Orderly.refl.repend)
  · exact h.foldl fun _ _ => Orderly.refl.repend

protected theorem enterAutonomous (h : Orderly .part s t) : Orderly .part s (enterAutonomous t) := by
  unfold Machine.enterAutonomous
  refine .ite (Orderly.holdAll ?_) h
  have inAutonomous : Orderly .part s { t with device := .autonomous } := h.then_part
  exact inAutonomous.trans Orderly.refl.discardRecords.toPart

protected theorem escalationOver (h : Orderly .part s t) : Orderly .part s (escalationOver t) := by
  unfold Machine.escalationOver
  split
  · exact h
  · refine .ite (Orderly.enterAutonomous (Orderly.bumpGlobal ?_)) h
    exact h.trans Orderly.refl.modAlerts.toPart

/-! ## Acknowledgement, overdue records, withdrawals and vector writes -/

protected theorem afterRemoval (h : Orderly e s t) : Orderly e s (afterRemoval t) := .ite h h.clearLatch

protected theorem ackCode (h : Orderly .judgement s t) {c} : Orderly .judgement s (ackCode c t) := by
  unfold Machine.ackCode
  refine .ite (.ite h.modAlerts.afterRemoval h.bumpGlobal) (.ite (.ite h.modAlerts h.bumpGlobal) ?_)
  exact .ite h.modAlerts.afterRemoval (.ite h.modAlerts.afterRemoval h.bumpGlobal)

protected theorem ackByte (h : Orderly .judgement s t) {b} : Orderly .judgement s (ackByte b t) := by
  unfold Machine.ackByte
  split
  · exact h.bumpGlobal
  · exact h.ackCode

protected theorem ackTimerOver (h : Orderly .judgement s t) {c} : Orderly .judgement s (ackTimerOver c t) := by
  unfold Machine.ackTimerOver
  split
  · exact h
  · exact h.modAlerts.bumpGlobal.setLatch

protected theorem withdrawCode (h : Orderly e s t) {c} : Orderly e s (withdrawCode c t).2 := by
  unfold Machine.withdrawCode
  dsimp only
  split
  · exact h.clearLatch
  · exact h

protected theorem writeVector (h : Orderly .part s t) {c x} : Orderly .part s (writeVector c x t) := by
  have written : Orderly .part s { t with vectors := Tab.put t.vectors c x } := h.then_part
  exact .ite written.clearLatch written.modCode

/-! ## The Timer Bank -/

protected theorem modTimer (h : Orderly .part s t) {ch f} : Orderly .part s (t.modTimer ch f) := h.then_part

protected theorem raiseChannel (h : Orderly e s t) {ch} : Orderly e s (raiseChannel ch t) := by
  unfold Machine.raiseChannel
  dsimp only
  split
  · exact h.raiseInternal
  · exact h.raiseInternal

protected theorem tickTime (h : Orderly .part s t) {ch} : Orderly .part s (tickTime ch t) :=
  .ite h.modTimer (.ite h.modTimer.raiseChannel h.modTimer.raiseChannel)

protected theorem tickWidth (h : Orderly .part s t) {ch} : Orderly .part s (tickWidth ch t) :=
  .ite (.ite h.modTimer h.modTimer.raiseChannel) h

protected theorem tickChannel (h : Orderly .part s t) {ch} : Orderly .part s (tickChannel ch t) := by
  unfold Machine.tickChannel
  refine .ite ?_ h
  dsimp only
  split
  · exact h.modTimer.tickTime
  · exact h.modTimer.tickTime
  · exact h.modTimer
  · exact h.modTimer.tickWidth

protected theorem channelSource (h : Orderly .part s t) {ch active} : Orderly .part s (channelSource ch active t) := by
  unfold Machine.channelSource
  refine .ite ?_ h
  split
  · exact h
  · exact h
  · exact .ite (.ite h.modTimer h.modTimer.raiseChannel) h
  · exact .ite (.ite h.modTimer h) h.modTimer

protected theorem sourceChanged (h : Orderly .part s t) {src active} : Orderly .part s (sourceChanged src active t) :=
  h.foldl fun _ _ => .ite Orderly.refl.channelSource .refl

/-! ## The Direct Line Unit -/

protected theorem setLineCount (h : Orderly .part s t) {c n} : Orderly .part s (setLineCount c n t) := by
  have counted : Orderly .part s { t with lineCounts := Tab.put t.lineCounts c n } := h.then_part
  exact .ite counted counted.reportCondition

protected theorem loopOpens (h : Orderly e s t) : Orderly e s (loopOpens t) := by
  have off : Orderly e s (deEnergiseEnables t) := h.then_eq rfl rfl rfl rfl
  exact off.holdAll

protected theorem judgeLoop (h : Orderly e s t) {before} : Orderly e s (judgeLoop before t) := .ite h.loopOpens h

protected theorem generalInChanged (h : Orderly .part s t) {n c active} :
    Orderly .part s (generalInChanged n c active t) := .ite h.setLineCount.raiseCode h.setLineCount

protected theorem modLine (h : Orderly .part s t) {n f} : Orderly .part s (t.modLine n f) := h.then_part

protected theorem lineChanges (h : Orderly .part s t) {n active} : Orderly .part s (lineChanges n active t) := by
  unfold Machine.lineChanges
  dsimp only
  refine Orderly.sourceChanged ?_
  split
  · exact h.modLine.generalInChanged
  · exact h.modLine.judgeLoop
  · exact .ite (h.modLine.trans Orderly.refl.alarmRaise.toPart) h.modLine
  · exact h.modLine

protected theorem readLine (h : Orderly .part s t) {n} : Orderly .part s (readLine n t) :=
  .ite h.modLine.lineChanges h.modLine

protected theorem pinTakes (h : Orderly .part s t) {n high} : Orderly .part s (pinTakes n high t) := by
  have taken : Orderly .part s { t with pins := Tab.put t.pins n high } := h.then_part
  exact .ite h (.ite taken.readLine taken.encoderPin)

protected theorem encoderChanges (h : Orderly .part s t) {n high} : Orderly .part s (encoderChanges n high t) := by
  have taken : Orderly .part s { t with pins := Tab.put t.pins n high } := h.then_part
  unfold Machine.encoderChanges
  split
  · exact h.pinTakes
  · exact taken.encoderPin

protected theorem sampleLine (h : Orderly .part s t) {n} : Orderly .part s (sampleLine n t) :=
  .ite (.ite h.modLine.modLine (.ite h.modLine.lineChanges h.modLine.modLine)) h

protected theorem loseReference (h : Orderly e s t) {r} : Orderly e s (loseReference r t) := h.modRamp

protected theorem encoderChange (h : Orderly e s t) {old new} : Orderly e s (encoderChange old new t) := by
  have give {t : State} (h : Orderly e s t) (fn : LineFn) :
      Orderly e s (match fn.encoderOf with | none => t | some r => loseReference r t) := by
    split
    · exact h
    · exact h.loseReference
  exact .ite h (give (give h old) new)

protected theorem recount (h : Orderly .part s t) {old new} : Orderly .part s (recount old new t) := by
  unfold Machine.recount
  refine .ite h ?_
  dsimp only
  split <;> split
  · exact h
  · exact h.setLineCount
  · exact h.setLineCount
  · exact h.setLineCount.setLineCount

protected theorem writeLine (h : Orderly .part s t) {n x} : Orderly .part s (writeLine n x t) := by
  unfold Machine.writeLine
  refine Orderly.encoderChange (Orderly.judgeLoop (Orderly.recount ?_))
  exact h.then_part rfl rfl rfl

end Sys2Proof.Machine.Orderly

namespace Sys2Proof.Machine

section Commands

variable {e : Extent} {s t : State}

namespace Orderly

/-! ## The Query Mirror -/

protected theorem modMirror (h : Orderly .part s t) {i f} : Orderly .part s (t.modMirror i f) := h.then_part

protected theorem fillMirror (h : Orderly .part s t) {a r src} : Orderly .part s (fillMirror a r src t) :=
  .ite (.ite h.modMirror.bumpGlobal h.modMirror) h

protected theorem invalidateStation (h : Orderly .part s t) {a} : Orderly .part s (invalidateStation a t) :=
  .ite h.modMirror h

protected theorem invalidateDeck (h : Orderly .part s t) {d} : Orderly .part s (invalidateDeck d t) :=
  h.then_part rfl rfl rfl

protected theorem invalidateAll (h : Orderly .part s t) : Orderly .part s (invalidateAll t) := h.then_part rfl rfl rfl

protected theorem ageMirror (h : Orderly .part s t) : Orderly .part s (ageMirror t) := h.then_part rfl rfl rfl

/-! ## The Classifier -/

protected theorem modStation (h : Orderly .part s t) {a f} : Orderly .part s (t.modStation a f) := h.then_part

protected theorem setMapCount (h : Orderly .part s t) {a c n} : Orderly .part s (setMapCount a c n t) := by
  have counted : Orderly .part s { t with mapCounts := Tab.put t.mapCounts c n } := h.then_part
  exact .ite counted counted.reportCondition

protected theorem judgeMap (h : Orderly .part s t) {a old new m} : Orderly .part s (judgeMap a old new m t) :=
  .ite h.setMapCount.raiseCode (.ite h.setMapCount h)

protected theorem timerReports (h : Orderly .part s t) {a old new} : Orderly .part s (timerReports a old new t) :=
  h.foldl fun _ _ => .ite Orderly.refl.sourceChanged .refl

/-- The jobs are told, then the Timer Bank. -/
theorem reports (h : Orderly .part s t) {a old new} :
    Orderly .part s (timerReports a old new (roleReport a old new t)) :=
  (h.trans Orderly.refl.roleReport.toPart).timerReports

protected theorem pointsBecome (h : Orderly .part s t) {a new} : Orderly .part s (pointsBecome a new t) := by
  unfold Machine.pointsBecome
  refine .ite h (.ite ?_ (Orderly.foldl ?_ fun _ _ => Orderly.refl.judgeMap))
  · exact h.modStation.reports
  · exact h.modStation.reports

theorem supervision (h : Orderly .part s t) {a silent} : Orderly .part s (supervisionReport a silent t) :=
  h.trans Orderly.refl.supervisionReport.toPart

protected theorem forwardUp (h : Orderly e s t) {f} : Orderly e s (forwardUp f t) := h.sendTx

protected theorem filterFrame (h : Orderly e s t) {p} : Orderly e s (filterFrame p t) := h.bumpPort

protected theorem hearStation (h : Orderly .part s t) {a} : Orderly .part s (hearStation a t) :=
  .ite h.modStation.supervision h.modStation

protected theorem takeState (h : Orderly .part s t) {a f r} : Orderly .part s (takeState a f r t) := by
  refine .ite (Orderly.forwardUp ?_) ?_
  all_goals
    refine .ite ?_ (Orderly.fillMirror ?_)
    · exact .ite h.modStation.pointsBecome h.modStation
    · exact .ite h.modStation.pointsBecome h.modStation

protected theorem takeReply (h : Orderly .part s t) {a f r} : Orderly .part s (takeReply a f r t) :=
  .ite h.forwardUp h.forwardUp.fillMirror

protected theorem deckFrame (h : Orderly .part s t) {d f} : Orderly .part s (deckFrame d f t) := by
  unfold Machine.deckFrame
  split
  · exact h.filterFrame
  · refine .ite ?_ (.ite h.filterFrame ?_)
    · split
      · exact h.filterFrame
      · exact h.forwardUp.bumpPort
    · split
      · exact h.hearStation.filterFrame
      · exact h.hearStation.takeState
      · exact h.hearStation.takeReply

protected theorem reject (h : Orderly e s t) {reason f} : Orderly e s (reject reason f t) :=
  h.bumpGlobal.bumpGlobal.sendTx

protected theorem sendDown (h : Orderly e s t) {a f} : Orderly e s (sendDown a f t) := by
  unfold Machine.sendDown
  split
  · exact h.reject
  · exact .ite h.offerTx h.offerTx.reject

protected theorem bridgeCommand (h : Orderly e s t) {a f} : Orderly e s (bridgeCommand a f t) :=
  .ite h.reject (.ite h.reject h.sendDown)

protected theorem bridgeQuery (h : Orderly e s t) {a f} : Orderly e s (bridgeQuery a f t) :=
  .ite h.reject (.ite h.bumpGlobal.sendTx h.bumpGlobal.sendDown)

protected theorem copyDown (h : Orderly e s t) {f} : Orderly e s (copyDown f t) :=
  .ite h.reject (.ite (Orderly.ite h.sendTx h).sendTx (.ite h.sendTx h))

protected theorem broadcast (h : Orderly e s t) {b f} : Orderly e s (broadcast b f t) := .ite h.reject h.copyDown

protected theorem stationFrame (h : Orderly e s t) {f} : Orderly e s (stationFrame f t) := by
  unfold Machine.stationFrame
  refine .ite ?_ h.filterFrame
  split
  · exact h.broadcast
  · exact .ite h.bridgeCommand h.bridgeQuery

protected theorem silenceStation (h : Orderly .part s t) {a} : Orderly .part s (silenceStation a t) :=
  h.modStation.supervision.invalidateStation.raiseInternal

protected theorem countSilence (h : Orderly .part s t) {a} : Orderly .part s (countSilence a t) :=
  .ite (.ite h.modStation.silenceStation h.modStation) h

protected theorem sampleStation (h : Orderly .part s t) {a} : Orderly .part s (sampleStation a t) :=
  h.modStation.pointsBecome

protected theorem countSample (h : Orderly .part s t) {a} : Orderly .part s (countSample a t) :=
  .ite h (.ite h.modStation.sampleStation h.modStation)

protected theorem reofferBusy (h : Orderly e s t) : Orderly e s (reofferBusy t) := h.then_eq rfl rfl rfl rfl

protected theorem superviseAll (h : Orderly .part s t) : Orderly .part s (superviseAll t) := by
  have started : Orderly .part s { t with supervisionDue := nextMultiple supervisionPeriod t.now } := h.then_part
  unfold Machine.superviseAll
  refine Orderly.foldl (Orderly.reofferBusy (Orderly.ageMirror ?_)) fun _ _ => Orderly.refl.recoverLine.toPart
  exact (started.foldl fun _ _ => Orderly.refl.countSilence).foldl fun _ _ => Orderly.refl.countSample

protected theorem setOwner (h : Orderly e s t) {a o} : Orderly e s (t.setOwner a o) := h.then_eq

protected theorem recountMaps (h : Orderly .part s t) {a r r' w w'} : Orderly .part s (recountMaps a r r' w w' t) :=
  h.foldl fun _ _ => .ite .refl Orderly.refl.setMapCount

protected theorem writeStation (h : Orderly .part s t) {a r} : Orderly .part s (writeStation a r t) := by
  have written : Orderly .part s { t with stations := Tab.put t.stations a r } := h.then_part
  exact .ite written.modStation.reports.invalidateStation.recountMaps
    written.modStation.setOwner.invalidateStation.recountMaps

end Orderly
end Commands
end Sys2Proof.Machine

namespace Sys2Proof.Machine

section Commands

variable {e : Extent} {s t : State}

namespace Orderly

/-! ## Resets and the entry to RUN -/

/-- A port unit is changed within its capacities. -/
protected theorem modPort (h : Orderly .part s t) {p f}
    (hf : QueuesOk t → (f (t.port p)).rx.length ≤ 16 ∧ (f (t.port p)).tx.length ≤ txCapacity p) :
    Orderly .part s (t.modPort p f) :=
  h.trans ⟨fun hq => hq.modPort (hf hq), .of_eq rfl rfl, trivial⟩

protected theorem flushPort (h : Orderly .part s t) {p} : Orderly .part s (flushPort p t) :=
  (h.modPort fun _ => ⟨Nat.zero_le _, Nat.zero_le _⟩).bump

protected theorem resetStations (h : Orderly .part s t) : Orderly .part s (resetStations t) := h.then_part rfl rfl rfl

protected theorem resetEvents (h : Orderly .part s t) : Orderly .part s (resetEvents t) := h.then_part rfl rfl rfl

protected theorem haltTimers (h : Orderly .part s t) : Orderly .part s (haltTimers t) := h.then_part rfl rfl rfl

protected theorem resetZones (h : Orderly e s t) : Orderly e s (resetZones t) := h.then_eq rfl rfl rfl rfl

protected theorem deEnergiseAll (h : Orderly e s t) : Orderly e s (deEnergiseAll t) := h.then_eq rfl rfl rfl rfl

protected theorem reportMapsAnew (h : Orderly e s t) : Orderly e s (reportMapsAnew t) := by
  refine h.foldl fun _ _ => .ite .refl ?_
  split
  · exact .refl
  · exact Orderly.refl.reportCondition

protected theorem reportLinesAnew (h : Orderly e s t) : Orderly e s (reportLinesAnew t) :=
  h.foldl fun _ _ => .ite .refl Orderly.refl.reportCondition

theorem noCalls (h : Orderly .part s t) {l} : Orderly .part s { t with calls := [], zoneLines := l } :=
  h.trans ⟨.congr rfl, fun _ => callsOk_of_nil rfl, trivial⟩

protected theorem resetCalls (h : Orderly .part s t) : Orderly .part s (resetCalls t) :=
  noCalls (h.foldl fun _ _ => .ite Orderly.refl.sendStop .refl)

protected theorem resetRamps (h : Orderly e s t) : Orderly e s (resetRamps t) :=
  h.foldl fun _ _ => (Orderly.ite Orderly.refl.sendSpeed .refl).modRamp

protected theorem resetBlocks (h : Orderly .part s t) : Orderly .part s (resetBlocks t) := by
  have inConfig : Orderly .part s { t with device := .config } := h.then_part
  refine Orderly.resetRamps (Orderly.resetCalls (Orderly.resetZones ?_))
  refine Orderly.reportLinesAnew (Orderly.reportMapsAnew (Orderly.resetEvents (Orderly.haltTimers ?_)))
  exact inConfig.flushPort.flushPort.flushPort.resetStations.invalidateAll.deEnergiseAll

protected theorem enterRun (h : Orderly .part s t) {b} : Orderly .part s (enterRun b t) := by
  have inRun : Orderly .part s { t with device := .run } := h.then_part
  exact inRun.zonesEnterRun

protected theorem restartPart (h : Orderly .part s t) : Orderly .part s (restartPart t).2 := by
  unfold Machine.restartPart
  dsimp only
  split
  · dsimp only
    exact h.resetBlocks
  · dsimp only
    exact h.resetBlocks.enterRun

/-! ## Answers -/

protected theorem answer (h : Orderly .part s t) {hd n r} : Orderly .part s (answer hd n r t) := h.sendTx.settle

end Orderly

/-- A request, if taken from `s`, leaves an orderly state. -/
def Judged.IsOrderly (s : State) : Judged → Prop
  | .refused _ _ => True
  | .taken t _ => Orderly .part s t

protected theorem Orderly.serve (h : Orderly .part s t) {hd n least j} (hj : Judged.IsOrderly t j) :
    Orderly .part s (serve hd n least j t) := by
  unfold Machine.serve
  split
  · exact h.answer
  · split
    · exact h.answer
    · exact (h.trans hj).settle.answer

namespace Judged.IsOrderly

theorem no {reason} : IsOrderly s (Judged.no reason) := trivial

theorem yes {d} (h : Orderly .part s t) : IsOrderly s (Judged.yes t d) := h

protected theorem withIndex {n i : Nat} {f : Fin n → Judged} (h : ∀ k, IsOrderly s (f k)) :
    IsOrderly s (withIndex i f) := by
  unfold Machine.withIndex
  split
  · exact no
  · exact h _

protected theorem ite {c : Prop} [Decidable c] {j k : Judged} (hj : IsOrderly s j) (hk : IsOrderly s k) :
    IsOrderly s (if c then j else k) := by
  split
  · exact hj
  · exact hk

end Judged.IsOrderly

open Judged (IsOrderly)

theorem inServiceOnly_isOrderly {j : Judged} (h : IsOrderly s j) : IsOrderly s (inServiceOnly s j) := .ite h .no

theorem inConfigOnly_isOrderly {j : Judged} (h : IsOrderly s j) : IsOrderly s (inConfigOnly s j) := .ite h .no

theorem inRunOnly_isOrderly {j : Judged} (h : IsOrderly s j) : IsOrderly s (inRunOnly s j) := .ite h .no

/-! ## The requests that read -/

theorem judgeTableRead_isOrderly {tb i} : IsOrderly s (judgeTableRead tb i s) := by
  unfold judgeTableRead
  split
  · exact .no
  · exact .yes .refl

theorem judgeStatusRead_isOrderly {part first} : IsOrderly s (judgeStatusRead part first s) := by
  unfold judgeStatusRead
  split
  · exact .no
  · exact .yes .refl

theorem judgeCounterRead_isOrderly {set first clear} : IsOrderly s (judgeCounterRead set first clear s) := by
  unfold judgeCounterRead
  split
  · exact .yes (.ite (Orderly.refl.foldl fun _ _ => Orderly.refl.then_part) .refl)
  · exact .no

theorem judgeMirrorRead_isOrderly {i} : IsOrderly s (judgeMirrorRead i s) := .withIndex fun _ => .yes .refl

theorem judgeMirrorPurge_isOrderly {scope} : IsOrderly s (judgeMirrorPurge scope s) := by
  unfold judgeMirrorPurge
  split
  · exact .yes Orderly.refl.invalidateAll
  · split
    · exact .no
    · exact .yes Orderly.refl.invalidateStation
  · exact .withIndex fun _ => .yes Orderly.refl.modMirror
  · exact .no

/-! ## The requests that act -/

theorem judgeStart_isOrderly : IsOrderly s (judgeStart s) := by
  unfold judgeStart
  refine .ite .no ?_
  split
  · exact trivial
  · exact .yes Orderly.refl.enterRun

theorem judgeStop_isOrderly : IsOrderly s (judgeStop s) := inServiceOnly_isOrderly (.yes Orderly.refl.resetBlocks)

theorem judgeRestart_isOrderly : IsOrderly s (judgeRestart s) := .ite .no (.yes Orderly.refl.restartPart)

theorem judgeResume_isOrderly : IsOrderly s (judgeResume s) := .ite .no (.yes Orderly.refl.then_part)

theorem judgeGeneralAlarm_isOrderly : IsOrderly s (judgeGeneralAlarm s) :=
  inServiceOnly_isOrderly Orderly.refl.alarmRaise.toPart

theorem judgeGeneralAlarmClear_isOrderly : IsOrderly s (judgeGeneralAlarmClear s) :=
  inServiceOnly_isOrderly Orderly.refl.alarmClear.toPart

theorem testRaise_isOrderly {c} : IsOrderly s (testRaise c s) :=
  .ite (.yes Orderly.refl.raiseCode) (.ite (.yes .refl) Orderly.refl.raiseCode)

theorem judgeTestRaise_isOrderly {hd n} : IsOrderly s (judgeTestRaise hd n s) :=
  .withIndex fun _ => .ite .no (.ite .no (.ite .no testRaise_isOrderly))

theorem judgeWithdraw_isOrderly {n} : IsOrderly s (judgeWithdraw n s) :=
  .withIndex fun _ => .ite .no Orderly.refl.withdrawCode

theorem judgeTimerStart_isOrderly {n} : IsOrderly s (judgeTimerStart n s) :=
  .withIndex fun _ => inServiceOnly_isOrderly (.yes Orderly.refl.modTimer)

theorem judgeTimerStop_isOrderly {n} : IsOrderly s (judgeTimerStop n s) :=
  .withIndex fun _ => .yes Orderly.refl.modTimer

theorem judgeZoneClose_isOrderly {n cause} : IsOrderly s (judgeZoneClose n cause s) :=
  .withIndex fun _ => inServiceOnly_isOrderly (.yes Orderly.refl.zoneCloseJudged.toPart)

theorem judgeZoneOpen_isOrderly {n} : IsOrderly s (judgeZoneOpen n s) := by
  refine .withIndex fun _ => inServiceOnly_isOrderly ?_
  split
  · exact .yes Orderly.refl.zoneOpenJudged.toPart
  · exact .no
  · exact .ite .no (.yes .refl)

theorem judgeCloseNow_isOrderly {n} : IsOrderly s (judgeCloseNow n s) :=
  .withIndex fun _ => .ite (.yes Orderly.refl.enterClosing) .no

theorem judgeZoneClear_isOrderly {n} : IsOrderly s (judgeZoneClear n s) :=
  .withIndex fun _ => .yes Orderly.refl.setClear

theorem judgeFireDeclare_isOrderly {n} : IsOrderly s (judgeFireDeclare n s) :=
  .withIndex fun _ => .yes Orderly.refl.setFire

theorem judgeFireClear_isOrderly {n} : IsOrderly s (judgeFireClear n s) :=
  .withIndex fun _ => .ite (.yes .refl) (.ite .no (.yes Orderly.refl.modZone.fireChanged))

theorem judgeFireOverride_isOrderly {n on} : IsOrderly s (judgeFireOverride n on s) :=
  .withIndex fun _ => .yes Orderly.refl.modZone.fireChanged

theorem judgeCallRequest_isOrderly {m zs p k} : IsOrderly s (judgeCallRequest m zs p k s) := by
  unfold judgeCallRequest
  split
  · refine inServiceOnly_isOrderly ?_
    split
    · exact .no
    · exact .yes Orderly.refl.requestCall.arbitrate.toPart
  · exact .no

theorem judgeCallCancel_isOrderly {m} : IsOrderly s (judgeCallCancel m s) :=
  .withIndex fun _ => inServiceOnly_isOrderly (.yes Orderly.refl.cancelCall.toPart)

/-- A judgement of the Ramp Controller leaves an orderly state. -/
theorem rampMoveJudged_orderly {r tgt note} (h : rampMoveJudged r tgt s = .ok (note, t)) : Orderly .jobs s t := by
  unfold rampMoveJudged at h
  dsimp only at h
  split at h
  case h_1 | h_2 =>
    split at h
    · split at h
      · cases h
        exact Orderly.refl.claimDrive.modRamp.enterClearing
      · cases h
    · cases h
  case h_3 | h_4 =>
    cases h
    exact Orderly.refl.modRamp
  case h_5 | h_6 | h_7 => cases h

theorem rampHomeJudged_orderly {r note} (h : rampHomeJudged r s = .ok (note, t)) : Orderly .jobs s t := by
  unfold rampHomeJudged at h
  dsimp only at h
  split at h
  case h_1 | h_2 | h_3 =>
    split at h
    · split at h
      · cases h
        exact Orderly.refl.referenceAtStowed
      · split at h
        · cases h
          exact Orderly.refl.claimDrive.startHoming
        · cases h
    · cases h
  case h_4 | h_5 | h_6 | h_7 => cases h

theorem rampReleaseJudged_orderly {r} (h : rampReleaseJudged r s = .ok t) : Orderly .jobs s t := by
  unfold rampReleaseJudged at h
  dsimp only at h
  split at h
  case h_1 =>
    cases h
    exact Orderly.refl.releaseRamp
  case h_2 =>
    split_ifs at h
    cases h
    exact Orderly.refl.releaseRamp
  case h_3 => cases h

theorem rampAnswer_isOrderly {j : Except Reason (RampNote × State)} {b}
    (h : ∀ n t, j = .ok (n, t) → Orderly .jobs s t) :
    IsOrderly s (rampAnswer j b) := by
  unfold rampAnswer
  split
  · exact .no
  · exact .yes (h _ _ rfl).toPart

theorem judgeRampMove_isOrderly {n tgt} : IsOrderly s (judgeRampMove n tgt s) :=
  .withIndex fun _ => inRunOnly_isOrderly (rampAnswer_isOrderly fun _ _ => rampMoveJudged_orderly)

theorem judgeRampHome_isOrderly {n} : IsOrderly s (judgeRampHome n s) :=
  .withIndex fun _ => inRunOnly_isOrderly (rampAnswer_isOrderly fun _ _ => rampHomeJudged_orderly)

theorem judgeRampStop_isOrderly {n} : IsOrderly s (judgeRampStop n s) := .withIndex fun _ => .yes Orderly.refl.holdRamp

theorem judgeRampRelease_isOrderly {n} : IsOrderly s (judgeRampRelease n s) := by
  refine .withIndex fun _ => ?_
  split
  · exact .no
  · next h => exact .yes (rampReleaseJudged_orderly h).toPart

end Commands
end Sys2Proof.Machine

namespace Sys2Proof.Machine

section Commands

variable {s t : State}

open Judged (IsOrderly)

/-! ## The table writes -/

theorem judgeStationWrite_isOrderly {n f} : IsOrderly s (judgeStationWrite n f s) := by
  unfold judgeStationWrite
  split
  · split
    · exact .no
    · exact .yes Orderly.refl.writeStation
  · exact .no

protected theorem Orderly.writeZone (h : Orderly .part s t) {z r} : Orderly .part s (writeZone z r t) := by
  have written : Orderly .part s { t with zones := Tab.put t.zones z r } := h.then_part
  exact written.modZoneLine

theorem judgeZoneWrite_isOrderly {n f} : IsOrderly s (judgeZoneWrite n f s) := by
  unfold judgeZoneWrite
  split
  · exact inConfigOnly_isOrderly (.yes Orderly.refl.writeZone)
  · exact .no

protected theorem Orderly.writeDoor (h : Orderly .part s t) {d r} : Orderly .part s (writeDoor d r t) := by
  have written : Orderly .part s { t with doors := Tab.put t.doors d r } := h.then_part
  exact written.modDoor.refreshRest.refreshRest

theorem judgeDoorWrite_isOrderly {n f} : IsOrderly s (judgeDoorWrite n f s) := by
  unfold judgeDoorWrite
  split
  · exact inConfigOnly_isOrderly (.yes Orderly.refl.writeDoor)
  · exact .no

/-- A RAMP record is replaced. -/
theorem Orderly.setRamps (h : Orderly .part s t) {v} : Orderly .part s { t with ramps := v } := h.then_part

protected theorem Orderly.writeRamp (h : Orderly .part s t) {r cfg} : Orderly .part s (writeRamp r cfg t) :=
  (Orderly.setRamps (.ite h.orderEnable h)).modRamp

theorem judgeRampWrite_isOrderly {n f} : IsOrderly s (judgeRampWrite n f s) := by
  unfold judgeRampWrite
  split
  · exact inConfigOnly_isOrderly (.yes Orderly.refl.writeRamp)
  · exact .no

theorem judgeLineWrite_isOrderly {n f} : IsOrderly s (judgeLineWrite n f s) := by
  unfold judgeLineWrite
  split
  · exact inConfigOnly_isOrderly (.yes Orderly.refl.writeLine)
  · exact .no

theorem judgeTimerWrite_isOrderly {n f} : IsOrderly s (judgeTimerWrite n f s) := by
  unfold judgeTimerWrite
  split
  · exact .ite .no (.yes Orderly.refl.then_part)
  · exact .no

theorem judgeVectorWrite_isOrderly {n f} : IsOrderly s (judgeVectorWrite n f s) := by
  unfold judgeVectorWrite
  split
  · exact .ite .no (.yes Orderly.refl.writeVector)
  · exact .no

theorem judgeMessageWrite_isOrderly {n f} : IsOrderly s (judgeMessageWrite n f s) :=
  .withIndex fun _ => .ite .no (.ite .no (.yes Orderly.refl.then_part))

theorem judgeDeviceWrite_isOrderly {f} : IsOrderly s (judgeDeviceWrite f s) := by
  unfold judgeDeviceWrite
  split
  · exact .no
  · exact .ite (.yes Orderly.refl.then_part) .no

/-! ## Requests served, and frames from the bridge -/

/-- The judgement of a request (R174). -/
def judgeRequest (hd : Header) (q : Request) (s : State) : Judged :=
  match q with
  | .tableRead tb i => judgeTableRead tb i s
  | .stationWrite n f => judgeStationWrite n f s
  | .zoneWrite n f => judgeZoneWrite n f s
  | .doorWrite n f => judgeDoorWrite n f s
  | .rampWrite n f => judgeRampWrite n f s
  | .lineWrite n f => judgeLineWrite n f s
  | .timerWrite n f => judgeTimerWrite n f s
  | .vectorWrite n f => judgeVectorWrite n f s
  | .messageWrite n f => judgeMessageWrite n f s
  | .deviceWrite f => judgeDeviceWrite f s
  | .statusRead part first => judgeStatusRead part first s
  | .counterRead set first clear => judgeCounterRead set first clear s
  | .mirrorRead i => judgeMirrorRead i s
  | .mirrorPurge scope => judgeMirrorPurge scope s
  | .start => judgeStart s
  | .stop => judgeStop s
  | .restart => judgeRestart s
  | .resume => judgeResume s
  | .generalAlarm => judgeGeneralAlarm s
  | .generalAlarmClear => judgeGeneralAlarmClear s
  | .testRaise c => judgeTestRaise hd c s
  | .withdraw c => judgeWithdraw c s
  | .timerStart n => judgeTimerStart n s
  | .timerStop n => judgeTimerStop n s
  | .zoneClose z cause => judgeZoneClose z cause s
  | .zoneOpen z => judgeZoneOpen z s
  | .closeNow z => judgeCloseNow z s
  | .zoneClear z => judgeZoneClear z s
  | .fireDeclare z => judgeFireDeclare z s
  | .fireClear z => judgeFireClear z s
  | .fireOverride z on => judgeFireOverride z on s
  | .call m zones priority repeats => judgeCallRequest m zones priority repeats s
  | .callCancel m => judgeCallCancel m s
  | .rampMove r tgt => judgeRampMove r tgt s
  | .rampHome r => judgeRampHome r s
  | .rampStop r => judgeRampStop r s
  | .rampRelease r => judgeRampRelease r s

/-- Every request is served alike, by its row of the table of requests. -/
theorem serveRequest_eq (hd : Header) (q : Request) (s : State) :
    serveRequest hd q s = serve hd (requestName q) (leastAuthority q) (judgeRequest hd q s) s := by
  cases q with
  | counterRead _ _ clear => cases clear <;> rfl
  | _ => rfl

theorem exec_requestInstr (hd : Header) (q : Request) (s : State) :
    exec (requestInstr hd q) s = served s (serveRequest hd q) := by
  cases q <;> rfl

theorem judgeRequest_isOrderly {hd} (q : Request) : IsOrderly s (judgeRequest hd q s) := by
  cases q with
  | tableRead => exact judgeTableRead_isOrderly
  | stationWrite => exact judgeStationWrite_isOrderly
  | zoneWrite => exact judgeZoneWrite_isOrderly
  | doorWrite => exact judgeDoorWrite_isOrderly
  | rampWrite => exact judgeRampWrite_isOrderly
  | lineWrite => exact judgeLineWrite_isOrderly
  | timerWrite => exact judgeTimerWrite_isOrderly
  | vectorWrite => exact judgeVectorWrite_isOrderly
  | messageWrite => exact judgeMessageWrite_isOrderly
  | deviceWrite => exact judgeDeviceWrite_isOrderly
  | statusRead => exact judgeStatusRead_isOrderly
  | counterRead => exact judgeCounterRead_isOrderly
  | mirrorRead => exact judgeMirrorRead_isOrderly
  | mirrorPurge => exact judgeMirrorPurge_isOrderly
  | start => exact judgeStart_isOrderly
  | stop => exact judgeStop_isOrderly
  | restart => exact judgeRestart_isOrderly
  | resume => exact judgeResume_isOrderly
  | generalAlarm => exact judgeGeneralAlarm_isOrderly
  | generalAlarmClear => exact judgeGeneralAlarmClear_isOrderly
  | testRaise => exact judgeTestRaise_isOrderly
  | withdraw => exact judgeWithdraw_isOrderly
  | timerStart => exact judgeTimerStart_isOrderly
  | timerStop => exact judgeTimerStop_isOrderly
  | zoneClose => exact judgeZoneClose_isOrderly
  | zoneOpen => exact judgeZoneOpen_isOrderly
  | closeNow => exact judgeCloseNow_isOrderly
  | zoneClear => exact judgeZoneClear_isOrderly
  | fireDeclare => exact judgeFireDeclare_isOrderly
  | fireClear => exact judgeFireClear_isOrderly
  | fireOverride => exact judgeFireOverride_isOrderly
  | call => exact judgeCallRequest_isOrderly
  | callCancel => exact judgeCallCancel_isOrderly
  | rampMove => exact judgeRampMove_isOrderly
  | rampHome => exact judgeRampHome_isOrderly
  | rampStop => exact judgeRampStop_isOrderly
  | rampRelease => exact judgeRampRelease_isOrderly

namespace Orderly

protected theorem serveRequest (h : Orderly .part s t) {hd q} : Orderly .part s (serveRequest hd q t) := by
  rw [serveRequest_eq]
  exact h.serve (judgeRequest_isOrderly q)

protected theorem serveFrame (h : Orderly .part s t) {f} : Orderly .part s (serveFrame f t) := by
  unfold Machine.serveFrame
  split
  · exact h.answer
  · exact h.serveRequest

protected theorem bridgeFrame (h : Orderly .part s t) {f} : Orderly .part s (bridgeFrame f t) := by
  unfold Machine.bridgeFrame
  refine .ite (.ite h.serveFrame ?_) h.stationFrame
  split
  · exact h.trans Orderly.refl.ackByte.toPart
  · exact h.filterFrame

/-! ## Port units -/

protected theorem modQuality (h : Orderly .part s t) {d f} : Orderly .part s (t.modQuality d f) := h.then_part

protected theorem startTransmission (h : Orderly .part s t) {p} : Orderly .part s (startTransmission p t) :=
  h.trans ⟨.startTransmission, .of_eq (by simp) (by simp), trivial⟩

protected theorem signal (h : Orderly .part s t) {p} : Orderly .part s (signal p t) := by
  unfold Machine.signal
  refine .ite h ?_
  have risen := h.modPort (p := p) (f := fun u => { u with up := true }) fun hq => hq p
  unfold portRises startWindow
  split
  · exact risen.modQuality
  · exact risen.modQuality
  · exact risen.then_part rfl rfl rfl

protected theorem badFrame (h : Orderly .part s t) {p} : Orderly .part s (badFrame p t) := by
  unfold Machine.badFrame reportBadFrame
  dsimp only
  split
  · exact h.bumpPort.modQuality
  · exact h.bumpPort.modQuality
  · exact h.bumpPort

protected theorem portFalls (h : Orderly .part s t) {p} : Orderly .part s (portFalls p t) := by
  unfold Machine.portFalls stopWindow
  split
  · exact h.modQuality.invalidateDeck
  · exact h.modQuality.invalidateDeck
  · exact h.then_part rfl rfl rfl

/-- A port that becomes DOWN keeps its receive queue and empties its transmit queue. -/
protected theorem loss (h : Orderly .part s t) {p receiving} : Orderly .part s (loss p receiving t) := by
  unfold Machine.loss
  refine .ite (Orderly.portFalls (Orderly.bump ?_)) h
  exact (Orderly.ite h.badFrame h).modPort fun hq => ⟨(hq p).1, Nat.zero_le _⟩

protected theorem bridgeLost (h : Orderly .part s t) : Orderly .part s (bridgeLost t) := by
  have stopped : Orderly .part s { t with bridgeLoss := .stopped } := h.then_part
  exact .ite stopped.enterAutonomous h

/-- A frame is appended to a receive queue of fewer than 16 (R11). -/
protected theorem offerRx (h : Orderly .part s t) {p f} : Orderly .part s (offerRx p f t) := by
  unfold Machine.offerRx
  split
  · next hroom =>
    refine h.modPort fun hq => ⟨?_, (hq p).2⟩
    simpa using hroom
  · exact h.bumpPort

protected theorem acceptFrame (h : Orderly .part s t) {p f} : Orderly .part s (acceptFrame p f t) :=
  .ite h.bumpPort.bump.bumpPort.bumpPort h.bumpPort.bump.bumpPort.offerRx

protected theorem frameEnds (h : Orderly .part s t) {p bytes} : Orderly .part s (frameEnds p bytes t) := by
  unfold Machine.frameEnds
  refine .ite ?_ h
  split
  · exact h
  · split
    · exact h.badFrame
    · exact h.acceptFrame

protected theorem transmissionEnds (h : Orderly .part s t) {p} : Orderly .part s (transmissionEnds p t) :=
  .ite (h.modPort fun hq => hq p).bumpPort.startTransmission h

/-- The head of a receive queue is taken and used. -/
protected theorem takeHead (h : Orderly .part s t) {p} {use : Frame → State → State}
    (huse : ∀ t f, Orderly .part t (use f t)) : Orderly .part s (takeHead p use t) := by
  unfold Machine.takeHead
  split
  · exact h
  · next f rest hrx =>
    refine (h.modPort fun hq => ⟨?_, (hq p).2⟩).trans (huse _ _)
    have hlen := (hq p).1
    rw [hrx] at hlen
    exact (Nat.le_succ _).trans hlen

protected theorem changeGrade (h : Orderly .part s t) {d g} : Orderly .part s (changeGrade d g t) :=
  (Orderly.ite h.modQuality.invalidateDeck h.modQuality).raiseInternal

protected theorem judgeWindow (h : Orderly .part s t) {d n} : Orderly .part s (judgeWindow d n t) := by
  unfold Machine.judgeWindow
  dsimp only
  split
  · exact .ite h.changeGrade h
  · exact .ite (.ite h.changeGrade h.modQuality) h.modQuality

protected theorem windowEnds (h : Orderly .part s t) {d} : Orderly .part s (windowEnds d t) := by
  unfold Machine.windowEnds startWindow
  split
  · exact h
  · exact h.judgeWindow.modQuality

end Orderly

/-! ## Commands and steps -/

theorem orderly_of_concluded {f : State → State} (hf : Orderly .part s (f s)) (h : concluded s f = .next t) :
    Orderly .part s t := by
  cases h
  exact .ite .refl hf.settle

theorem orderly_of_served {f : State → State} (hf : Orderly .part s (f s)) (h : served s f = .next t) :
    Orderly .part s t := by
  cases h
  exact .ite .refl hf

theorem powerOn_orderly {st pins held pending} : Orderly .part s (State.powerOn st pins held pending) := by
  refine ⟨fun _ p => ?_, fun _ => callsOk_of_nil rfl, trivial⟩
  cases p <;> exact ⟨Nat.zero_le _, Nat.zero_le _⟩

/-- A request keeps order however it comes. -/
theorem orderly_of_request {hd q} (h : exec (requestInstr hd q) s = .next t) : Orderly .part s t := by
  rw [exec_requestInstr] at h
  exact orderly_of_served Orderly.refl.serveRequest h

theorem orderly_of_exec {c : Instr} (h : exec c s = .next t) : Orderly .part s t := by
  cases c with
  | powerOn | resetAssertion =>
    cases h
    exact powerOn_orderly
  | signalReport => exact orderly_of_concluded Orderly.refl.signal h
  | lossOfSignal => exact orderly_of_concluded Orderly.refl.loss h
  | bridgeLossExpiry => exact orderly_of_concluded Orderly.refl.bridgeLost h
  | frameEnd => exact orderly_of_concluded Orderly.refl.frameEnds h
  | transmissionEnd => exact orderly_of_concluded Orderly.refl.transmissionEnds h
  | deckFrameTaken => exact orderly_of_concluded (Orderly.refl.takeHead fun _ _ => Orderly.refl.deckFrame) h
  | bridgeFrameTaken => exact orderly_of_concluded (Orderly.refl.takeHead fun _ _ => Orderly.refl.bridgeFrame) h
  | supervisionExpiry => exact orderly_of_concluded Orderly.refl.superviseAll h
  | pinChange =>
    cases h
    exact Orderly.refl.pinTakes.settle
  | directLineSample => exact orderly_of_concluded Orderly.refl.sampleLine h
  | encoderEdge =>
    cases h
    exact Orderly.refl.encoderChanges.settle
  | timerTick => exact orderly_of_concluded Orderly.refl.tickChannel h
  | ackTimerExpiry => exact orderly_of_concluded Orderly.refl.ackTimerOver.toPart h
  | escalationTimerExpiry => exact orderly_of_concluded Orderly.refl.escalationOver h
  | closeLimitExpiry => exact orderly_of_concluded Orderly.refl.closeLimitOver.toPart h
  | retryTimerExpiry => exact orderly_of_concluded Orderly.refl.retryOver.toPart h
  | countdownExpiry => exact orderly_of_concluded Orderly.refl.countdownExpires h
  | callWaitExpiry => exact orderly_of_concluded Orderly.refl.callWaitOver.toPart h
  | startTimerExpiry => exact orderly_of_concluded Orderly.refl.startTimerOver.toPart h
  | durationTimerExpiry => exact orderly_of_concluded Orderly.refl.durationTimerOver.toPart h
  | stopTimerExpiry => exact orderly_of_concluded Orderly.refl.stopTimerOver.toPart h
  | gapTimerExpiry => exact orderly_of_concluded Orderly.refl.gapTimerOver.toPart h
  | controlPeriodExpiry => exact orderly_of_concluded Orderly.refl.controlPeriod h
  | clearanceWaitExpiry => exact orderly_of_concluded Orderly.refl.clearanceOver.toPart h
  | qualityWindowEnd => exact orderly_of_concluded Orderly.refl.windowEnds h
  | tableRead hd tb i => exact orderly_of_request (q := .tableRead tb i) h
  | stationWrite hd n f => exact orderly_of_request (q := .stationWrite n f) h
  | zoneWrite hd n f => exact orderly_of_request (q := .zoneWrite n f) h
  | doorWrite hd n f => exact orderly_of_request (q := .doorWrite n f) h
  | rampWrite hd n f => exact orderly_of_request (q := .rampWrite n f) h
  | lineWrite hd n f => exact orderly_of_request (q := .lineWrite n f) h
  | timerWrite hd n f => exact orderly_of_request (q := .timerWrite n f) h
  | vectorWrite hd n f => exact orderly_of_request (q := .vectorWrite n f) h
  | messageWrite hd n f => exact orderly_of_request (q := .messageWrite n f) h
  | deviceWrite hd f => exact orderly_of_request (q := .deviceWrite f) h
  | statusRead hd part first => exact orderly_of_request (q := .statusRead part first) h
  | counterRead hd set first clear => exact orderly_of_request (q := .counterRead set first clear) h
  | mirrorRead hd i => exact orderly_of_request (q := .mirrorRead i) h
  | mirrorPurge hd scope => exact orderly_of_request (q := .mirrorPurge scope) h
  | start hd => exact orderly_of_request (q := .start) h
  | stop hd => exact orderly_of_request (q := .stop) h
  | restart hd => exact orderly_of_request (q := .restart) h
  | resume hd => exact orderly_of_request (q := .resume) h
  | generalAlarm hd => exact orderly_of_request (q := .generalAlarm) h
  | generalAlarmClear hd => exact orderly_of_request (q := .generalAlarmClear) h
  | testRaise hd c => exact orderly_of_request (q := .testRaise c) h
  | withdraw hd c => exact orderly_of_request (q := .withdraw c) h
  | timerStart hd n => exact orderly_of_request (q := .timerStart n) h
  | timerStop hd n => exact orderly_of_request (q := .timerStop n) h
  | zoneClose hd z cause => exact orderly_of_request (q := .zoneClose z cause) h
  | zoneOpen hd z => exact orderly_of_request (q := .zoneOpen z) h
  | closeNow hd z => exact orderly_of_request (q := .closeNow z) h
  | zoneClear hd z => exact orderly_of_request (q := .zoneClear z) h
  | fireDeclare hd z => exact orderly_of_request (q := .fireDeclare z) h
  | fireClear hd z => exact orderly_of_request (q := .fireClear z) h
  | fireOverride hd z on => exact orderly_of_request (q := .fireOverride z on) h
  | call hd m zones priority repeats => exact orderly_of_request (q := .call m zones priority repeats) h
  | callCancel hd m => exact orderly_of_request (q := .callCancel m) h
  | rampMove hd r tgt => exact orderly_of_request (q := .rampMove r tgt) h
  | rampHome hd r => exact orderly_of_request (q := .rampHome r) h
  | rampStop hd r => exact orderly_of_request (q := .rampStop r) h
  | rampRelease hd r => exact orderly_of_request (q := .rampRelease r) h

theorem advance_orderly : Orderly .part s (advance s) := Orderly.refl.then_part rfl rfl rfl

theorem orderly_of_step (h : step s = .next t) : Orderly .part s t := by
  unfold step at h
  split at h
  · next rest _ =>
    have taken : Orderly .part s { s with pending := rest } := Orderly.refl.then_part
    exact taken.trans (orderly_of_exec h)
  · unfold idle at h
    split at h
    · cases h
      exact .refl
    · split at h
      · exact orderly_of_exec h
      · cases h
        exact advance_orderly

end Commands

/-- Settles O56: every operation keeps both invariants (`Orderly`), so every step does. -/
theorem queuesAndCallsInvariant : Obligations.QueuesAndCallsInvariant := by
  unfold Obligations.QueuesAndCallsInvariant
  exact ⟨fun _ _ hq h => (orderly_of_step h).queues hq, fun _ _ hc h => (orderly_of_step h).callsOk hc⟩

end Sys2Proof.Machine

namespace Sys2Proof.Machine

/-! # Frame bodies, the check and the line (R1 to R3, R10) -/

/-! ## The check -/

/-- The highest bit of the shifted register, with the bit fed in, says whether the generator is subtracted. -/
theorem msb_shifted_register (crc : Word16) (b : Bool) :
    ((crc.setWidth 17 <<< 1) ^^^ (if b then 0x10000#17 else 0#17)).msb = Bool.xor crc.msb b := by
  cases b <;> simp [BitVec.msb_eq_getLsbD_last]

/-- One bit through the register is a reduction by the generator x^16 + x^12 + x^5 + 1. -/
theorem crcBit_setWidth (crc : Word16) (b : Bool) :
    (crcBit crc b).setWidth 17 =
      let r : BitVec 17 := (crc.setWidth 17 <<< 1) ^^^ (if b then 0x10000#17 else 0#17)
      if r.msb then r ^^^ 0x11021#17 else r := by
  have hmsb : crc.msb = crc[15] := by simp [BitVec.msb_eq_getLsbD_last]
  dsimp only
  rw [msb_shifted_register, crcBit, hmsb]
  -- Bit by bit: the 17 bits of both sides, for each bit fed in and each highest bit of the register.
  apply BitVec.eq_of_getLsbD_eq
  intro i hi
  cases b <;> cases hc : crc[15] <;> interval_cases i <;> simp [hc]

theorem crc16_append (l : List Byte) (b : Byte) : crc16 (l ++ [b]) = crcByte (crc16 l) b := List.foldl_concat ..

/-- The check over 31 hex to 39 hex (R3). -/
theorem crc16_example :
    crc16 [0x31#8, 0x32#8, 0x33#8, 0x34#8, 0x35#8, 0x36#8, 0x37#8, 0x38#8, 0x39#8] = 0x29B1#16 := by
  decide +kernel

/-! ## The start delimiter -/

theorem bodyAfterDelimiter_append {noise : List Byte} (b : List Byte) (h : delimiter ∉ noise) :
    bodyAfterDelimiter (noise ++ delimiter :: b) = some b := by
  induction noise with
  | nil => exact if_pos rfl
  | cons x noise ih =>
    obtain ⟨hx, hn⟩ := not_or.1 (mt List.mem_cons.2 h)
    exact (if_neg (Ne.symm hx)).trans (ih hn)

theorem bodyAfterDelimiter_eq_none {b : List Byte} (h : delimiter ∉ b) : bodyAfterDelimiter b = none := by
  induction b with
  | nil => rfl
  | cons x b ih =>
    obtain ⟨hx, hb⟩ := not_or.1 (mt List.mem_cons.2 h)
    exact (if_neg (Ne.symm hx)).trans (ih hb)

/-! ## The frame body -/

theorem Frame.length_body (f : Frame) : f.body.length = 7 + f.payload.length := by
  simp [Frame.body, Frame.checked]; omega

/-- The tests of R10 pass on the encoding of a frame. -/
theorem parseBody_body {f : Frame} (h : f.payload.length ≤ 32) : parseBody f.body = some f := by
  have hlen : (byte f.payload.length).toNat = f.payload.length := by
    simp [byte]; omega
  simp [Frame.body, Frame.checked, parseBody, hlen, h]

/-- What passes the tests of R10 is the encoding of the frame it gives. -/
theorem eq_body_of_parseBody {b : List Byte} {f : Frame} (h : parseBody b = some f) :
    f.payload.length ≤ 32 ∧ b = f.body := by
  unfold parseBody at h
  split at h
  · next d src k t len rest =>
    dsimp only at h
    split_ifs at h with hlen hcheck
    obtain ⟨hle, hrest⟩ := hlen
    obtain rfl := Option.some.inj h
    have htake : (rest.take len.toNat).length = len.toNat := by simp; omega
    refine ⟨htake.trans_le hle, ?_⟩
    have hbyte : byte len.toNat = len := by simp [byte]
    simp only [Frame.body, Frame.checked, htake, hbyte]
    simp only [List.cons_append, List.nil_append] at hcheck ⊢
    rw [← hcheck, List.take_append_drop]
  · cases h

theorem parseBody_eq_some_iff (b : List Byte) (f : Frame) :
    parseBody b = some f ↔ f.payload.length ≤ 32 ∧ b = f.body := by
  refine ⟨eq_body_of_parseBody, ?_⟩
  rintro ⟨hlen, rfl⟩
  exact parseBody_body hlen

/-! ## A frame on the line -/

theorem Content.length_payload_reply (r : Reply) : (Content.reply r).payload.length ≤ 32 := List.length_take_le _ _

/-- Settles O3: the tests of R10 invert the encoding, and the check is the polynomial one. -/
theorem frameEncoding : Obligations.FrameEncoding := by
  unfold Obligations.FrameEncoding
  refine ⟨⟨⟨parseBody_eq_some_iff, Frame.length_body, fun _ => bodyAfterDelimiter_append,
    fun _ => bodyAfterDelimiter_eq_none⟩, crcBit_setWidth, fun _ _ => rfl, rfl, crc16_append, crc16_example⟩, ?_⟩
  refine ⟨fun f => ⟨rfl, fun hlen => ⟨f.onLink.body, rfl, parseBody_body hlen⟩⟩, fun _ => rfl,
    Content.length_payload_reply, fun _ => rfl, fun u f => ⟨fun h => ?_, fun h => ?_⟩⟩
  · simp [PortUnit.wire, h]
  · simp [PortUnit.wire, h]

end Sys2Proof.Machine

namespace Sys2Proof.Machine

/-! # Frames received (R10, R11) -/

/-- While RESET is not asserted a command has its effect and is judged. -/
theorem concluded_eq {s t : State} {f : State → State} (hrun : s.resetHeld = false) (h : f s = t) :
    concluded s f = .next (settle t) := by
  simp [concluded, hrun, h]

@[simp] theorem bump_port (s : State) (set : CounterSet) (i : CounterId) (n : Nat) (p : Port) :
    (bump set i n s).port p = s.port p := by
  simp [State.port]

section Receiving

variable {s : State} {p : Port}

theorem frameEnds_sound {bytes b : List Byte} {f : Frame} (hup : (s.port p).up = true)
    (hb : bodyAfterDelimiter bytes = some b) (hf : parseBody b = some f) :
    frameEnds p bytes s = acceptFrame p f s := by
  simp [frameEnds, hup, hb, hf]

/-- A frame sent as R1 says is accepted on a port that is UP. -/
theorem frameEnds_body {f : Frame} (hup : (s.port p).up = true) (hlen : f.payload.length ≤ 32) :
    frameEnds p (delimiter :: f.body) s = acceptFrame p f s :=
  frameEnds_sound hup (if_pos rfl : bodyAfterDelimiter (delimiter :: f.body) = some f.body) (parseBody_body hlen)

theorem frameEnds_bad {bytes b : List Byte} (hup : (s.port p).up = true) (hb : bodyAfterDelimiter bytes = some b)
    (hbad : parseBody b = none) : frameEnds p bytes s = badFrame p s := by
  simp [frameEnds, hup, hb, hbad]

theorem frameEnds_unheard {bytes : List Byte} (h : (s.port p).up = false ∨ bodyAfterDelimiter bytes = none) :
    frameEnds p bytes s = s := by
  unfold frameEnds
  rcases h with hdown | hnone
  · simp [hdown]
  · simp [hnone]

/-- An accepted frame is counted, then passes by or is queued, by its port and destination (R10). -/
theorem acceptFrame_eq (f : Frame) :
    acceptFrame p f s =
      let bin : CounterId := if f.payload.length ≤ 7 then 7 else if f.payload.length ≤ 15 then 8 else 9
      let counted := bump (portSet p) bin 1 (bump (portSet p) 2 (7 + f.payload.length) (bump (portSet p) 0 1 s))
      if p ≠ .bridge ∧ f.destination ≠ 0x00#8 ∧ f.destination ≠ 0xFF#8 then bump (portSet p) 4 1 counted
      else if (s.port p).rx.length < 16 then
        { counted with ports := s.ports.put p { s.port p with rx := (s.port p).rx ++ [f] } }
      else bump (portSet p) 3 1 counted := by
  simp only [acceptFrame, offerRx, bumpPort, bump_port, State.modPort, bump_ports]
  rfl

/-- The port counts a bad frame, and a deck line whose window runs raises its window count. -/
theorem badFrame_eq :
    badFrame p s =
      let t := bump (portSet p) 1 1 s
      let one (m : Monitor) : Monitor :=
        if m.window.isRunning = true then { m with count := min 65535 (m.count + 1) } else m
      match p with
      | .deckA => { t with quality := s.quality.put .a (one s.quality.a) }
      | .deckB => { t with quality := s.quality.put .b (one s.quality.b) }
      | .bridge => t := by
  cases p with
  | deckA | deckB =>
    simp only [badFrame, reportBadFrame, State.modQuality, bumpPort, bump_quality]
    rfl
  | bridge => rfl

end Receiving

/-- Settles O4: the three outcomes of `frameEnds`. -/
theorem frameEndJudged : Obligations.FrameEndJudged := by
  unfold Obligations.FrameEndJudged
  refine ⟨fun s p f hrun hup hlen => concluded_eq hrun ?_, fun s p bytes b hrun hup hb hbad => concluded_eq hrun ?_,
    fun s p bytes hrun h => concluded_eq hrun (frameEnds_unheard h)⟩
  · exact (frameEnds_body hup hlen).trans (acceptFrame_eq f)
  · exact (frameEnds_bad hup hb hbad).trans badFrame_eq

end Sys2Proof.Machine

namespace Sys2Proof.Machine

/-! # Transmit queues (R12 to R14) -/

section Transmitting

variable {s : State} {p : Port}

/-! ## Counting does not look at the port units and the line quality monitors -/

/-- The state with other port units and monitors. -/
def State.withLinks (s : State) (u : ByPort PortUnit) (q : ByDeck Monitor) : State :=
  { s with ports := u, quality := q }

theorem raiseCode_withLinks (x : Activation) (u : ByPort PortUnit) (q : ByDeck Monitor) :
    raiseCode x (s.withLinks u q) = (raiseCode x s).withLinks u q := by
  unfold raiseCode State.withLinks
  dsimp only
  split_ifs <;> rfl

theorem raiseInternal_withLinks (c : Option Code) (a : Option Addr) (z : Option ZoneId) (d : Word16)
    (u : ByPort PortUnit) (q : ByDeck Monitor) :
    raiseInternal c a z d (s.withLinks u q) = (raiseInternal c a z d s).withLinks u q := by
  cases c with
  | none => rfl
  | some c => exact raiseCode_withLinks _ u q

theorem raiseMark_withLinks (set : CounterSet) (i : CounterId) (m : Nat) (u : ByPort PortUnit) (q : ByDeck Monitor) :
    raiseMark set i m (s.withLinks u q) = (raiseMark set i m s).withLinks u q := by
  have hrec : (s.withLinks u q).record = s.record := rfl
  unfold raiseMark
  rw [hrec]
  dsimp only
  split_ifs
  · rfl
  · exact raiseInternal_withLinks ..
  · rfl
  · exact raiseInternal_withLinks ..

theorem bump_withLinks (set : CounterSet) (i : CounterId) (n : Nat) (u : ByPort PortUnit) (q : ByDeck Monitor) :
    bump set i n (s.withLinks u q) = (bump set i n s).withLinks u q := by
  have hold : counter (s.withLinks u q) set i = counter s set i := rfl
  have hset (v : Word32) : setCounter set i v (s.withLinks u q) = (setCounter set i v s).withLinks u q := rfl
  unfold bump
  rw [hold]
  dsimp only
  rw [hset, raiseMark_withLinks, raiseMark_withLinks]
  split_ifs <;> rfl

theorem bump_withPorts (set : CounterSet) (i : CounterId) (n : Nat) (u : ByPort PortUnit) :
    bump set i n { s with ports := u } = { bump set i n s with ports := u } := by
  simpa [State.withLinks] using bump_withLinks (s := s) set i n u s.quality

/-! ## The start of a transmission (R12) -/

theorem startTransmission_of_sending (h : (s.port p).sending.isSome = true) : startTransmission p s = s := by
  have hbusy : (s.port p).sending.isNone = false := by
    simpa [Option.isNone_iff_eq_none, Option.isSome_iff_ne_none] using h
  simp [startTransmission, hbusy]

theorem startTransmission_of_empty (h : (s.port p).tx = []) : startTransmission p s = s := by
  simp [startTransmission, nextToSend, h]

theorem startTransmission_of_next {e : TxEntry} {rest : List TxEntry} (hup : (s.port p).up = true)
    (hfree : (s.port p).sending = none) (hnext : nextToSend (s.port p).tx = some (e, rest)) :
    startTransmission p s =
      { s with ports := s.ports.put p { s.port p with tx := rest, sending := some e.frame } } := by
  have hfree' : ((s.port p).up && (s.port p).sending.isNone) = true := by simp [hup, hfree]
  unfold startTransmission
  dsimp only
  rw [if_pos hfree', hnext]
  rfl

/-- The first URGENT entry is sent next. -/
theorem nextToSend_urgent {pre post : List TxEntry} {e : TxEntry} (he : e.cls = .urgent)
    (hpre : ∀ x ∈ pre, x.cls = .normal) : nextToSend (pre ++ e :: post) = some (e, pre ++ post) := by
  have hnot : ∀ x ∈ pre, ¬decide (x.cls = .urgent) = true := fun x hx => by simp [hpre x hx]
  have hfind : (pre ++ e :: post).find? (·.cls = .urgent) = some e := by
    rw [List.find?_append, List.find?_eq_none.2 hnot]
    simp [he]
  have herase : (pre ++ e :: post).eraseP (·.cls = .urgent) = pre ++ post := by
    rw [List.eraseP_append_right _ hnot, List.eraseP_cons_of_pos (by simp [he])]
  simp only [nextToSend, hfind, herase]

/-- With no URGENT entry the oldest is sent next. -/
theorem nextToSend_normal {post : List TxEntry} {e : TxEntry} (h : ∀ x ∈ e :: post, x.cls = .normal) :
    nextToSend (e :: post) = some (e, post) := by
  have hfind : (e :: post).find? (·.cls = .urgent) = none :=
    List.find?_eq_none.2 fun x hx => by simp [h x hx]
  simp only [nextToSend, hfind]

/-! ## A frame offered (R13, R14) -/

theorem replaceSpeed_append {new e : TxEntry} {pre post : List TxEntry} (he : replacedBy e new = true)
    (hpre : ∀ x ∈ pre, replacedBy x new = false) : replaceSpeed new (pre ++ e :: post) = pre ++ new :: post := by
  induction pre with
  | nil => exact if_pos he
  | cons x pre ih =>
    obtain ⟨hx, hpre⟩ := List.forall_mem_cons.1 hpre
    have hx' : ¬replacedBy x new = true := by simp [hx]
    exact (if_neg hx').trans (congrArg _ (ih hpre))

/-- A SPEED command takes the place of a waiting one. -/
theorem offerTx_replaces {cls : TxClass} {f : TxFrame} {pre post : List TxEntry} {e : TxEntry} (hp : p ≠ .bridge)
    (hup : (s.port p).up = true) (htx : (s.port p).tx = pre ++ e :: post) (he : replacedBy e ⟨cls, f⟩ = true)
    (hpre : ∀ x ∈ pre, replacedBy x ⟨cls, f⟩ = false) :
    offerTx p cls f s = (true, { s with ports := s.ports.put p { s.port p with tx := pre ++ ⟨cls, f⟩ :: post } }) := by
  have hany : (s.port p).tx.any (replacedBy · ⟨cls, f⟩) = true := by
    simp [htx, he]
  have hcond : (decide (p ≠ .bridge) && (s.port p).up && (s.port p).tx.any (replacedBy · ⟨cls, f⟩)) = true := by
    simp [hp, hup, hany]
  rw [← replaceSpeed_append he hpre, ← htx]
  exact if_pos hcond

/-- No SPEED command waits that the frame would replace. -/
theorem offerTx_of_no_replacement {cls : TxClass} {f : TxFrame}
    (h : p = .bridge ∨ (s.port p).up = false ∨ ∀ x ∈ (s.port p).tx, replacedBy x ⟨cls, f⟩ = false) :
    offerTx p cls f s =
      if txRefuses p cls s then (false, bumpPort p ctrDrops s)
      else (true, startTransmission p (s.modPort p fun u => { u with tx := u.tx ++ [⟨cls, f⟩] })) := by
  have hno : ¬(decide (p ≠ .bridge) && (s.port p).up && (s.port p).tx.any (replacedBy · ⟨cls, f⟩)) = true := by
    rcases h with h | h | h
    · simp [h]
    · simp [h]
    · simp only [Bool.and_eq_true, List.any_eq_true, not_and]
      rintro - ⟨x, hx, hr⟩
      simp [h x hx] at hr
  exact if_neg hno

theorem offerTx_refused {cls : TxClass} {f : TxFrame}
    (h : p = .bridge ∨ (s.port p).up = false ∨ ∀ x ∈ (s.port p).tx, replacedBy x ⟨cls, f⟩ = false)
    (hfull : (s.port p).up = false ∨ txLimit p cls ≤ (s.port p).tx.length) :
    offerTx p cls f s = (false, bump (portSet p) 11 1 s) := by
  have hrefused : txRefuses p cls s = true := by
    rcases hfull with hdown | hfull
    · simp [txRefuses, hdown]
    · simp [txRefuses, hfull]
  rw [offerTx_of_no_replacement h, if_pos hrefused]
  rfl

theorem offerTx_admitted {cls : TxClass} {f : TxFrame}
    (h : p = .bridge ∨ (s.port p).up = false ∨ ∀ x ∈ (s.port p).tx, replacedBy x ⟨cls, f⟩ = false)
    (hup : (s.port p).up = true) (hroom : (s.port p).tx.length < txLimit p cls) :
    offerTx p cls f s = (true, startTransmission p
      { s with ports := s.ports.put p { s.port p with tx := (s.port p).tx ++ [⟨cls, f⟩] } }) := by
  have hadmitted : ¬txRefuses p cls s = true := by
    simp [txRefuses, hup, hroom]
  rw [offerTx_of_no_replacement h, if_neg hadmitted]
  rfl

/-- The frame leaves at once when nothing waits and the transmitter is free. -/
theorem startTransmission_alone {cls : TxClass} {f : TxFrame} (hup : (s.port p).up = true)
    (hfree : (s.port p).sending = none) (hempty : (s.port p).tx = []) :
    startTransmission p { s with ports := s.ports.put p { s.port p with tx := (s.port p).tx ++ [⟨cls, f⟩] } } =
      { s with ports := s.ports.put p { s.port p with sending := some f } } := by
  have hnext : nextToSend ((s.port p).tx ++ [⟨cls, f⟩]) = some (⟨cls, f⟩, []) := by
    cases cls <;> simp [nextToSend, hempty]
  rw [startTransmission_of_next (e := ⟨cls, f⟩) (rest := []) (by simpa [State.port] using hup)
    (by simpa [State.port] using hfree) (by simpa [State.port] using hnext)]
  simp only [State.port] at hempty ⊢
  simp [hempty]

/-! ## The end of a transmission (R12) -/

theorem transmissionEnds_of_sending {f : TxFrame} (h : (s.port p).sending = some f) :
    transmissionEnds p s =
      startTransmission p
        { bump (portSet p) 10 1 s with ports := s.ports.put p { s.port p with sending := none } } := by
  have hsend : (s.port p).sending.isSome = true := by simp [h]
  rw [← bump_withPorts]
  exact if_pos hsend

theorem transmissionEnds_of_idle (h : (s.port p).sending = none) : transmissionEnds p s = s := by
  simp [transmissionEnds, h]

end Transmitting

/-- Settles O5, by what `offerTx` and `transmissionEnds` do in each case. -/
theorem transmitQueue : Obligations.TransmitQueue := by
  unfold Obligations.TransmitQueue
  refine ⟨fun s p cls f => ⟨fun pre post e hp hup htx he hpre => offerTx_replaces hp hup htx he hpre,
    fun hno => ⟨fun hfull => ?_, fun hup hroom => ?_⟩⟩,
    fun s p f pre post e hrun hup hsend htx hnext => concluded_eq hrun ?_,
    fun s p f hrun hup hsend htx => concluded_eq hrun ?_,
    fun s p hrun hidle => concluded_eq hrun (transmissionEnds_of_idle hidle)⟩
  · refine offerTx_refused hno (hfull.imp_right fun h => ?_)
    cases p <;> cases cls <;> exact h
  · have hlim : (s.port p).tx.length < txLimit p cls := by cases p <;> cases cls <;> exact hroom
    rw [offerTx_admitted hno hup hlim]
    refine ⟨fun hbusy => ?_, fun hfree hempty => ?_⟩
    · rw [startTransmission_of_sending (by simpa [State.port] using hbusy)]
    · rw [startTransmission_alone hup hfree hempty]
  · have hnext' : nextToSend (s.port p).tx = some (e, pre ++ post) := by
      rw [htx]
      rcases hnext with ⟨he, hpre⟩ | ⟨rfl, hall⟩
      · exact nextToSend_urgent he hpre
      · exact nextToSend_normal hall
    rw [transmissionEnds_of_sending hsend,
      startTransmission_of_next (e := e) (rest := pre ++ post) (by simpa [State.port] using hup)
        (by simp [State.port]) (by simpa [State.port] using hnext')]
    simp [State.port]
  · rw [transmissionEnds_of_sending hsend, startTransmission_of_empty (by simpa [State.port] using htx)]

end Sys2Proof.Machine

namespace Sys2Proof.Machine

/-! # Line states (R15, R16, R50, R90, R171) -/

/-! ## Addresses and the copies of a deck line -/

theorem addr?_eq_some_iff (n : Nat) (a : Addr) : addr? n = some a ↔ a.val + 1 = n := by
  unfold addr?
  split
  · simp only [Option.some.injEq, Fin.ext_iff]
    omega
  · have := a.isLt
    simp only [reduceCtorEq, false_iff]
    omega

theorem lineStation_eq_some_iff (i : Fin 64) (l : MirrorLine) (a : Addr) :
    lineStation i l = some a ↔ a.val + 1 = i.val + 64 * l.tag.val := addr?_eq_some_iff _ _

/-- The attachment to a deck line alone. -/
def onlyOn : Deck → Attachment
  | .a => .a
  | .b => .b

theorem singleDeck_eq_some_iff (att : Attachment) (d : Deck) : singleDeck att = some d ↔ att = onlyOn d := by
  cases att <;> cases d <;> simp [singleDeck, onlyOn]

theorem isOnDeck_iff (s : State) (d : Deck) (i : Fin 64) :
    isOnDeck s d i = true ↔ (s.mirror.get i).valid = true ∧
      ∃ a : Addr, lineStation i (s.mirror.get i) = some a ∧ (s.stations.get a).attachment = onlyOn d := by
  cases h : lineStation i (s.mirror.get i) with
  | none => simp [isOnDeck, h]
  | some a => simp [isOnDeck, h, singleDeck_eq_some_iff]

theorem isOnDeck_congr {s t : State} (hm : t.mirror = s.mirror) (hst : t.stations = s.stations) (d : Deck)
    (i : Fin 64) : isOnDeck t d i = isOnDeck s d i := by
  simp only [isOnDeck, hm, hst]

section LineState

variable {s : State} {p : Port}

/-! ## Signal -/

theorem signal_up (h : (s.port p).up = true) : signal p s = s := if_pos h

theorem signal_down (h : (s.port p).up = false) :
    signal p s = portRises p { s with ports := s.ports.put p { s.port p with up := true } } :=
  if_neg (by simp [h])

/-! ## The bridge-loss timer -/

theorem bridgeLost_running {due : Nat} (h : s.bridgeLoss = .running due) :
    bridgeLost s = enterAutonomous { s with bridgeLoss := .stopped } := by
  simp [bridgeLost, h, Timer.isRunning]

theorem bridgeLost_stopped (h : s.bridgeLoss = .stopped) : bridgeLost s = s := by
  simp [bridgeLost, h, Timer.isRunning]

theorem enterAutonomous_eq :
    enterAutonomous s = if s.device = .run then enterAutonomous s else s := by
  by_cases h : s.device = .run <;> simp [enterAutonomous, h]

/-! ## Loss of signal -/

theorem loss_down {receiving : Bool} (h : (s.port p).up = false) : loss p receiving s = s := if_neg (by simp [h])

/-- What a loss of signal counts: a frame being received is a bad frame, then the frames flushed. -/
def lossCounted (p : Port) (receiving : Bool) (s : State) : State :=
  bump (portSet p) 12 (flushedByLoss (s.port p)) (if receiving then bump (portSet p) 1 1 s else s)

theorem reportBadFrame_withLinks : reportBadFrame p s = s.withLinks s.ports (reportBadFrame p s).quality := by
  cases p <;> rfl

/-- A bad frame raises one counter and changes the monitors. -/
theorem badFrame_withLinks : badFrame p s = (bump (portSet p) 1 1 s).withLinks s.ports (badFrame p s).quality := by
  have h := reportBadFrame_withLinks (s := bumpPort p ctrBad s) (p := p)
  rwa [bumpPort_ports] at h

/-- Of its monitor a bad frame changes the window count alone. -/
theorem badFrame_quality (d : Deck) :
    ∃ n, (badFrame (deckPort d) s).quality = s.quality.put d { s.quality.at d with count := n } := by
  by_cases hw : (s.quality.at d).window.isRunning = true
  · refine ⟨min 65535 ((s.quality.at d).count + 1), ?_⟩
    cases d <;> simp_all [badFrame, reportBadFrame, deckPort]
  · refine ⟨(s.quality.at d).count, ?_⟩
    have hkept : (badFrame (deckPort d) s).quality = s.quality.put d (s.quality.at d) := by
      cases d <;> simp_all [badFrame, reportBadFrame, deckPort, ByDeck.put, ByDeck.at]
    exact hkept

/-- The monitors after a loss of signal has been counted. -/
def lossQuality (p : Port) (receiving : Bool) (s : State) : ByDeck Monitor :=
  if receiving then (badFrame p s).quality else s.quality

/-- A port that becomes DOWN is emptied, and the frames lost are counted. -/
theorem flush_withLinks (x : State) (q : ByDeck Monitor) :
    bump (portSet p) 12 (flushedByLoss ((x.withLinks s.ports q).port p))
        ((x.withLinks s.ports q).modPort p fun u => { u with up := false, tx := [], sending := none }) =
      (bump (portSet p) 12 (flushedByLoss (s.port p)) x).withLinks
        (s.ports.put p { s.port p with up := false, tx := [], sending := none }) q := by
  have hport : (x.withLinks s.ports q).port p = s.port p := rfl
  have hmod (f : PortUnit → PortUnit) :
      (x.withLinks s.ports q).modPort p f = x.withLinks (s.ports.put p (f (s.port p))) q := rfl
  rw [hport, hmod, bump_withLinks]

theorem loss_up {receiving : Bool} (h : (s.port p).up = true) :
    loss p receiving s = portFalls p ((lossCounted p receiving s).withLinks
      (s.ports.put p { s.port p with up := false, tx := [], sending := none }) (lossQuality p receiving s)) := by
  unfold loss
  rw [if_pos h]
  cases receiving with
  | false => exact congrArg (portFalls p) (flush_withLinks s s.quality)
  | true =>
    have hcounted := flush_withLinks (s := s) (p := p) (bump (portSet p) 1 1 s) (badFrame p s).quality
    rw [← badFrame_withLinks] at hcounted
    exact congrArg (portFalls p) hcounted

@[simp] theorem lossCounted_record {receiving : Bool} : (lossCounted p receiving s).record = s.record := by
  cases receiving <;> simp [lossCounted]
@[simp] theorem lossCounted_now {receiving : Bool} : (lossCounted p receiving s).now = s.now := by
  cases receiving <;> simp [lossCounted]
@[simp] theorem lossCounted_mirror {receiving : Bool} : (lossCounted p receiving s).mirror = s.mirror := by
  cases receiving <;> simp [lossCounted]
@[simp] theorem lossCounted_stations {receiving : Bool} : (lossCounted p receiving s).stations = s.stations := by
  cases receiving <;> simp [lossCounted]
@[simp] theorem lossCounted_quality {receiving : Bool} : (lossCounted p receiving s).quality = s.quality := by
  cases receiving <;> simp [lossCounted]

theorem loss_bridge {receiving : Bool} (h : (s.port .bridge).up = true) :
    loss .bridge receiving s =
      { lossCounted .bridge receiving s with
        ports := s.ports.put .bridge { s.port .bridge with up := false, tx := [], sending := none }
        bridgeLoss := .running (s.now + 100000 * s.record.bridgeLossTime) } := by
  have hq : lossQuality .bridge receiving s = (lossCounted .bridge receiving s).quality := by
    cases receiving <;> simp [lossQuality, badFrame, reportBadFrame]
  rw [loss_up h, hq]
  simp [portFalls, State.withLinks, State.inSec]

/-- The window stops, the grade kept, whatever the bad frame had counted. -/
theorem lossQuality_put (d : Deck) {receiving : Bool} :
    (lossQuality (deckPort d) receiving s).put d
        { (lossQuality (deckPort d) receiving s).at d with window := .stopped, count := 0, cleanRun := 0 } =
      s.quality.put d { s.quality.at d with window := .stopped, count := 0, cleanRun := 0 } := by
  unfold lossQuality
  cases receiving with
  | false => rfl
  | true =>
    obtain ⟨n, hn⟩ := badFrame_quality (s := s) d
    simp [hn]

theorem loss_deck (d : Deck) {receiving : Bool} (h : (s.port (deckPort d)).up = true) :
    loss (deckPort d) receiving s =
      { lossCounted (deckPort d) receiving s with
        ports := s.ports.put (deckPort d) { s.port (deckPort d) with up := false, tx := [], sending := none }
        quality := s.quality.put d { s.quality.at d with window := .stopped, count := 0, cleanRun := 0 }
        mirror := Tab.of fun i =>
          if isOnDeck s d i then { s.mirror.get i with valid := false } else s.mirror.get i } := by
  have hfalls (t : State) : portFalls (deckPort d) t = invalidateDeck d (stopWindow d t) := by cases d <;> rfl
  have hon (i : Fin 64) : isOnDeck (stopWindow d ((lossCounted (deckPort d) receiving s).withLinks
      (s.ports.put (deckPort d) { s.port (deckPort d) with up := false, tx := [], sending := none })
      (lossQuality (deckPort d) receiving s))) d i = isOnDeck s d i :=
    isOnDeck_congr lossCounted_mirror lossCounted_stations d i
  rw [loss_up h, hfalls, ← lossQuality_put (receiving := receiving),
    ← lossCounted_mirror (p := deckPort d) (receiving := receiving)]
  unfold invalidateDeck
  simp only [hon]
  rfl

end LineState

/-- Settles O7: each report by the state of its port. -/
theorem lineStates : Obligations.LineStates := by
  unfold Obligations.LineStates
  refine ⟨⟨⟨⟨?bridgeUp, ?deckUp, fun s p hrun hup => concluded_eq hrun (signal_up hup)⟩, ?expiry,
    fun s hrun hstopped => concluded_eq hrun (bridgeLost_stopped hstopped)⟩, ?bridgeDown, ?deckDown,
    fun s p receiving hrun hdown => concluded_eq hrun (loss_down hdown)⟩, fun s d i => ?copies,
    lineStation_eq_some_iff⟩
  case bridgeUp => exact fun s hrun hdown => concluded_eq hrun (signal_down hdown)
  case deckUp =>
    intro s d hrun hdown
    refine concluded_eq hrun ((signal_down hdown).trans ?_)
    cases d <;> rfl
  case expiry =>
    intro s due hrun hrunning
    exact concluded_eq hrun ((bridgeLost_running hrunning).trans enterAutonomous_eq)
  case bridgeDown => exact fun s receiving hrun hup => concluded_eq hrun (loss_bridge hup)
  case deckDown => exact fun s d receiving hrun hup => concluded_eq hrun (loss_deck d hup)
  case copies =>
    simp only [← lineStation_eq_some_iff]
    exact isOnDeck_iff s d i

end Sys2Proof.Machine

namespace Sys2Proof.Machine

/-! # Frames that the part originates (R2, R6 to R9) -/

/-! ## Their payloads -/

/-- An ALERT, with the field codes of R8 as functions. -/
theorem alertFrame_eq (c : Code) (level : Nat) (gate : Gate) (a : Attributes) :
    alertFrame c level gate a = ⟨0xFF#8, 0x00#8, 0x05#8, 0x00#8, .bytes
      [BitVec.ofNat 8 c.val, BitVec.ofNat 8 level, gateByte gate, originByte a.origin,
        match a.station with
        | none => 0x00#8
        | some b => BitVec.ofNat 8 (b.val + 1),
        match a.zone with
        | none => 0xFF#8
        | some z => BitVec.ofNat 8 z.val,
        a.detail.extractLsb' 8 8, a.detail.extractLsb' 0 8]⟩ := rfl

theorem word16_hiByte_loByte (w : Word16) : word16 (hiByte w) (loByte w) = w := by
  apply BitVec.eq_of_getLsbD_eq
  intro i hi
  simp only [word16, hiByte, loByte, BitVec.getLsbD_append, BitVec.getLsbD_extractLsb']
  by_cases hlow : i < 8
  · simp [hlow]
  · simp [hlow, show 8 + (i - 8) = i by omega, show i - 8 < 8 by omega]

theorem twos16_toInt {x : Int} (hlo : -32768 ≤ x) (hhi : x ≤ 32767) : (twos16 x).toInt = x := by
  rw [twos16, BitVec.toInt_ofInt]
  exact Int.bmod_eq_of_le (by omega) (by omega)

theorem mirrorReplyPayload_eq (l : MirrorLine) :
    mirrorReplyPayload l =
      [l.inputs.extractLsb' 8 8, l.inputs.extractLsb' 0 8,
        match l.condition with | .ok => 0x00#8 | .warn => 0x01#8 | .fault => 0x02#8,
        0x01#8, BitVec.ofNat 8 l.age] ++
      match l.value with
      | none => []
      | some v => [v.extractLsb' 8 8, v.extractLsb' 0 8] := by
  obtain ⟨_, _, _, condition, value, _⟩ := l
  cases condition <;> cases value <;> rfl

theorem rejectFrame_eq (r : RejectReason) (f : Frame) :
    rejectFrame r f = ⟨f.source, 0x00#8, 0x09#8, f.tag, .bytes [rejectByte r, f.destination, f.tag]⟩ := rfl

/-! ## A job's COMMAND (R31) -/

section

variable {s : State} {a : Addr} {payload : List Byte}

theorem jobCommand_steered {d : Deck} (h : steer a s = some d) :
    jobCommand a payload s = sendTx (deckPort d) .urgent (jobFrame a payload) s := by
  simp [jobCommand, h]

theorem jobCommand_unsteered (h : steer a s = none) :
    jobCommand a payload s = bump (portSet (deckPort (dropDeck (s.stations.get a).attachment))) 11 1 s := by
  simp only [jobCommand, h]
  rfl

end

/-- Settles O6, by the bytes of each frame. -/
theorem framesBuiltAndSent : Obligations.FramesBuiltAndSent := by
  unfold Obligations.FramesBuiltAndSent
  refine ⟨⟨?alert, ⟨?speed, ?negative, fun m chime => rfl⟩, ?job, ?refusal, fun s h name r => rfl⟩,
    fun s payload => ⟨rfl, fun a => rfl⟩⟩
  case alert =>
    intro c level gate a
    obtain ⟨origin, _, _, _⟩ := a
    cases gate <;> cases origin <;> exact alertFrame_eq ..
  case speed =>
    intro out hlo hhi
    refine ⟨hiByte (twos16 out), loByte (twos16 out), rfl, ?_⟩
    rw [word16_hiByte_loByte]
    exact twos16_toInt (by omega) (by omega)
  case negative => decide
  case job =>
    refine fun s a payload => ⟨fun d h => jobCommand_steered h, fun h hatt => ?_, fun h hatt => ?_⟩
    · rw [jobCommand_unsteered h, hatt]
      rfl
    · rw [jobCommand_unsteered h]
      cases hatt' : (s.stations.get a).attachment with
      | a | both => rfl
      | b => exact absurd hatt' hatt
  case refusal =>
    refine fun f l => ⟨fun r => ?_, ?_⟩
    · cases r <;> rfl
    · exact congrArg (fun payload => TxFrame.mk f.source f.destination 0x04#8 f.tag (.bytes payload))
        (mirrorReplyPayload_eq l)

end Sys2Proof.Machine

namespace Sys2Proof.Machine

/-! # Frames from the bridge to stations (R26 to R29, R47) -/

/-! ## The byte of an address -/

@[simp] theorem addrByte_toNat (a : Addr) : (addrByte a).toNat = a.val + 1 := by
  have := a.isLt
  simp only [addrByte, byte, BitVec.toNat_ofNat]
  omega

@[simp] theorem addr?_succ (a : Addr) : addr? (a.val + 1) = some a := (addr?_eq_some_iff _ _).2 rfl

theorem addr?_addrByte (a : Addr) : addr? (addrByte a).toNat = some a := by simp

theorem addrByte_ne_zero (a : Addr) : addrByte a ≠ 0 := fun h => by
  have hzero := congrArg BitVec.toNat h
  simp at hzero

section BridgeFrames

variable {s : State} {f : Frame} {a : Addr}

/-! ## The frame taken -/

/-- The state once the head of a receive queue has been taken. -/
def State.withRx (s : State) (p : Port) (rest : List Frame) : State :=
  { s with ports := s.ports.put p { s.port p with rx := rest } }

theorem takeHead_cons {p : Port} {rest : List Frame} (use : Frame → State → State) (h : (s.port p).rx = f :: rest) :
    takeHead p use s = use f (s.withRx p rest) := by
  simp only [takeHead, h]
  rfl

@[simp] theorem withRx_bridge_deck (d : Deck) (rest : List Frame) :
    (s.withRx .bridge rest).port (deckPort d) = s.port (deckPort d) := by
  cases d <;> rfl

/-- A COMMAND of R26's length. -/
def IsCommand (f : Frame) : Prop := f.kind = 0x02#8 ∧ 1 ≤ f.payload.length ∧ f.payload.length ≤ 5

/-- A QUERY of R26's length. -/
def IsQuery (f : Frame) : Prop := f.kind = 0x03#8 ∧ f.payload = []

theorem bridgeFrame_of_ne_zero (h : f.destination ≠ 0) : bridgeFrame f s = stationFrame f s := if_neg h

theorem stationFrame_of_isCommand (h : IsCommand f) :
    stationFrame f s = match addr? f.destination.toNat with
      | none => broadcast true f s
      | some a => bridgeCommand a f s := by
  obtain ⟨hkind, hmin, hmax⟩ := h
  have hcommand : (decide (f.kind = kindCommand) && decide (1 ≤ f.payload.length) &&
      decide (f.payload.length ≤ 5)) = true := by
    simp [hkind, kindCommand, hmin, hmax]
  unfold stationFrame
  dsimp only
  rw [hcommand]
  rfl

theorem stationFrame_of_isQuery (h : IsQuery f) :
    stationFrame f s = match addr? f.destination.toNat with
      | none => broadcast false f s
      | some a => bridgeQuery a f s := by
  obtain ⟨hkind, hempty⟩ := h
  have hcommand : (decide (f.kind = kindCommand) && decide (1 ≤ f.payload.length) &&
      decide (f.payload.length ≤ 5)) = false := by
    simp [hempty]
  have hquery : (decide (f.kind = kindQuery) && decide (f.payload.length = 0)) = true := by
    simp [hkind, kindQuery, hempty]
  unfold stationFrame
  dsimp only
  rw [hcommand, hquery]
  rfl

theorem bridgeFrame_command (hdest : f.destination = addrByte a) (h : IsCommand f) :
    bridgeFrame f s = bridgeCommand a f s := by
  rw [bridgeFrame_of_ne_zero (hdest ▸ addrByte_ne_zero a), stationFrame_of_isCommand h, hdest, addr?_addrByte]

theorem bridgeFrame_query (hdest : f.destination = addrByte a) (h : IsQuery f) :
    bridgeFrame f s = bridgeQuery a f s := by
  rw [bridgeFrame_of_ne_zero (hdest ▸ addrByte_ne_zero a), stationFrame_of_isQuery h, hdest, addr?_addrByte]

theorem bridgeFrame_broadcast (hdest : f.destination = 0xFF#8) :
    (IsCommand f → bridgeFrame f s = broadcast true f s) ∧ (IsQuery f → bridgeFrame f s = broadcast false f s) := by
  have hne : f.destination ≠ 0 := by simp [hdest]
  have hall : addr? f.destination.toNat = none := by simp [hdest, addr?]
  refine ⟨fun h => ?_, fun h => ?_⟩
  · rw [bridgeFrame_of_ne_zero hne, stationFrame_of_isCommand h, hall]
  · rw [bridgeFrame_of_ne_zero hne, stationFrame_of_isQuery h, hall]

/-! ## Known stations, mirror hits, owners -/

theorem isKnown_iff :
    isKnown s a = true ↔ (s.stations.get a).role ≠ .unused ∧ (s.stations.get a).rxEnable = true := by
  simp [isKnown, inUse]

theorem isHit_iff :
    isHit s a = true ↔
      (s.mirror.get (mirrorIndex a)).valid = true ∧ (s.mirror.get (mirrorIndex a)).tag = mirrorTag a ∧
        (s.mirror.get (mirrorIndex a)).age ≤ (s.stations.get a).freshness ∧ (s.stationDyn.get a).status = .heard := by
  simp [isHit, holdsCopy, isHeard, and_assoc]

theorem anyOwned_iff : anyOwned s = true ↔ ∃ a : Addr, s.owners.get a ≠ .free := by
  simp [anyOwned]

theorem bridgeCommand_unknown (h : ¬isKnown s a = true) : bridgeCommand a f s = reject .unknown f s := by
  simp [bridgeCommand, h]

theorem bridgeCommand_owned (h : isKnown s a = true) (howned : s.owners.get a ≠ .free) :
    bridgeCommand a f s = reject .owned f s := by
  simp [bridgeCommand, h, howned]

theorem bridgeCommand_free (h : isKnown s a = true) (hfree : s.owners.get a = .free) :
    bridgeCommand a f s = sendDown a f s := by
  simp [bridgeCommand, h, hfree]

theorem bridgeQuery_unknown (h : ¬isKnown s a = true) : bridgeQuery a f s = reject .unknown f s := by
  simp [bridgeQuery, h]

theorem bridgeQuery_hit (h : isKnown s a = true) (hhit : isHit s a = true) :
    bridgeQuery a f s =
      sendTx .bridge .normal (mirrorReply f (s.mirror.get (mirrorIndex a))) (bump .global 0 1 s) := by
  simp only [bridgeQuery, h, hhit]
  rfl

theorem bridgeQuery_miss (h : isKnown s a = true) (hmiss : ¬isHit s a = true) :
    bridgeQuery a f s = sendDown a f (bump .global 1 1 s) := by
  simp only [bridgeQuery, h, hmiss]
  rfl

/-! ## Steering (R30) and the line's queue -/

theorem steer_congr {t : State} (hstations : t.stations = s.stations) (hports : t.ports = s.ports)
    (hquality : t.quality = s.quality) : steer a t = steer a s := by
  unfold steer steerBy isImpaired State.port
  rw [hstations, hports, hquality]

/-- A frame is steered to a line that is UP. -/
theorem up_of_steer {d : Deck} (h : steer a s = some d) : (s.port (deckPort d)).up = true := by
  cases hatt : (s.stations.get a).attachment with
  | a | b =>
    simp only [steer, steerBy, hatt, Option.ite_none_right_eq_some, Option.some.injEq] at h
    obtain ⟨hup, rfl⟩ := h
    exact hup
  | both =>
    simp only [steer, steerBy, hatt] at h
    split_ifs at h with hb ha hb'
    · obtain rfl : Deck.b = d := Option.some.inj h
      have hsound : isImpaired s .b = false := by simpa using (Bool.and_eq_true_iff.1 hb).2
      simpa using (Bool.or_eq_false_iff.1 hsound).1
    · obtain rfl : Deck.a = d := Option.some.inj h
      exact ha
    · obtain rfl : Deck.b = d := Option.some.inj h
      exact hb'

theorem sendDown_unsteered (h : steer a s = none) : sendDown a f s = reject .line f s := by
  simp [sendDown, h]

theorem sendDown_steered {d : Deck} (h : steer a s = some d) :
    sendDown a f s =
      if (offerTx (deckPort d) .normal f.forward s).1 = true then sendTx (deckPort d) .normal f.forward s
      else reject .full f (sendTx (deckPort d) .normal f.forward s) := by
  simp only [sendDown, h]
  rfl

theorem txLimit_deck_normal (d : Deck) : txLimit (deckPort d) .normal = 12 := by
  cases d <;> rfl

theorem deckPort_ne_bridge (d : Deck) : deckPort d ≠ .bridge := by
  cases d <;> simp [deckPort]

/-- Below its limit a queue admits every frame. -/
theorem offerTx_admits {p : Port} {cls : TxClass} {g : TxFrame} (hup : (s.port p).up = true)
    (hroom : (s.port p).tx.length < txLimit p cls) : (offerTx p cls g s).1 = true := by
  have hadmitted : txRefuses p cls s = false := by simp [txRefuses, hup, hroom]
  unfold offerTx
  dsimp only
  simp only [hadmitted, Bool.false_eq_true, if_false]
  split <;> rfl

theorem sendDown_room {d : Deck} (h : steer a s = some d) (hroom : (s.port (deckPort d)).tx.length < 12) :
    sendDown a f s = sendTx (deckPort d) .normal f.forward s := by
  rw [sendDown_steered h, if_pos (offerTx_admits (up_of_steer h) (by rwa [txLimit_deck_normal]))]

theorem sendDown_full {d : Deck} (h : steer a s = some d) (hfull : 12 ≤ (s.port (deckPort d)).tx.length)
    (hno : ∀ x ∈ (s.port (deckPort d)).tx, replacedBy x ⟨.normal, f.forward⟩ = false) :
    sendDown a f s = reject .full f (bump (portSet (deckPort d)) 11 1 s) := by
  have hrefused := offerTx_refused (cls := .normal) (.inr (.inr hno)) (.inr (by rwa [txLimit_deck_normal]))
  rw [sendDown_steered h, sendTx, hrefused]
  rfl

theorem sendDown_replaces {d : Deck} {pre post : List TxEntry} {e : TxEntry} (h : steer a s = some d)
    (htx : (s.port (deckPort d)).tx = pre ++ e :: post) (he : replacedBy e ⟨.normal, f.forward⟩ = true)
    (hpre : ∀ x ∈ pre, replacedBy x ⟨.normal, f.forward⟩ = false) :
    sendDown a f s =
      { s with
        ports := s.ports.put (deckPort d)
          { s.port (deckPort d) with tx := pre ++ ⟨.normal, f.forward⟩ :: post } } := by
  rw [sendDown_steered h, sendTx, offerTx_replaces (deckPort_ne_bridge d) (up_of_steer h) htx he hpre]
  rfl

/-! ## SPEED COMMANDs among the bridge's frames (R14) -/

/-- A waiting NORMAL SPEED command for the station of the frame. -/
def Replaceable (f : Frame) (e : TxEntry) : Prop :=
  e.cls = .normal ∧ e.frame.isSpeed = true ∧ e.frame.destination = f.destination

theorem isSpeed_forward (hdest : f.destination = addrByte a) (hkind : f.kind = 0x02#8) :
    f.forward.isSpeed = true ↔ f.payload.head? = some 0x30#8 := by
  have hcommand : f.forward.kind = kindCommand := hkind
  have hstation : addr? f.forward.destination.toNat = some a := by
    rw [← addr?_addrByte a, ← hdest]
    rfl
  have hcontent : f.forward.content = .bytes f.payload := rfl
  unfold TxFrame.isSpeed
  rw [hcommand, hstation, hcontent]
  cases f.payload with
  | nil => simp
  | cons v rest => simp [verbSpeed]

theorem replacedBy_forward_iff (hdest : f.destination = addrByte a) (hkind : f.kind = 0x02#8) (e : TxEntry) :
    replacedBy e ⟨.normal, f.forward⟩ = true ↔ f.payload.head? = some 0x30#8 ∧ Replaceable f e := by
  have hto : f.forward.destination = f.destination := rfl
  simp only [replacedBy, Bool.and_eq_true, decide_eq_true_eq, isSpeed_forward hdest hkind, Replaceable, hto]
  tauto

/-- A QUERY is no SPEED command and replaces nothing. -/
theorem replacedBy_query (h : f.kind = 0x03#8) (e : TxEntry) : replacedBy e ⟨.normal, f.forward⟩ = false := by
  have hkind : (f.forward.kind == kindCommand) = false := by
    rw [show f.forward.kind = 0x03#8 from h]
    rfl
  simp [replacedBy, TxFrame.isSpeed, hkind]

/-! ## Broadcasts (R29) -/

theorem broadcast_barred (h : anyOwned s = true) : broadcast true f s = reject .owned f s := by
  simp [broadcast, h]

theorem broadcast_copied {isCommand : Bool} (h : ¬(isCommand = true ∧ anyOwned s = true)) :
    broadcast isCommand f s = copyDown f s := by
  simp [broadcast, h]

theorem copyDown_eq :
    copyDown f s =
      match (s.port .deckA).up, (s.port .deckB).up with
      | false, false => reject .line f s
      | true, false => sendTx .deckA .normal f.forward s
      | false, true => sendTx .deckB .normal f.forward s
      | true, true => sendTx .deckB .normal f.forward (sendTx .deckA .normal f.forward s) := by
  unfold copyDown
  cases (s.port .deckA).up <;> cases (s.port .deckB).up <;> rfl

end BridgeFrames

/-- Settles O14, by the first of R27's four tests that fails. -/
theorem bridgeCommandFourTests : Obligations.BridgeCommandFourTests := by
  unfold Obligations.BridgeCommandFourTests
  intro s f rest a hrun hrx hdest hkind hmin hmax taken rejected known
  have hcommand : takeHead .bridge bridgeFrame s = bridgeCommand a f taken :=
    (takeHead_cons bridgeFrame hrx).trans (bridgeFrame_command hdest ⟨hkind, hmin, hmax⟩)
  have hport (d : Deck) : taken.port (deckPort d) = s.port (deckPort d) := withRx_bridge_deck d rest
  have hpassed (hk : known) (hfree : s.owners.get a = .free) :
      takeHead .bridge bridgeFrame s = sendDown a f taken :=
    hcommand.trans (bridgeCommand_free (isKnown_iff.2 hk) hfree)
  refine ⟨fun hk => ?unknown, fun hk howned => ?owned, fun hk hfree hsteer => ?line, ?speed⟩
  case unknown => exact concluded_eq hrun (hcommand.trans (bridgeCommand_unknown (mt isKnown_iff.1 hk)))
  case owned => exact concluded_eq hrun (hcommand.trans (bridgeCommand_owned (isKnown_iff.2 hk) howned))
  case line => exact concluded_eq hrun ((hpassed hk hfree).trans (sendDown_unsteered hsteer))
  case speed =>
    intro speed replaced
    refine ⟨fun d hk hfree hsteer hfull hno => ?full, fun d pre post e hk hfree hsteer htx hspeed he hpre => ?replace,
      fun d hk hfree hsteer hroom => ?room⟩
    case full =>
      refine concluded_eq hrun ((hpassed hk hfree).trans (sendDown_full hsteer (by rwa [hport]) fun x hx => ?_))
      rw [hport] at hx
      rw [← Bool.not_eq_true, replacedBy_forward_iff hdest hkind]
      exact fun ⟨hspeed, hrep⟩ => hno.elim (· hspeed) (· x hx hrep)
    case replace =>
      have hput := sendDown_replaces hsteer (hport d ▸ htx) ((replacedBy_forward_iff hdest hkind e).2 ⟨hspeed, he⟩)
        fun x hx => Bool.eq_false_iff.2 fun hx' => hpre x hx ((replacedBy_forward_iff hdest hkind x).1 hx').2
      rw [hport] at hput
      exact concluded_eq hrun ((hpassed hk hfree).trans hput)
    case room =>
      exact concluded_eq hrun ((hpassed hk hfree).trans (sendDown_room hsteer (by rwa [hport])))

/-- Settles O15: a QUERY by its hit or miss, a broadcast by the lines that are UP. -/
theorem bridgeQueryAndBroadcast : Obligations.BridgeQueryAndBroadcast := by
  unfold Obligations.BridgeQueryAndBroadcast
  refine ⟨?query, ?broadcast⟩
  case query =>
    intro s f rest a hrun hrx hdest hkind hempty taken rejected cfg known l hit condition value
    have hquery : takeHead .bridge bridgeFrame s = bridgeQuery a f taken :=
      (takeHead_cons bridgeFrame hrx).trans (bridgeFrame_query hdest ⟨hkind, hempty⟩)
    have hport (d : Deck) : (bump .global 1 1 taken).port (deckPort d) = s.port (deckPort d) :=
      (bump_port ..).trans (withRx_bridge_deck d rest)
    have hsteered : steer a (bump .global 1 1 taken) = steer a taken :=
      steer_congr (bump_stations ..) (bump_ports ..) (bump_quality ..)
    have hmissed (hk : known) (hmiss : ¬hit) :
        takeHead .bridge bridgeFrame s = sendDown a f (bump .global 1 1 taken) :=
      hquery.trans (bridgeQuery_miss (isKnown_iff.2 hk) (mt isHit_iff.1 hmiss))
    refine ⟨fun hk => ?unknown, fun hk hhit => ?hit, fun hk hmiss hsteer => ?line,
      fun d hk hmiss hsteer hroom => ?room, fun d hk hmiss hsteer hfull => ?full⟩
    case unknown => exact concluded_eq hrun (hquery.trans (bridgeQuery_unknown (mt isKnown_iff.1 hk)))
    case hit =>
      have hreply : mirrorReply f l = ⟨f.source, f.destination, 0x04#8, f.tag, .bytes
          ([l.inputs.extractLsb' 8 8, l.inputs.extractLsb' 0 8, condition, 0x01#8, BitVec.ofNat 8 l.age] ++ value)⟩ :=
        congrArg (fun payload => TxFrame.mk f.source f.destination 0x04#8 f.tag (.bytes payload))
          (mirrorReplyPayload_eq l)
      rw [← hreply]
      exact concluded_eq hrun (hquery.trans (bridgeQuery_hit (isKnown_iff.2 hk) (isHit_iff.2 hhit)))
    case line => exact concluded_eq hrun ((hmissed hk hmiss).trans (sendDown_unsteered (hsteered.trans hsteer)))
    case room =>
      exact concluded_eq hrun ((hmissed hk hmiss).trans (sendDown_room (hsteered.trans hsteer) (by rwa [hport])))
    case full =>
      exact concluded_eq hrun ((hmissed hk hmiss).trans
        (sendDown_full (hsteered.trans hsteer) (by rwa [hport]) fun x _ => replacedBy_query hkind x))
  case broadcast =>
    intro s f rest hrun hrx hdest hkind taken rejected barred upA upB
    have hrejected (reason : RejectReason) :
        reject reason f taken = sendTx .bridge .urgent
          ⟨f.source, 0x00#8, 0x09#8, f.tag, .bytes [rejectByte reason, 0xFF#8, f.tag]⟩
          (bump .global 12 1 (bump .global (rejectCounter reason) 1 taken)) := by
      rw [← hdest]
      rfl
    have howned : anyOwned taken = true ↔ ∃ a : Addr, s.owners.get a ≠ .free := anyOwned_iff
    obtain ⟨isCommand, hcommand, htaken⟩ : ∃ b : Bool, (b = true ↔ f.kind = 0x02#8) ∧
        takeHead .bridge bridgeFrame s = broadcast b f taken := by
      rcases hkind with hkind | hkind
      · exact ⟨true, by simp [hkind.1], (takeHead_cons bridgeFrame hrx).trans ((bridgeFrame_broadcast hdest).1 hkind)⟩
      · exact ⟨false, by simp [hkind.1], (takeHead_cons bridgeFrame hrx).trans ((bridgeFrame_broadcast hdest).2 hkind)⟩
    have hcopied (hfree : ¬barred) : takeHead .bridge bridgeFrame s =
        match upA, upB with
        | false, false => reject .line f taken
        | true, false => sendTx .deckA .normal f.forward taken
        | false, true => sendTx .deckB .normal f.forward taken
        | true, true => sendTx .deckB .normal f.forward (sendTx .deckA .normal f.forward taken) := by
      have hpasses : ¬(isCommand = true ∧ anyOwned taken = true) := by rwa [hcommand, howned]
      exact htaken.trans ((broadcast_copied hpasses).trans copyDown_eq)
    refine ⟨fun hbarred => ?_, fun hfree hA hB => ?_, fun hfree hA hB => ?_, fun hfree hA hB => ?_,
      fun hfree hA hB => ?_⟩
    · obtain ⟨hkind, hsome⟩ := hbarred
      obtain rfl := hcommand.2 hkind
      exact concluded_eq hrun (htaken.trans ((broadcast_barred (howned.2 hsome)).trans (hrejected .owned)))
    · refine concluded_eq hrun ((hcopied hfree).trans ?_)
      rw [hA, hB]
      exact hrejected .line
    all_goals
      refine concluded_eq hrun ((hcopied hfree).trans ?_)
      rw [hA, hB]
end Sys2Proof.Machine

namespace Sys2Proof.Machine

/-! # Frames from the deck (R21 to R25) -/

/-! ## What a report of points leaves unchanged -/

theorem Tab.put_put {α : Type} {n : Nat} (t : Vector α n) (i : Fin n) (x y : α) :
    Tab.put (Tab.put t i x) i y = Tab.put t i y := Vector.set_set ..

section Untouched

variable {s t u : State}

/-- Of what no job changes, the mirror, the map counts and the timers alone may differ. -/
def Untouched (s t : State) : Prop :=
  t.kept = { s.kept with mirror := t.mirror, mapCounts := t.mapCounts, timerDyn := t.timerDyn }

namespace Untouched

protected theorem refl : Untouched s s := rfl

protected theorem trans (h : Untouched s t) (k : Untouched t u) : Untouched s u := by
  unfold Untouched at *
  rw [k, h]

theorem of_core (h : t.core = s.core) : Untouched s t := by
  have hkept : t.kept = s.kept := congrArg Prod.fst h
  have hmirror : t.mirror = s.mirror := congrArg Kept.mirror hkept
  have hcounts : t.mapCounts = s.mapCounts := congrArg Kept.mapCounts hkept
  have htimers : t.timerDyn = s.timerDyn := congrArg Kept.timerDyn hkept
  unfold Untouched
  rw [hkept, hmirror, hcounts, htimers]
  rfl

protected theorem foldl {α : Type} {l : List α} {f : State → α → State} (h : Untouched s t)
    (hf : ∀ t x, Untouched t (f t x)) : Untouched s (l.foldl f t) := by
  induction l generalizing t with
  | nil => exact h
  | cons x l ih => exact ih (h.trans (hf t x))

protected theorem ite {c : Prop} [Decidable c] (ht : Untouched s t) (hu : Untouched s u) :
    Untouched s (if c then t else u) := by
  split
  · exact ht
  · exact hu

theorem stations (h : Untouched s t) : t.stations = s.stations := congrArg Kept.stations h
theorem stationDyn (h : Untouched s t) : t.stationDyn = s.stationDyn := congrArg Kept.stationDyn h

protected theorem modTimer (h : Untouched s t) {ch f} : Untouched s (t.modTimer ch f) := h.trans rfl
protected theorem modMirror (h : Untouched s t) {i f} : Untouched s (t.modMirror i f) := h.trans rfl
protected theorem raiseCode (h : Untouched s t) {x} : Untouched s (raiseCode x t) :=
  h.trans (of_core (raiseCode_core ..))
protected theorem raiseInternal (h : Untouched s t) {c a z d} : Untouched s (raiseInternal c a z d t) :=
  h.trans (of_core (raiseInternal_core ..))
protected theorem bumpGlobal (h : Untouched s t) {i} : Untouched s (bumpGlobal i t) :=
  h.trans (of_core (bumpGlobal_core ..))
protected theorem sendTx (h : Untouched s t) {p cls f} : Untouched s (sendTx p cls f t) :=
  h.trans (of_core (sendTx_core ..))

protected theorem reportCondition (h : Untouched s t) {src c b a} : Untouched s (reportCondition src c b a t) := by
  refine h.trans ?_
  rw [reportCondition_frame]
  exact rfl

/-! The Timer Bank (R66, R67). -/

protected theorem raiseChannel (h : Untouched s t) {ch} : Untouched s (raiseChannel ch t) := by
  unfold Machine.raiseChannel
  dsimp only
  split
  · exact h.raiseInternal
  · exact h.raiseInternal

protected theorem channelSource (h : Untouched s t) {ch active} : Untouched s (channelSource ch active t) := by
  unfold Machine.channelSource
  refine .ite ?_ h
  split
  · exact h
  · exact h
  · exact .ite (.ite h.modTimer h.modTimer.raiseChannel) h
  · exact .ite (.ite h.modTimer h) h.modTimer

protected theorem timerReports (h : Untouched s t) {a old new} : Untouched s (timerReports a old new t) :=
  h.foldl fun _ _ => .ite (Untouched.refl.foldl fun _ _ => .ite Untouched.refl.channelSource .refl) .refl

/-! The event maps (R35). -/

protected theorem setMapCount (h : Untouched s t) {a c n} : Untouched s (setMapCount a c n t) := by
  refine h.trans ?_
  have hcounted : Untouched t { t with mapCounts := Tab.put t.mapCounts c n } := rfl
  exact .ite hcounted hcounted.reportCondition

protected theorem judgeMap (h : Untouched s t) {a old new m} : Untouched s (judgeMap a old new m t) :=
  .ite h.setMapCount.raiseCode (.ite h.setMapCount h)

/-! The jobs, whose operations keep the core (`Orderly.frame`). -/

protected theorem roleReport (h : Untouched s t) {a old new} : Untouched s (roleReport a old new t) :=
  h.trans (of_core (Orderly.refl.roleReport).frame)

/-- The filtered points become new, and nothing else that is no job's but the map counts and the timers. -/
theorem pointsBecome (a : Addr) (new : Word16) :
    Untouched (t.modStation a fun d => { d with filtered := new }) (pointsBecome a new t) := by
  unfold Machine.pointsBecome
  dsimp only
  split
  · next hsame =>
    have hold : t.modStation a (fun d => { d with filtered := new }) = t := by
      rw [← hsame]
      exact congrArg (fun d => { t with stationDyn := d }) (Tab.put_get t.stationDyn a)
    rw [hold]
    exact .refl
  · have htold := (Untouched.refl (s := t.modStation a fun d => { d with filtered := new })).roleReport (a := a)
      (old := (t.stationDyn.get a).filtered) (new := new)
    exact .ite htold.timerReports (htold.timerReports.foldl fun _ _ => Untouched.refl.judgeMap)

protected theorem fillMirror (h : Untouched s t) {a r src} : Untouched s (fillMirror a r src t) :=
  .ite (.ite h.modMirror.bumpGlobal h.modMirror) h

end Untouched
end Untouched

/-! ## What a frame carries (R5, R6) -/

theorem conditionOf_eq (c : Byte) :
    conditionOf c = if c = 0x00#8 then .ok else if c = 0x01#8 then .warn else .fault := by
  unfold conditionOf
  split
  · next h => rw [if_pos (BitVec.eq_of_toNat_eq h)]
  · next h =>
    obtain rfl : c = 0x01#8 := BitVec.eq_of_toNat_eq h
    rfl
  · next h0 h1 => rw [if_neg fun h => h0 (congrArg BitVec.toNat h), if_neg fun h => h1 (congrArg BitVec.toNat h)]

/-- The value field of a STATE or REPLY payload: absent, or its last two bytes. -/
def ValueField (tail : List Byte) (v : Option Word16) : Prop :=
  (tail = [] ∧ v = none) ∨ ∃ vh vl : Byte, tail = [vh, vl] ∧ v = some (vh ++ vl)

section DeckFrames

variable {s : State} {f : Frame} {a : Addr} {d : Deck} {hi lo c src age : Byte} {tail : List Byte} {v : Option Word16}

theorem stateReport_eq (h : ValueField tail v) :
    stateReport (hi :: lo :: c :: tail) = some ⟨hi ++ lo, conditionOf c, v⟩ := by
  obtain ⟨rfl, rfl⟩ | ⟨vh, vl, rfl, rfl⟩ := h <;> rfl

theorem replyReport_eq (h : ValueField tail v) :
    replyReport (hi :: lo :: c :: src :: age :: tail) = some ⟨hi ++ lo, conditionOf c, v⟩ := by
  obtain ⟨rfl, rfl⟩ | ⟨vh, vl, rfl, rfl⟩ := h <;> rfl

theorem reportOf_state (hkind : f.kind = 0x01#8) (hpayload : f.payload = hi :: lo :: c :: tail)
    (h : ValueField tail v) : reportOf f = some (.state, ⟨hi ++ lo, conditionOf c, v⟩) := by
  have hstate : f.kind = kindState := hkind
  rw [reportOf, if_pos hstate, hpayload, stateReport_eq h]
  rfl

theorem reportOf_reply (hkind : f.kind = 0x04#8) (hpayload : f.payload = hi :: lo :: c :: src :: age :: tail)
    (h : ValueField tail v) : reportOf f = some (.reply, ⟨hi ++ lo, conditionOf c, v⟩) := by
  have hreply : f.kind = kindReply := hkind
  have hstate : f.kind ≠ kindState := by simp [hkind, kindState]
  rw [reportOf, if_neg hstate, if_pos hreply, hpayload, replyReport_eq h]
  rfl

/-! ## A frame of a station in use -/

/-- The station is HEARD with silence count 0. -/
def State.withHeard (s : State) (a : Addr) : State :=
  { s with stationDyn := Tab.put s.stationDyn a { s.stationDyn.get a with silence := 0, status := .heard } }

/-- Of a station that was SILENT the user is told. -/
theorem hearStation_eq :
    hearStation a s =
      if (s.stationDyn.get a).status = .heard then s.withHeard a else supervisionReport a false (s.withHeard a) := by
  by_cases h : (s.stationDyn.get a).status = .heard
  · rw [hearStation, isHeard, decide_eq_true h, if_pos h]
    rfl
  · rw [hearStation, isHeard, decide_eq_false h, if_neg h]
    rfl

theorem hearStation_kept : (hearStation a s).kept = (s.withHeard a).kept := by
  rw [hearStation_eq]
  split
  · rfl
  · exact congrArg Prod.fst (Orderly.refl.supervisionReport).frame

theorem hearStation_stations : (hearStation a s).stations = s.stations := congrArg Kept.stations hearStation_kept

theorem hearStation_stationDyn :
    (hearStation a s).stationDyn =
      Tab.put s.stationDyn a { s.stationDyn.get a with silence := 0, status := .heard } :=
  congrArg Kept.stationDyn hearStation_kept

theorem deckFrame_known {src : FillSource} {r : Report} (hsource : f.source = addrByte a)
    (hused : (s.stations.get a).role ≠ .unused) (hrx : (s.stations.get a).rxEnable = true)
    (hreport : reportOf f = some (src, r)) :
    deckFrame d f s = match src with
      | .state => takeState a f r (hearStation a s)
      | .reply => takeReply a f r (hearStation a s) := by
  cases src with
  | state | reply => simp [deckFrame, hsource, hused, hrx, hreport]

/-- The station's items, once it has been heard and its points, condition and value have been reported. -/
def StationDyn.reported (d : StationDyn) (r : Report) : StationDyn :=
  { d with raw := r.inputs, condition := r.condition, value := r.value, silence := 0, status := .heard }

theorem hearStation_modStation (r : Report) :
    (hearStation a s).modStation a (fun d => { d with raw := r.inputs, condition := r.condition, value := r.value }) =
      { hearStation a s with stationDyn := Tab.put s.stationDyn a ((s.stationDyn.get a).reported r) } := by
  unfold State.modStation Tab.upd
  rw [hearStation_stationDyn, Tab.get_put_self, Tab.put_put]
  rfl

/-- The points of a STATE frame after the line filter: with check time 0 they pass at once. -/
def filteredBy (cfg : StationRecord) (r : Report) (d : StationDyn) : Word16 :=
  if cfg.checkTime = 0 then r.inputs else d.filtered

/-- The state in which the frame's points, raw and filtered, have been entered and nothing has yet been told of them. -/
def State.entered (s : State) (a : Addr) (r : Report) (points : Word16) : State :=
  { hearStation a s with
    stationDyn := Tab.put s.stationDyn a { (s.stationDyn.get a).reported r with filtered := points } }

theorem judged_untouched (r : Report) :
    let reported : State :=
      { hearStation a s with stationDyn := Tab.put s.stationDyn a ((s.stationDyn.get a).reported r) }
    Untouched (s.entered a r (filteredBy (s.stations.get a) r (s.stationDyn.get a)))
      (if (s.stations.get a).checkTime = 0 then pointsBecome a r.inputs reported else reported) := by
  intro reported
  unfold filteredBy
  split
  · have hentered : s.entered a r r.inputs = reported.modStation a fun d => { d with filtered := r.inputs } := by
      simp [reported, State.modStation, Tab.upd, Tab.put_put, State.entered]
    rw [hentered]
    exact Untouched.pointsBecome a r.inputs
  · exact .refl

theorem takeState_hearStation (r : Report) :
    let cfg := s.stations.get a
    let reported : State :=
      { hearStation a s with stationDyn := Tab.put s.stationDyn a ((s.stationDyn.get a).reported r) }
    let judged := if cfg.checkTime = 0 then pointsBecome a r.inputs reported else reported
    let mirrored := if cfg.policy = .drop then judged else fillMirror a r .state judged
    takeState a f r (hearStation a s) =
      if cfg.policy = .forward then sendTx .bridge .normal f.forward mirrored else mirrored := by
  unfold takeState
  rw [hearStation_modStation, hearStation_stations]
  exact rfl

theorem takeReply_hearStation (r : Report) :
    let forwarded := sendTx .bridge .normal f.forward (hearStation a s)
    takeReply a f r (hearStation a s) =
      if (s.stations.get a).policy = .drop then forwarded else fillMirror a r .reply forwarded := by
  intro forwarded
  have hstations : forwarded.stations = s.stations :=
    ((Untouched.refl (s := hearStation a s)).sendTx).stations.trans hearStation_stations
  rw [← hstations]
  rfl

theorem entered_kept (r : Report) (points : Word16) :
    (s.entered a r points).kept = { s.kept with stationDyn := (s.entered a r points).stationDyn } :=
  congrArg (fun k => { k with stationDyn := (s.entered a r points).stationDyn }) hearStation_kept

/-- With unchanged filtered points nothing is told. -/
theorem pointsBecome_same {points : Word16} (h : points = (s.stationDyn.get a).filtered) :
    pointsBecome a points s = s := if_pos h.symm

end DeckFrames

/-- Settles O10: `hearStation` and `takeState` in turn, each leaving the rest untouched. -/
theorem deckStateTaken : Obligations.DeckStateTaken := by
  unfold Obligations.DeckStateTaken
  intro s d f rest a hi lo c tail v hrun hrx hsource hkind hpayload hvalue hused hen
    inputs condition old cfg filtered new p taken heard told reported judged mirrored t
  have hreport : reportOf f = some (.state, ⟨inputs, condition, v⟩) := by
    rw [reportOf_state hkind hpayload hvalue, conditionOf_eq]
  have htold : hearStation a taken = told := hearStation_eq
  have hjudged : Untouched (taken.entered a ⟨inputs, condition, v⟩ filtered) judged := by
    have hmodel := judged_untouched (s := taken) (a := a) ⟨inputs, condition, v⟩
    rw [htold] at hmodel
    exact hmodel
  have ht : Untouched (taken.entered a ⟨inputs, condition, v⟩ filtered) t := by
    have hmirrored : Untouched (taken.entered a ⟨inputs, condition, v⟩ filtered) mirrored :=
      .ite hjudged hjudged.fillMirror
    exact .ite hmirrored.sendTx hmirrored
  refine ⟨concluded_eq hrun ?_, ⟨ht.stationDyn, ?_⟩, fun hsame => ?_⟩
  · have htaken := takeState_hearStation (f := f) (s := taken) (a := a) ⟨inputs, condition, v⟩
    rw [htold] at htaken
    exact (takeHead_cons (deckFrame d) hrx).trans
      ((deckFrame_known (d := d) (s := taken) hsource hused hen hreport).trans (htold ▸ htaken))
  · have hkept : t.kept = _ := ht
    rw [hkept, entered_kept, ht.stationDyn]
  · have hpoints (points : Word16) (hp : points = old.filtered) : pointsBecome a points reported = reported :=
      pointsBecome_same (by simp [reported, new, hp])
    by_cases hzero : cfg.checkTime = 0
    · have hfiltered : filtered = inputs := if_pos hzero
      exact (if_pos hzero).trans (hpoints inputs (hfiltered ▸ hsame))
    · exact if_neg hzero

/-- Settles O11: `hearStation` and `takeReply` in turn. -/
theorem deckReplyTaken : Obligations.DeckReplyTaken := by
  unfold Obligations.DeckReplyTaken
  intro s d f rest a hi lo c src age tail v hrun hrx hsource hkind hpayload hvalue hused hen
    condition p heard told forwarded
  have hreport : reportOf f = some (.reply, ⟨hi ++ lo, condition, v⟩) := by
    rw [reportOf_reply hkind hpayload hvalue, conditionOf_eq]
  have htold : hearStation a (s.withRx p rest) = told := hearStation_eq
  have htaken := takeReply_hearStation (f := f) (s := s.withRx p rest) (a := a) ⟨hi ++ lo, condition, v⟩
  rw [htold] at htaken
  exact concluded_eq hrun ((takeHead_cons (deckFrame d) hrx).trans
    ((deckFrame_known (d := d) (s := s.withRx p rest) hsource hused hen hreport).trans (htold ▸ htaken)))

end Sys2Proof.Machine

end

section

-- One proof after another: the many short ones of this section would otherwise each hold a thread while they wait.
set_option Elab.async false

namespace Sys2Proof.Machine

/-! # What no job and no judgement changes of the mirror, the maps and the conditions

The invariants of O59 read a small part of the state. `State.watched` is that part; each operation of the jobs, of the
Event Controller and of the Timer Bank has one lemma, that it leaves the part as it is. -/

/-- What the invariants of the mirror, of the conditions and of the event maps read (R18, R35, R43, R57, R72). -/
structure Watched where
  stations : Vector StationRecord 254
  points : Vector Word16 254
  mapCounts : Vector Nat 64
  mirror : Vector MirrorLine 64
  lines : Vector LineEntry 16
  levels : Vector Bool 16
  lineCounts : Vector Nat 64
  conditions : Vector (Bool × Bool) 64

/-- The watched part of a state: of the dynamic items only the filtered values, of the codes only the two conditions. -/
def State.watched (s : State) : Watched where
  stations := s.stations
  points := s.stationDyn.map (·.filtered)
  mapCounts := s.mapCounts
  mirror := s.mirror
  lines := s.lines
  levels := s.lineDyn.map (·.filtered)
  lineCounts := s.lineCounts
  conditions := s.codes.map fun k => (k.mapCond, k.lineCond)

section Watched

variable (s : State)

/-! ## The updates -/

@[simp] theorem State.modPort_watched (p : Port) (f : PortUnit → PortUnit) :
    (s.modPort p f).watched = s.watched := rfl
@[simp] theorem State.modQuality_watched (d : Deck) (f : Monitor → Monitor) :
    (s.modQuality d f).watched = s.watched := rfl
@[simp] theorem State.setOwner_watched (a : Addr) (o : Owner) : (s.setOwner a o).watched = s.watched := rfl
@[simp] theorem State.setOutput_watched (n : LineId) (on : Bool) : (s.setOutput n on).watched = s.watched := rfl
@[simp] theorem State.modTimer_watched (ch : ChannelId) (f : TimerDyn → TimerDyn) :
    (s.modTimer ch f).watched = s.watched := rfl
@[simp] theorem State.modZone_watched (z : ZoneId) (f : ZoneDyn → ZoneDyn) : (s.modZone z f).watched = s.watched := rfl
@[simp] theorem State.modDoor_watched (d : DoorId) (f : DoorDyn → DoorDyn) : (s.modDoor d f).watched = s.watched := rfl
@[simp] theorem State.modRamp_watched (r : RampId) (f : RampDyn → RampDyn) : (s.modRamp r f).watched = s.watched := rfl
@[simp] theorem State.modZoneLine_watched (z : ZoneId) (f : ZoneLine → ZoneLine) :
    (s.modZoneLine z f).watched = s.watched := rfl
@[simp] theorem State.modCall_watched (k : Nat) (f : CallRecord → CallRecord) :
    (s.modCall k f).watched = s.watched := rfl
@[simp] theorem State.modAlerts_watched (f : Alerts → Alerts) : (s.modAlerts f).watched = s.watched := rfl
@[simp] theorem State.modGa_watched (f : GeneralAlarm → GeneralAlarm) : (s.modGa f).watched = s.watched := rfl
@[simp] theorem removeCall_watched (k : Nat) : (removeCall k s).watched = s.watched := rfl
@[simp] theorem enterCall_watched (q : CallRequest) : (enterCall q s).watched = s.watched := rfl
@[simp] theorem setCounter_watched (set : CounterSet) (i : CounterId) (v : Word32) :
    (setCounter set i v s).watched = s.watched := rfl

/-- A change of a code that keeps its conditions. -/
theorem State.modCode_watched (c : Code) {f : CodeState → CodeState}
    (hf : ∀ k, ((f k).mapCond, (f k).lineCond) = (k.mapCond, k.lineCond)) : (s.modCode c f).watched = s.watched := by
  have hconds : (Tab.upd s.codes c f).map (fun k => (k.mapCond, k.lineCond)) =
      s.codes.map fun k => (k.mapCond, k.lineCond) := by
    apply Tab.ext
    intro i
    by_cases hi : c = i
    · subst hi
      simpa using hf (s.codes.get c)
    · simp [hi]
  exact congrArg (fun v => { s.watched with conditions := v }) hconds

/-- A filtered value alone is watched of a station's dynamic items. -/
theorem State.modStation_watched (a : Addr) {f : StationDyn → StationDyn}
    (hf : (f (s.stationDyn.get a)).filtered = (s.stationDyn.get a).filtered) : (s.modStation a f).watched = s.watched := by
  have hpoints : (Tab.upd s.stationDyn a f).map (·.filtered) = s.stationDyn.map (·.filtered) := by
    apply Tab.ext
    intro i
    by_cases hi : a = i
    · subst hi
      simpa using hf
    · simp [hi]
  exact congrArg (fun v => { s.watched with points := v }) hpoints

/-- A filtered value alone is watched of a direct line's filter. -/
theorem State.modLine_watched (n : LineId) {f : LineDyn → LineDyn}
    (hf : (f (s.lineDyn.get n)).filtered = (s.lineDyn.get n).filtered) : (s.modLine n f).watched = s.watched := by
  have hlevels : (Tab.upd s.lineDyn n f).map (·.filtered) = s.lineDyn.map (·.filtered) := by
    apply Tab.ext
    intro i
    by_cases hi : n = i
    · subst hi
      simpa using hf
    · simp [hi]
  exact congrArg (fun v => { s.watched with levels := v }) hlevels

variable {s} in
/-- A walk whose every step leaves the watched part leaves it. -/
theorem watched_foldl {α : Type} {f : State → α → State} (hf : ∀ t x, (f t x).watched = t.watched) (l : List α)
    (t : State) (h : t.watched = s.watched) : (l.foldl f t).watched = s.watched := by
  induction l generalizing t with
  | nil => exact h
  | cons x l ih => exact ih _ ((hf t x).trans h)

/-! ## The shared operations -/

@[simp] theorem setLatch_watched (c : Code) (a : Attributes) : (setLatch c a s).watched = s.watched :=
  s.modCode_watched c fun _ => rfl

@[simp] theorem clearLatch_watched (c : Code) : (clearLatch c s).watched = s.watched :=
  s.modCode_watched c fun _ => rfl

@[simp] theorem vectorFault_watched (c : Code) (a : Attributes) : (vectorFault c a s).watched = s.watched :=
  setLatch_watched ..

@[simp] theorem raiseCode_watched (x : Activation) : (raiseCode x s).watched = s.watched := by
  unfold raiseCode
  dsimp only
  split_ifs
  · rfl
  · simp
  · simp
  · rfl
  · simp
  · exact s.modCode_watched _ fun _ => rfl

@[simp] theorem raiseInternal_watched (c : Option Code) (a : Option Addr) (z : Option ZoneId) (d : Word16) :
    (raiseInternal c a z d s).watched = s.watched := by
  cases c with
  | none => rfl
  | some c => exact raiseCode_watched ..

@[simp] theorem raiseMark_watched (set : CounterSet) (i : CounterId) (m : Nat) :
    (raiseMark set i m s).watched = s.watched := by
  unfold raiseMark
  dsimp only
  split_ifs <;> simp

@[simp] theorem bump_watched (set : CounterSet) (i : CounterId) (n : Nat) : (bump set i n s).watched = s.watched := by
  unfold bump
  dsimp only
  split_ifs <;> simp

@[simp] theorem bumpPort_watched (p : Port) (i : CounterId) : (bumpPort p i s).watched = s.watched := bump_watched ..

@[simp] theorem bumpGlobal_watched (i : CounterId) : (bumpGlobal i s).watched = s.watched := bump_watched ..

@[simp] theorem startTransmission_watched (p : Port) : (startTransmission p s).watched = s.watched := by
  rw [startTransmission_frame]
  rfl

@[simp] theorem offerTx_watched (p : Port) (cls : TxClass) (f : TxFrame) :
    (offerTx p cls f s).2.watched = s.watched := by
  unfold offerTx
  dsimp only
  split_ifs <;> simp

@[simp] theorem sendTx_watched (p : Port) (cls : TxClass) (f : TxFrame) : (sendTx p cls f s).watched = s.watched :=
  offerTx_watched ..

@[simp] theorem jobCommand_watched (a : Addr) (b : List Byte) : (jobCommand a b s).watched = s.watched := by
  unfold jobCommand
  split <;> simp

@[simp] theorem jobCommand?_watched (a : Option Addr) (b : List Byte) : (jobCommand? a b s).watched = s.watched := by
  cases a with
  | none => rfl
  | some a => exact jobCommand_watched ..

@[simp] theorem claim_watched (a : Addr) (o : Owner) : (claim a o s).2.watched = s.watched := by
  rw [claim_frame]
  rfl

@[simp] theorem release_watched (a : Addr) (o : Owner) : (release a o s).watched = s.watched := by
  rw [release_frame]
  rfl

@[simp] theorem release?_watched (a : Option Addr) (o : Owner) : (release? a o s).watched = s.watched := by
  rw [release?_frame]
  rfl

@[simp] theorem orderEnable_watched (r : RampId) (on : Bool) : (orderEnable r on s).watched = s.watched := by
  rw [orderEnable_frame]
  rfl

@[simp] theorem orderDoorHold_watched (z : ZoneId) (on : Bool) : (orderDoorHold z on s).watched = s.watched := by
  rw [orderDoorHold_frame]
  rfl

/-! ## Ramps, all that starts no call -/

@[simp] theorem sendSpeed_watched (r : RampId) (out : Int) : (sendSpeed r out s).watched = s.watched :=
  jobCommand?_watched ..

@[simp] theorem sendEnable_watched (r : RampId) : (sendEnable r s).watched = s.watched := jobCommand?_watched ..

@[simp] theorem sendDisable_watched (r : RampId) : (sendDisable r s).watched = s.watched := jobCommand?_watched ..

@[simp] theorem releaseDrive_watched (r : RampId) : (releaseDrive r s).watched = s.watched := release?_watched ..

@[simp] theorem raiseRamp_watched (r : RampId) (c : Option Code) (d : Word16) :
    (raiseRamp r c d s).watched = s.watched := raiseInternal_watched ..

@[simp] theorem holdRamp_watched (r : RampId) (cause : Nat) : (holdRamp r cause s).watched = s.watched := by
  unfold holdRamp
  split
  · simp
  · simp
  · simp
  · rfl

@[simp] theorem holdAll_watched (cause : Nat) : (holdAll cause s).watched = s.watched :=
  watched_foldl (fun t r => holdRamp_watched t r cause) _ _ rfl

@[simp] theorem faultRamp_watched (r : RampId) (reason : FaultReason) : (faultRamp r reason s).watched = s.watched := by
  unfold faultRamp
  split
  · simp
  · rfl

@[simp] theorem enterMoving_watched (r : RampId) : (enterMoving r s).watched = s.watched := by
  simp [enterMoving]

@[simp] theorem rampNotice_watched (r : RampId) (ref : CallRef) : (rampNotice r ref s).watched = s.watched := by
  unfold rampNotice
  dsimp only
  split
  · simp
  · rfl

@[simp] theorem endMotion_watched (r : RampId) (c : Option Code) : (endMotion r c s).watched = s.watched := by
  simp [endMotion]

@[simp] theorem endHoming_watched (r : RampId) : (endHoming r s).watched = s.watched := by
  unfold endHoming
  split
  · simp
  · rfl

@[simp] theorem fireChanged_watched (z : ZoneId) : (fireChanged z s).watched = s.watched := by
  refine watched_foldl (fun t r => ?_) _ _ rfl
  split
  · exact holdRamp_watched ..
  · rfl

@[simp] theorem driveReport_watched (r : RampId) (old new : Word16) : (driveReport r old new s).watched = s.watched := by
  unfold driveReport
  dsimp only
  split_ifs <;> simp

@[simp] theorem encoderRise_watched (r : RampId) : (encoderRise r s).watched = s.watched := by
  unfold encoderRise
  dsimp only
  split <;> simp

@[simp] theorem encoderPin_watched (fn : LineFn) (high : Bool) : (encoderPin fn high s).watched = s.watched := by
  unfold encoderPin
  split
  · split <;> simp
  · simp
  · rfl

@[simp] theorem superviseRamp_watched (r : RampId) : (superviseRamp r s).watched = s.watched := by
  unfold superviseRamp
  dsimp only
  split <;> simp

@[simp] theorem motionLaw_watched (r : RampId) : (motionLaw r s).watched = s.watched := by
  unfold motionLaw
  dsimp only
  split_ifs <;> simp

@[simp] theorem controlPeriod_watched (r : RampId) : (controlPeriod r s).watched = s.watched := by
  unfold controlPeriod
  split
  · dsimp only
    split <;> simp
  · rfl

/-! ## Zones and doors, all that starts no call -/

@[simp] theorem raiseZone_watched (z : ZoneId) (c : Option Code) (a : Option Addr) (n : Nat) :
    (raiseZone z c a n s).watched = s.watched := raiseInternal_watched ..

@[simp] theorem raisePartial_watched (z : ZoneId) (a : Option Addr) (n : Nat) :
    (raisePartial z a n s).watched = s.watched := raiseZone_watched ..

@[simp] theorem refreshRest_watched (z : ZoneId) : (refreshRest z s).watched = s.watched := by
  unfold refreshRest
  split
  · simp
  · rfl

@[simp] theorem changeDoor_watched (d : DoorId) (f : DoorDyn → DoorDyn) : (changeDoor d f s).watched = s.watched := by
  simp [changeDoor]

@[simp] theorem settleDoor_watched (d : DoorId) : (settleDoor d s).watched = s.watched := changeDoor_watched ..

@[simp] theorem failDoor_watched (d : DoorId) : (failDoor d s).watched = s.watched := changeDoor_watched ..

@[simp] theorem sendClose_watched (d : DoorId) : (sendClose d s).watched = s.watched := by
  simp [sendClose]

@[simp] theorem sendOpen_watched (d : DoorId) : (sendOpen d s).watched = s.watched := by
  simp [sendOpen]

@[simp] theorem claimDoor_watched (z : ZoneId) (d : DoorId) : (claimDoor z d s).2.watched = s.watched := by
  unfold claimDoor
  split <;> simp

@[simp] theorem claimMembers_watched (z : ZoneId) : (claimMembers z s).watched = s.watched :=
  watched_foldl (fun t d => (State.modDoor_watched ..).trans (claimDoor_watched t z d)) _ _ rfl

@[simp] theorem releaseMembers_watched (z : ZoneId) : (releaseMembers z s).watched = s.watched :=
  watched_foldl (fun _ _ => release?_watched ..) _ _ rfl

@[simp] theorem enterRest_watched (z : ZoneId) : (enterRest z s).watched = s.watched := rfl

@[simp] theorem endClose_watched (z : ZoneId) : (endClose z s).watched = s.watched := by
  have hfreed : ((members (releaseMembers z s) z).foldl
      (fun s d => s.modDoor d fun x => { x with skipped := .no }) (releaseMembers z s)).watched = s.watched :=
    watched_foldl (fun _ _ => State.modDoor_watched ..) _ _ (releaseMembers_watched s z)
  unfold endClose
  dsimp only
  split <;> simpa using hfreed

@[simp] theorem judgeCloseEnd_watched (z : ZoneId) : (judgeCloseEnd z s).watched = s.watched := by
  unfold judgeCloseEnd
  split <;> simp

@[simp] theorem closingDoor_watched (z : ZoneId) (d : DoorId) : (closingDoor z d s).watched = s.watched := by
  unfold closingDoor
  dsimp only
  split_ifs <;> simp

@[simp] theorem enterClosing_watched (z : ZoneId) : (enterClosing z s).watched = s.watched := by
  refine (judgeCloseEnd_watched ..).trans (watched_foldl (fun t d => closingDoor_watched t z d) _ _ ?_)
  simp

@[simp] theorem countdownOver_watched (z : ZoneId) : (countdownOver z s).watched = s.watched := by
  unfold countdownOver
  dsimp only
  split <;> simp

@[simp] theorem enterCountdown_watched (z : ZoneId) : (enterCountdown z s).watched = s.watched := by
  unfold enterCountdown
  dsimp only
  split_ifs <;> simp

@[simp] theorem zoneNotice_watched (z : ZoneId) (ref : CallRef) (b : Bool) :
    (zoneNotice z ref b s).watched = s.watched := by
  unfold zoneNotice
  dsimp only
  split
  · split <;> simp
  · rfl

@[simp] theorem setClear_watched (z : ZoneId) : (setClear z s).watched = s.watched := by
  unfold setClear
  dsimp only
  split_ifs <;> simp

@[simp] theorem cancelMotions_watched (z : ZoneId) (cmd : DoorCommand) : (cancelMotions z cmd s).watched = s.watched := by
  refine watched_foldl (fun t d => ?_) _ _ rfl
  split
  · exact settleDoor_watched ..
  · rfl

@[simp] theorem abandonOpening_watched (z : ZoneId) : (abandonOpening z s).watched = s.watched := by
  unfold abandonOpening
  split <;> simp

/-! ## The Call Arbiter -/

@[simp] theorem notify_watched (c : CallRecord) (n : Notice) : (notify c n s).watched = s.watched := by
  unfold notify
  split <;> simp

@[simp] theorem dropLines_watched (k : Nat) : (dropLines k s).watched = s.watched :=
  watched_foldl (fun _ _ => State.modZoneLine_watched ..) _ _ rfl

@[simp] theorem completeCall_watched (k : Nat) : (completeCall k s).watched = s.watched := by
  unfold completeCall
  split <;> simp

@[simp] theorem sendStop_watched (z : ZoneId) : (sendStop z s).watched = s.watched := jobCommand?_watched ..

@[simp] theorem releaseAmplifier_watched (z : ZoneId) : (releaseAmplifier z s).watched = s.watched :=
  release?_watched ..

@[simp] theorem stopLine_watched (z : ZoneId) : (stopLine z s).watched = s.watched := by
  unfold stopLine
  split <;> simp

@[simp] theorem dropZone_watched (k : Nat) (z : ZoneId) : (dropZone k z s).watched = s.watched := rfl

@[simp] theorem failLine_watched (z : ZoneId) (cause : LineFault) : (failLine z cause s).watched = s.watched := by
  unfold failLine
  dsimp only
  split
  · rfl
  · rw [raiseInternal_watched]
    split <;> split_ifs <;> simp

@[simp] theorem playLine_watched (c : CallRecord) (z : ZoneId) : (playLine c z s).watched = s.watched := by
  unfold playLine
  split
  · simp
  · dsimp only
    split <;> simp

@[simp] theorem tryPlay_watched (k : Nat) : (tryPlay k s).watched = s.watched := by
  have hplayed (c : CallRecord) (zs : List ZoneId) : (zs.foldl (fun s z => playLine c z s) s).watched = s.watched :=
    watched_foldl (fun _ _ => playLine_watched ..) _ _ rfl
  unfold tryPlay
  split
  · rfl
  · dsimp only
    split
    · split
      · simp [hplayed]
      · split <;> simp [hplayed]
    · rfl

@[simp] theorem restartCall_watched (k : Nat) : (restartCall k s).watched = s.watched := by
  simp [restartCall]

@[simp] theorem endRepetition_watched (k : Nat) : (endRepetition k s).watched = s.watched := by
  unfold endRepetition
  split
  · rfl
  · dsimp only
    split_ifs <;> simp

@[simp] theorem refreshCall_watched (k : Nat) : (refreshCall k s).watched = s.watched := by
  unfold refreshCall
  split
  · rfl
  · dsimp only
    split
    · simp
    · split
      · rfl
      · rfl
      · split <;> simp
      · split_ifs <;> simp
      · split_ifs <;> simp

@[simp] theorem preemptCall_watched (k : Nat) (wanted : List ZoneId) (winner : Nat) :
    (preemptCall k wanted winner s).watched = s.watched := by
  refine (State.modCall_watched ..).trans (watched_foldl (fun t z => ?_) _ _
    (watched_foldl (fun _ _ => stopLine_watched ..) _ _ (State.modCall_watched ..)))
  split_ifs <;> simp

@[simp] theorem takeLines_watched (wanted : List ZoneId) (winner : Nat) :
    (takeLines wanted winner s).watched = s.watched := by
  refine watched_foldl (fun t z => ?_) _ _ rfl
  split
  · simp
  · split <;> simp

@[simp] theorem dropFaultZones_watched (c : CallRecord) : (dropFaultZones c s).watched = s.watched := by
  unfold dropFaultZones
  dsimp only
  split <;> simp

@[simp] theorem startCall_watched (c : CallRecord) : (startCall c s).watched = s.watched := by
  unfold startCall
  dsimp only
  split <;> simp

@[simp] theorem growCall_watched (c : CallRecord) (reserved : List ZoneId) :
    (growCall c reserved s).2.watched = s.watched := by
  have hdropped (zs : List ZoneId) : (zs.foldl (fun s z =>
      if (s.zoneLines.get z).state = .fault then dropZone c.stamp z s else s) s).watched = s.watched := by
    refine watched_foldl (fun t z => ?_) _ _ rfl
    split <;> simp
  unfold growCall
  dsimp only
  split
  · rfl
  · simp [hdropped]

@[simp] theorem judgeCall_watched (k : Nat) (reserved : List ZoneId) :
    (judgeCall k reserved s).2.watched = s.watched := by
  unfold judgeCall
  split
  · rfl
  · split
    · dsimp only
      split <;> simp
    · simp
    · simp
    · simp
    · rfl

/-- The walk of a pass, from any zones reserved. -/
theorem walk_watched (ks : List Nat) (reserved : List ZoneId) :
    (ks.foldl (fun (x : List ZoneId × State) k => judgeCall k x.1 x.2) (reserved, s)).2.watched = s.watched := by
  induction ks generalizing reserved s with
  | nil => rfl
  | cons k ks ih => exact (ih ..).trans (judgeCall_watched ..)

@[simp] theorem arbitrateFor_watched (n : Nat) : (arbitrateFor n s).watched = s.watched := by
  induction n generalizing s with
  | zero => rfl
  | succ n ih =>
    have hpass : (onePass s).watched = s.watched := walk_watched ..
    unfold arbitrateFor
    dsimp only
    split
    · exact hpass
    · exact (ih _).trans hpass

@[simp] theorem arbitrate_watched : (arbitrate s).watched = s.watched := arbitrateFor_watched ..

@[simp] theorem requestCall_watched (q : CallRequest) : (requestCall q s).2.watched = s.watched := by
  unfold requestCall
  split
  · rfl
  · split
    · simp
    · split
      · simp
      · split
        · rfl
        · split <;> simp

@[simp] theorem postCall_watched (q : CallRequest) : (postCall q s).2.watched = s.watched := by
  unfold postCall
  dsimp only
  split <;> simp

@[simp] theorem cancelCall_watched (o : CallOrigin) (m : MsgId) : (cancelCall o m s).2.watched = s.watched := by
  have hstopped (zs : List ZoneId) : (zs.foldl (fun s z => stopLine z s) s).watched = s.watched :=
    watched_foldl (fun _ _ => stopLine_watched ..) _ _ rfl
  unfold cancelCall
  split
  · rfl
  · simp [hstopped]

@[simp] theorem afterLine_watched (carried : Option Nat) : (afterLine carried s).watched = s.watched := by
  unfold afterLine
  split <;> simp

@[simp] theorem lineFails_watched (z : ZoneId) (cause : LineFault) : (lineFails z cause s).watched = s.watched := by
  unfold lineFails
  dsimp only
  split <;> simp

@[simp] theorem playingRises_watched (z : ZoneId) : (playingRises z s).watched = s.watched := by
  unfold playingRises
  dsimp only
  split <;> simp

@[simp] theorem stoppingEnds_watched (z : ZoneId) : (stoppingEnds z s).watched = s.watched := by
  unfold stoppingEnds
  dsimp only
  rw [afterLine_watched]
  split <;> split_ifs <;> simp

@[simp] theorem playingFalls_watched (z : ZoneId) : (playingFalls z s).watched = s.watched := by
  unfold playingFalls
  dsimp only
  split <;> simp

@[simp] theorem recoverLine_watched (z : ZoneId) : (recoverLine z s).watched = s.watched := by
  unfold recoverLine
  split <;> simp

@[simp] theorem amplifierReport_watched (z : ZoneId) (old new : Word16) :
    (amplifierReport z old new s).watched = s.watched := by
  unfold amplifierReport
  dsimp only
  rw [recoverLine_watched]
  split_ifs <;> simp

@[simp] theorem amplifierSupervision_watched (z : ZoneId) (silent : Bool) :
    (amplifierSupervision z silent s).watched = s.watched := by
  unfold amplifierSupervision
  split <;> simp

/-! ## Ramp requests and the clearance call -/

@[simp] theorem enterClearing_watched (r : RampId) : (enterClearing r s).watched = s.watched := by
  unfold enterClearing
  dsimp only
  split <;> simp

@[simp] theorem clearanceOver_watched (r : RampId) : (clearanceOver r s).watched = s.watched := by
  unfold clearanceOver
  dsimp only
  split
  · split <;> simp
  · rfl

@[simp] theorem claimDrive_watched (r : RampId) : (claimDrive r s).2.watched = s.watched := by
  unfold claimDrive
  split <;> simp

@[simp] theorem disarmRamp_watched (r : RampId) : (disarmRamp r s).watched = s.watched := by
  simp [disarmRamp]

@[simp] theorem referenceAtStowed_watched (r : RampId) : (referenceAtStowed r s).watched = s.watched := by
  unfold referenceAtStowed
  dsimp only
  split <;> simp

@[simp] theorem startHoming_watched (r : RampId) : (startHoming r s).watched = s.watched := by
  simp [startHoming]

@[simp] theorem releaseRamp_watched (r : RampId) : (releaseRamp r s).watched = s.watched := by
  simp [releaseRamp]

@[simp] theorem rampHoldOffer_watched (r : Option RampId) : (rampHoldOffer r s).watched = s.watched := by
  unfold rampHoldOffer
  split <;> simp

/-! ## Zone procedures and doors -/

@[simp] theorem awaitCall_watched (z : ZoneId) : (awaitCall z s).watched = s.watched := by
  unfold awaitCall
  dsimp only
  split <;> simp

@[simp] theorem enterCalling_watched (z : ZoneId) : (enterCalling z s).watched = s.watched := by
  simp [enterCalling]

@[simp] theorem beginClose_watched (z : ZoneId) (c : Cause) : (beginClose z c s).watched = s.watched := by
  simp [beginClose]

@[simp] theorem reverseOpening_watched (z : ZoneId) (c : Cause) : (reverseOpening z c s).watched = s.watched := by
  simp [reverseOpening]

@[simp] theorem abandonCall_watched (z : ZoneId) : (abandonCall z s).watched = s.watched := by
  unfold abandonCall
  split <;> simp

@[simp] theorem upgradeDoor_watched (d : DoorId) : (upgradeDoor d s).watched = s.watched := by
  unfold upgradeDoor
  dsimp only
  split_ifs <;> simp

@[simp] theorem upgradeClose_watched (z : ZoneId) : (upgradeClose z s).watched = s.watched := by
  unfold upgradeClose
  dsimp only
  split
  · simp
  · split <;> simp
  · exact watched_foldl (fun t d => upgradeDoor_watched t d) _ _ rfl
  · rfl

@[simp] theorem zoneCloseJudged_watched (z : ZoneId) (c : CloseCause) : (zoneCloseJudged z c s).2.watched = s.watched := by
  unfold zoneCloseJudged
  dsimp only
  split
  case h_1 | h_2 | h_3 => simp
  case h_4 => simp
  case h_5 | h_6 | h_7 => split <;> simp

@[simp] theorem endOpen_watched (z : ZoneId) : (endOpen z s).watched = s.watched := by
  unfold endOpen
  dsimp only
  split <;> simp

@[simp] theorem judgeOpenEnd_watched (z : ZoneId) : (judgeOpenEnd z s).watched = s.watched := by
  unfold judgeOpenEnd
  split <;> simp

@[simp] theorem judgeEnd_watched (z : ZoneId) : (judgeEnd z s).watched = s.watched := by
  simp [judgeEnd]

@[simp] theorem enterOpening_watched (z : ZoneId) : (enterOpening z s).watched = s.watched := by
  refine (judgeOpenEnd_watched ..).trans (watched_foldl (fun t d => ?_) _ _ ?_)
  · dsimp only
    split <;> simp
  · simp

@[simp] theorem beginOpen_watched (z : ZoneId) : (beginOpen z s).watched = s.watched := by
  simp [beginOpen]

@[simp] theorem reverseClose_watched (z : ZoneId) : (reverseClose z s).watched = s.watched := by
  refine (enterOpening_watched ..).trans (watched_foldl (fun _ _ => State.modDoor_watched ..) _ _ ?_)
  simp

@[simp] theorem zoneOpenJudged_watched (z : ZoneId) : (zoneOpenJudged z s).2.watched = s.watched := by
  unfold zoneOpenJudged
  dsimp only
  split
  · rfl
  · split
    case h_1 | h_2 | h_3 => simp
    case h_4 => rfl
    case h_5 | h_6 | h_7 => split <;> simp

@[simp] theorem setFire_watched (z : ZoneId) (a : Attributes) : (setFire z a s).watched = s.watched := by
  unfold setFire
  dsimp only
  split
  · rfl
  · rw [abandonOpening_watched]
    split <;> simp

@[simp] theorem obstructDoor_watched (d : DoorId) : (obstructDoor d s).watched = s.watched := by
  unfold obstructDoor
  dsimp only
  split <;> simp

@[simp] theorem doorReport_watched (d : DoorId) (old new : Word16) : (doorReport d old new s).watched = s.watched := by
  unfold doorReport doorRestReport doorMotionReport
  dsimp only
  split_ifs <;> simp

@[simp] theorem doorSupervision_watched (d : DoorId) : (doorSupervision d s).watched = s.watched := by
  unfold doorSupervision
  dsimp only
  split <;> simp

@[simp] theorem closeLimitOver_watched (d : DoorId) : (closeLimitOver d s).watched = s.watched := by
  unfold closeLimitOver
  dsimp only
  split <;> simp

@[simp] theorem retryOver_watched (d : DoorId) : (retryOver d s).watched = s.watched := by
  unfold retryOver
  dsimp only
  split_ifs <;> simp

@[simp] theorem countdownExpires_watched (z : ZoneId) : (countdownExpires z s).watched = s.watched := by
  unfold countdownExpires
  dsimp only
  split <;> simp

@[simp] theorem callWaitOver_watched (z : ZoneId) : (callWaitOver z s).watched = s.watched := by
  unfold callWaitOver
  dsimp only
  split <;> simp

@[simp] theorem zonesEnterRun_watched (b : Bool) : (zonesEnterRun b s).watched = s.watched := by
  unfold zonesEnterRun
  dsimp only
  split
  · refine watched_foldl (fun t z => ?_) _ _ ?_
    · split <;> simp
    · refine watched_foldl (fun t z => by simp) _ _ (watched_foldl (fun t z => ?_) _ _
        (watched_foldl (fun _ _ => refreshRest_watched ..) _ _ (watched_foldl (fun t d => ?_) _ _ rfl)))
      · split <;> simp
      · split <;> simp
  · refine watched_foldl (fun t z => by simp) _ _ (watched_foldl (fun t z => ?_) _ _
      (watched_foldl (fun _ _ => refreshRest_watched ..) _ _ (watched_foldl (fun t d => ?_) _ _ rfl)))
    · split <;> simp
    · split <;> simp

/-! ## Line and call timers -/

@[simp] theorem startTimerOver_watched (z : ZoneId) : (startTimerOver z s).watched = s.watched := by
  unfold startTimerOver
  dsimp only
  split <;> simp

@[simp] theorem durationTimerOver_watched (z : ZoneId) : (durationTimerOver z s).watched = s.watched := by
  unfold durationTimerOver
  dsimp only
  split <;> simp

@[simp] theorem stopTimerOver_watched (z : ZoneId) : (stopTimerOver z s).watched = s.watched := by
  unfold stopTimerOver
  dsimp only
  split <;> simp

@[simp] theorem gapTimerOver_watched (k : Nat) : (gapTimerOver k s).watched = s.watched := by
  unfold gapTimerOver
  split
  · rfl
  · split <;> simp

/-! ## What the Classifier reports to the jobs, and offers -/

@[simp] theorem roleReport_watched (a : Addr) (old new : Word16) : (roleReport a old new s).watched = s.watched := by
  unfold roleReport
  dsimp only
  split
  · split
    · exact watched_foldl (fun _ _ => doorReport_watched ..) _ _ rfl
    · exact watched_foldl (fun _ _ => driveReport_watched ..) _ _ rfl
    · exact watched_foldl (fun _ _ => amplifierReport_watched ..) _ _ rfl
    · split
      · rfl
      · split <;> simp
    · split
      · rfl
      · split <;> simp
    · rfl
    · rfl
  · rfl

@[simp] theorem supervisionReport_watched (a : Addr) (silent : Bool) :
    (supervisionReport a silent s).watched = s.watched := by
  unfold supervisionReport
  split
  · exact watched_foldl (fun _ _ => doorSupervision_watched ..) _ _ rfl
  · split
    · exact watched_foldl (fun _ _ => faultRamp_watched ..) _ _ rfl
    · rfl
  · exact watched_foldl (fun _ _ => amplifierSupervision_watched ..) _ _ rfl
  all_goals rfl

@[simp] theorem offerTo_watched (c : Code) (t : Target) : (offerTo c t s).2.watched = s.watched := by
  unfold offerTo
  split <;> simp

/-! ## The Event Controller -/

@[simp] theorem sendAlert_watched (c : Code) (level : Nat) (gate : Gate) (a : Attributes) :
    (sendAlert c level gate a s).watched = s.watched := by
  simp [sendAlert]

variable {s} in
theorem nextAcceptance_watched {t : State} (h : nextAcceptance s = some t) : t.watched = s.watched := by
  have hacc : (acceptEscalation s).watched = s.watched := by simp [acceptEscalation]
  have hcode (c : Code) : (acceptCode c s).watched = s.watched := by simp [acceptCode]
  have halarm (o : Origin) (d : Word16) : (acceptAlarm o d s).watched = s.watched := by simp [acceptAlarm]
  unfold nextAcceptance at h
  split at h
  · cases h
  · split at h
    · exact Option.some.inj h ▸ halarm ..
    · split at h
      · exact Option.some.inj h ▸ hacc
      · split at h
        · cases h
        · split at h
          · exact Option.some.inj h ▸ hcode _
          · cases h

@[simp] theorem acceptFor_watched (n : Nat) : (acceptFor n s).watched = s.watched := by
  induction n generalizing s with
  | zero => rfl
  | succ n ih =>
    unfold acceptFor
    split
    · rfl
    · next h => exact (ih _).trans (nextAcceptance_watched h)

@[simp] theorem sendNotice_watched (c : Code) (b : Bool) : (sendNotice c b s).watched = s.watched := by
  unfold sendNotice
  dsimp only
  split_ifs <;> simp

@[simp] theorem actOnAnswer_watched (c : Code) (ans : Answer) : (actOnAnswer c ans s).watched = s.watched := by
  have hcode (f : CodeState → CodeState) (hf : ∀ k, ((f k).mapCond, (f k).lineCond) = (k.mapCond, k.lineCond)) :
      (s.modCode c f).watched = s.watched := s.modCode_watched c hf
  unfold actOnAnswer
  split <;> simp [hcode]

@[simp] theorem offerFor_watched (n : Nat) : (offerFor n s).watched = s.watched := by
  induction n generalizing s with
  | zero => rfl
  | succ n ih =>
    unfold offerFor
    split
    · rfl
    · exact (ih _).trans (by simp [offerCode])

@[simp] theorem settle_watched : (settle s).watched = s.watched := by
  have hfor (n : Nat) (t : State) : (settleFor n t).watched = t.watched := by
    induction n generalizing t with
    | zero => rfl
    | succ n ih =>
      unfold settleFor
      split
      · exact (ih _).trans (by simp [judge])
      · rfl
  exact hfor 32 s

@[simp] theorem reofferBusy_watched : (reofferBusy s).watched = s.watched := by
  have hconds : (reofferBusy s).codes.map (fun k => (k.mapCond, k.lineCond)) =
      s.codes.map fun k => (k.mapCond, k.lineCond) := by
    apply Tab.ext
    intro c
    simp only [reofferBusy, Tab.get_map]
    split <;> rfl
  exact congrArg (fun v => { s.watched with conditions := v }) hconds

@[simp] theorem ackByte_watched (b : Byte) : (ackByte b s).watched = s.watched := by
  have hafter (t : State) : (afterRemoval t).watched = t.watched := by
    unfold afterRemoval
    split <;> simp
  unfold ackByte ackCode
  split
  · simp
  · split_ifs <;> simp [hafter]

@[simp] theorem ackTimerOver_watched (c : Code) : (ackTimerOver c s).watched = s.watched := by
  unfold ackTimerOver
  split <;> simp

@[simp] theorem discardRecords_watched : (discardRecords s).watched = s.watched := by
  have hrepend (l : List AlertRecord) : (l.foldl repend s).watched = s.watched := by
    refine watched_foldl (fun t r => ?_) _ _ rfl
    unfold repend
    split <;> simp
  have hempty (t : State) : State.watched { clearLatch 2 t with alerts := Alerts.empty } = t.watched :=
    clearLatch_watched t 2
  unfold discardRecords
  dsimp only
  rw [hempty]
  split
  · split
    · exact (State.modGa_watched ..).trans (hrepend _)
    · exact hrepend _
  · exact hrepend _

@[simp] theorem enterAutonomous_watched : (enterAutonomous s).watched = s.watched := by
  unfold enterAutonomous
  dsimp only
  split
  · simp only [holdAll_watched, discardRecords_watched]
    rfl
  · rfl

@[simp] theorem escalationOver_watched : (escalationOver s).watched = s.watched := by
  unfold escalationOver
  split
  · rfl
  · split <;> simp

@[simp] theorem alarmRaise_watched (o : Origin) (d : Word16) : (alarmRaise o d s).2.watched = s.watched := by
  unfold alarmRaise
  dsimp only
  split_ifs <;> simp

@[simp] theorem alarmClear_watched : (alarmClear s).watched = s.watched := by
  unfold alarmClear
  split <;> simp

@[simp] theorem withdrawCode_watched (c : Code) : (withdrawCode c s).2.watched = s.watched := by
  unfold withdrawCode
  dsimp only
  split <;> simp

@[simp] theorem writeVector_watched (c : Code) (e : VectorEntry) : (writeVector c e s).watched = s.watched := by
  unfold writeVector
  dsimp only
  split
  · exact clearLatch_watched ..
  · exact State.modCode_watched _ _ fun _ => rfl

/-! ## The Timer Bank -/

@[simp] theorem raiseChannel_watched (ch : ChannelId) : (raiseChannel ch s).watched = s.watched := by
  unfold raiseChannel
  dsimp only
  split <;> simp

@[simp] theorem tickTime_watched (ch : ChannelId) : (tickTime ch s).watched = s.watched := by
  unfold tickTime
  dsimp only
  split_ifs <;> simp

@[simp] theorem tickWidth_watched (ch : ChannelId) : (tickWidth ch s).watched = s.watched := by
  unfold tickWidth
  dsimp only
  split_ifs <;> simp

@[simp] theorem tickChannel_watched (ch : ChannelId) : (tickChannel ch s).watched = s.watched := by
  unfold tickChannel
  dsimp only
  split
  · split <;> simp
  · rfl

@[simp] theorem countActivation_watched (ch : ChannelId) : (countActivation ch s).watched = s.watched := by
  unfold countActivation
  dsimp only
  split_ifs <;> simp

@[simp] theorem channelSource_watched (ch : ChannelId) (active : Bool) :
    (channelSource ch active s).watched = s.watched := by
  unfold channelSource
  split
  · split
    · rfl
    · rfl
    · split <;> simp
    · split_ifs <;> simp
  · rfl

@[simp] theorem sourceChanged_watched (src : TimerSource) (active : Bool) :
    (sourceChanged src active s).watched = s.watched := by
  refine watched_foldl (fun t ch => ?_) _ _ rfl
  split <;> simp

@[simp] theorem timerReports_watched (a : Addr) (old new : Word16) :
    (timerReports a old new s).watched = s.watched := by
  refine watched_foldl (fun t p => ?_) _ _ rfl
  split <;> simp

end Watched
end Sys2Proof.Machine
end

section

set_option Elab.async false

namespace Sys2Proof.Machine

/-! # Mirror copies, line and map counts, and the number of maps of a record (O59)

`Steady s t` says that a run of operations from `s` to `t` keeps each of the four invariants. An operation that leaves
the watched part alone keeps them all; the few that change it (fills and invalidations, line changes, changes of
filtered points, the STATION and LINE writes, the resets) have one rule each. -/

/-! ## A count over all rows, across a change of one row -/

section Counts

variable {n : Nat} {k : Fin n}

/-- Two counts over all rows that judge only row `k` differently share what the other rows give. -/
theorem countP_finRange_split {p q : Fin n → Bool} (h : ∀ i, i ≠ k → p i = q i) :
    ∃ rest, (List.finRange n).countP p = rest + (p k).toNat ∧ (List.finRange n).countP q = rest + (q k).toNat := by
  have hperm := List.perm_cons_erase (List.mem_finRange k)
  have hrest : ((List.finRange n).erase k).countP q = ((List.finRange n).erase k).countP p :=
    List.countP_congr fun i hi => by rw [h i ((List.nodup_finRange n).mem_erase_iff.1 hi).1]
  refine ⟨((List.finRange n).erase k).countP p, ?_, ?_⟩
  · rw [hperm.countP_eq, List.countP_cons]
    cases p k <;> rfl
  · rw [hperm.countP_eq, List.countP_cons, hrest]
    cases q k <;> rfl

/-- Two sums over all rows whose terms differ only at row `k` share what the other rows give. -/
theorem sum_finRange_split {f g : Fin n → Nat} (h : ∀ i, i ≠ k → f i = g i) :
    ∃ rest, ((List.finRange n).map f).sum = rest + f k ∧ ((List.finRange n).map g).sum = rest + g k := by
  have hperm := List.perm_cons_erase (List.mem_finRange k)
  have hrest : ((List.finRange n).erase k).map g = ((List.finRange n).erase k).map f :=
    List.map_congr_left fun i hi => (h i ((List.nodup_finRange n).mem_erase_iff.1 hi).1).symm
  refine ⟨(((List.finRange n).erase k).map f).sum, ?_, ?_⟩
  · rw [(hperm.map f).sum_eq, List.map_cons, List.sum_cons, Nat.add_comm]
  · rw [(hperm.map g).sum_eq, List.map_cons, List.sum_cons, hrest, Nat.add_comm]

end Counts

/-! ## What the invariants read -/

/-- No record holds more than four event maps (log entry 29). -/
def FewMaps (s : State) : Prop := ∀ a : Addr, (s.stations.get a).maps.length ≤ 4

/-- The line condition of every code holds just while its count of active lines is above 0. -/
def LinesAgree (s : State) : Prop := ∀ c : Code, (s.codes.get c).lineCond = true ↔ 0 < s.lineCounts.get c

/-- The map condition of every code holds just while its count of active maps is above 0. -/
def MapsAgree (s : State) : Prop := ∀ c : Code, (s.codes.get c).mapCond = true ↔ 0 < s.mapCounts.get c

section Reads

variable {s t : State}

theorem lineConditionsOk_iff :
    LineConditionsOk s ↔ (∀ c : Code, s.lineCounts.get c = activeInputs s c) ∧ LinesAgree s := forall_and

theorem mapConditionsOk_iff :
    MapConditionsOk s ↔ (∀ c : Code, s.mapCounts.get c = activeMapTotal s c) ∧ MapsAgree s := forall_and

theorem filtered_of_watched (h : t.watched = s.watched) (a : Addr) :
    (t.stationDyn.get a).filtered = (s.stationDyn.get a).filtered := by
  simpa [State.watched] using congrArg (fun w => w.points.get a) h

theorem level_of_watched (h : t.watched = s.watched) (n : LineId) :
    (t.lineDyn.get n).filtered = (s.lineDyn.get n).filtered := by
  simpa [State.watched] using congrArg (fun w => w.levels.get n) h

theorem conditions_of_watched (h : t.watched = s.watched) (c : Code) :
    (t.codes.get c).mapCond = (s.codes.get c).mapCond ∧ (t.codes.get c).lineCond = (s.codes.get c).lineCond := by
  simpa [State.watched] using congrArg (fun w => w.conditions.get c) h

theorem stations_of_watched (h : t.watched = s.watched) : t.stations = s.stations := congrArg Watched.stations h
theorem mapCounts_of_watched (h : t.watched = s.watched) : t.mapCounts = s.mapCounts := congrArg Watched.mapCounts h
theorem mirror_of_watched (h : t.watched = s.watched) : t.mirror = s.mirror := congrArg Watched.mirror h
theorem lines_of_watched (h : t.watched = s.watched) : t.lines = s.lines := congrArg Watched.lines h
theorem lineCounts_of_watched (h : t.watched = s.watched) : t.lineCounts = s.lineCounts := congrArg Watched.lineCounts h

theorem MirrorOk.congr (hm : t.mirror = s.mirror) (hs : t.stations = s.stations) (h : MirrorOk s) : MirrorOk t := by
  unfold MirrorOk at *
  rwa [hm, hs]

/-- The mirror with no valid line. -/
theorem mirrorOk_of_invalid (h : ∀ i : Fin 64, (s.mirror.get i).valid = false) : MirrorOk s := by
  intro i hi
  simp [h i] at hi

theorem LinesAgree.congr (hc : t.lineCounts = s.lineCounts)
    (hk : ∀ c : Code, (t.codes.get c).lineCond = (s.codes.get c).lineCond) (h : LinesAgree s) : LinesAgree t := by
  intro c
  rw [hk, hc]
  exact h c

theorem MapsAgree.congr (hc : t.mapCounts = s.mapCounts)
    (hk : ∀ c : Code, (t.codes.get c).mapCond = (s.codes.get c).mapCond) (h : MapsAgree s) : MapsAgree t := by
  intro c
  rw [hk, hc]
  exact h c

theorem activeInputs_congr (hl : t.lines = s.lines)
    (hd : ∀ n : LineId, (t.lineDyn.get n).filtered = (s.lineDyn.get n).filtered) (c : Code) :
    activeInputs t c = activeInputs s c := by
  simp only [activeInputs, hl, hd]

theorem activeMapTotal_congr (hs : t.stations = s.stations)
    (hd : ∀ a : Addr, (t.stationDyn.get a).filtered = (s.stationDyn.get a).filtered) (c : Code) :
    activeMapTotal t c = activeMapTotal s c := by
  simp only [activeMapTotal, hs, hd]

theorem LineConditionsOk.congr (hl : t.lines = s.lines)
    (hd : ∀ n : LineId, (t.lineDyn.get n).filtered = (s.lineDyn.get n).filtered) (hc : t.lineCounts = s.lineCounts)
    (hk : ∀ c : Code, (t.codes.get c).lineCond = (s.codes.get c).lineCond) (h : LineConditionsOk s) :
    LineConditionsOk t := by
  obtain ⟨hcounts, hagree⟩ := lineConditionsOk_iff.1 h
  refine lineConditionsOk_iff.2 ⟨fun c => ?_, hagree.congr hc hk⟩
  rw [hc, hcounts, activeInputs_congr hl hd]

theorem MapConditionsOk.congr (hs : t.stations = s.stations)
    (hd : ∀ a : Addr, (t.stationDyn.get a).filtered = (s.stationDyn.get a).filtered) (hc : t.mapCounts = s.mapCounts)
    (hk : ∀ c : Code, (t.codes.get c).mapCond = (s.codes.get c).mapCond) (h : MapConditionsOk s) :
    MapConditionsOk t := by
  obtain ⟨hcounts, hagree⟩ := mapConditionsOk_iff.1 h
  refine mapConditionsOk_iff.2 ⟨fun c => ?_, hagree.congr hc hk⟩
  rw [hc, hcounts, activeMapTotal_congr hs hd]

theorem FewMaps.congr (hs : t.stations = s.stations) (h : FewMaps s) : FewMaps t := by
  unfold FewMaps
  rwa [hs]

end Reads

/-! ## What a run keeps -/

/-- A run of operations from `s` to `t` keeps the four invariants. -/
structure Steady (s t : State) : Prop where
  mirror : MirrorOk s → MirrorOk t
  lines : LineConditionsOk s → LineConditionsOk t
  maps : MapConditionsOk s → MapConditionsOk t
  few : FewMaps s → FewMaps t

namespace Steady

variable {s t u : State}

protected theorem refl : Steady s s := ⟨id, id, id, id⟩

protected theorem trans (h : Steady s t) (k : Steady t u) : Steady s u :=
  ⟨k.mirror ∘ h.mirror, k.lines ∘ h.lines, k.maps ∘ h.maps, k.few ∘ h.few⟩

/-- Either branch of a test. -/
protected theorem ite {c : Prop} [Decidable c] (ht : c → Steady s t) (hu : ¬c → Steady s u) :
    Steady s (if c then t else u) := by
  split
  · next hc => exact ht hc
  · next hc => exact hu hc

protected theorem foldl {α : Type} {f : State → α → State} {l : List α} (h : Steady s t)
    (hf : ∀ t x, Steady t (f t x)) : Steady s (l.foldl f t) := by
  induction l generalizing t with
  | nil => exact h
  | cons x l ih => exact ih (h.trans (hf t x))

/-- What leaves the watched part alone keeps the invariants. -/
theorem of_watched (h : t.watched = s.watched) : Steady s t where
  mirror := MirrorOk.congr (mirror_of_watched h) (stations_of_watched h)
  lines := LineConditionsOk.congr (lines_of_watched h) (level_of_watched h) (lineCounts_of_watched h)
    fun c => (conditions_of_watched h c).2
  maps := MapConditionsOk.congr (stations_of_watched h) (filtered_of_watched h) (mapCounts_of_watched h)
    fun c => (conditions_of_watched h c).1
  few := FewMaps.congr (stations_of_watched h)

/-- A run followed by what leaves the watched part alone. -/
theorem then_watched (h : Steady s t) (k : u.watched = t.watched := by simp) : Steady s u := h.trans (of_watched k)

/-- A change of the mirror alone. -/
theorem of_mirror {m : Vector MirrorLine 64} (h : MirrorOk s → MirrorOk { s with mirror := m }) :
    Steady s { s with mirror := m } := ⟨h, id, id, id⟩

end Steady

end Sys2Proof.Machine
end

section

set_option Elab.async false

namespace Sys2Proof.Machine

section Conditions

variable {s : State}

/-! ## Condition reports (R72) -/

/-- Of what is watched, a condition report sets one condition of its code. -/
theorem reportCondition_watched (src : CondSource) (c : Code) (holds : Bool) (a : Attributes) :
    (reportCondition src c holds a s).watched = (s.modCode c fun k => k.withCond src holds).watched := by
  have hattrs (t : State) : (t.modCode c fun k => { k with attrs := a }).watched = t.watched :=
    t.modCode_watched c fun _ => rfl
  unfold reportCondition
  dsimp only
  split_ifs <;> simp [hattrs]

/-- A line's report sets the line condition of its code alone. -/
theorem reportCondition_lineCond (c d : Code) (holds : Bool) (a : Attributes) :
    ((reportCondition .line c holds a s).codes.get d).lineCond = if c = d then holds else (s.codes.get d).lineCond := by
  rw [(conditions_of_watched (reportCondition_watched .line c holds a) d).2]
  by_cases hd : c = d
  · subst hd
    simp [State.modCode, CodeState.withCond]
  · simp [State.modCode, hd]

theorem reportCondition_line_mapCond (c d : Code) (holds : Bool) (a : Attributes) :
    ((reportCondition .line c holds a s).codes.get d).mapCond = (s.codes.get d).mapCond := by
  rw [(conditions_of_watched (reportCondition_watched .line c holds a) d).1]
  by_cases hd : c = d
  · subst hd
    simp [State.modCode, CodeState.withCond]
  · simp [State.modCode, hd]

/-- A map's report sets the map condition of its code alone. -/
theorem reportCondition_mapCond (c d : Code) (holds : Bool) (a : Attributes) :
    ((reportCondition .map c holds a s).codes.get d).mapCond = if c = d then holds else (s.codes.get d).mapCond := by
  rw [(conditions_of_watched (reportCondition_watched .map c holds a) d).1]
  by_cases hd : c = d
  · subst hd
    simp [State.modCode, CodeState.withCond]
  · simp [State.modCode, hd]

theorem reportCondition_map_lineCond (c d : Code) (holds : Bool) (a : Attributes) :
    ((reportCondition .map c holds a s).codes.get d).lineCond = (s.codes.get d).lineCond := by
  rw [(conditions_of_watched (reportCondition_watched .map c holds a) d).2]
  by_cases hd : c = d
  · subst hd
    simp [State.modCode, CodeState.withCond]
  · simp [State.modCode, hd]

/-! ## The count of active lines of a code (R57, R61) -/

theorem setLineCount_lineCounts (c : Code) (n : Nat) :
    (setLineCount c n s).lineCounts = Tab.put s.lineCounts c n := by
  unfold setLineCount
  dsimp only
  split
  · rfl
  · simp

/-- The condition of a code follows its count across a passage to or from 0. -/
theorem LinesAgree.setLineCount (h : LinesAgree s) (c : Code) (n : Nat) : LinesAgree (setLineCount c n s) := by
  intro d
  rw [setLineCount_lineCounts, Tab.get_put]
  have hd := h d
  unfold Machine.setLineCount
  dsimp only
  split
  · next hsame =>
    simp only [decide_eq_decide] at hsame
    split
    · next hcd =>
      subst hcd
      rw [hd]
      omega
    · exact hd
  · rw [reportCondition_lineCond]
    split
    · simp [Nat.pos_iff_ne_zero]
    · exact hd

/-- A count of lines reaches the counts and the codes alone. -/
theorem setLineCount_frame (c : Code) (n : Nat) :
    setLineCount c n s =
      { s with lineCounts := Tab.put s.lineCounts c n, codes := (setLineCount c n s).codes } := by
  unfold setLineCount
  dsimp only
  split
  · rfl
  · exact reportCondition_frame ..

theorem setLineCount_mapCond (c d : Code) (n : Nat) :
    ((setLineCount c n s).codes.get d).mapCond = (s.codes.get d).mapCond := by
  unfold setLineCount
  dsimp only
  split
  · rfl
  · exact reportCondition_line_mapCond ..

/-- One of the two counts that a line's change concerns is judged. -/
def judgeCount (old new c : Option Code) (s : State) : State :=
  match c with
  | none => s
  | some c => setLineCount c (countAcross c old new (s.lineCounts.get c)) s

theorem recount_same (old : Option Code) : recount old old s = s := if_pos rfl

theorem recount_of_ne {old new : Option Code} (h : old ≠ new) :
    recount old new s = judgeCount old new new (judgeCount old new old s) := if_neg h

theorem judgeCount_counts (old new c : Option Code) (d : Code) :
    (judgeCount old new c s).lineCounts.get d =
      if c = some d then countAcross d old new (s.lineCounts.get d) else s.lineCounts.get d := by
  cases c with
  | none => rfl
  | some c =>
    simp only [judgeCount, setLineCount_lineCounts, Tab.get_put, Option.some.injEq]
    split
    · next hcd => rw [hcd]
    · rfl

theorem LinesAgree.judgeCount (h : LinesAgree s) (old new c : Option Code) : LinesAgree (judgeCount old new c s) := by
  cases c with
  | none => exact h
  | some c => exact h.setLineCount _ _

theorem judgeCount_frame (old new c : Option Code) :
    judgeCount old new c s =
      { s with lineCounts := (judgeCount old new c s).lineCounts, codes := (judgeCount old new c s).codes } := by
  cases c with
  | none => rfl
  | some c =>
    unfold judgeCount
    dsimp only
    rw [setLineCount_frame]

theorem judgeCount_mapCond (old new c : Option Code) (d : Code) :
    ((judgeCount old new c s).codes.get d).mapCond = (s.codes.get d).mapCond := by
  cases c with
  | none => rfl
  | some c => exact setLineCount_mapCond ..

/-- R61: the counts as they are after a line has counted toward `old` and counts toward `new`. -/
theorem recount_counts (old new : Option Code) (hsome : ∀ c, old = some c → 0 < s.lineCounts.get c) (d : Code) :
    (recount old new s).lineCounts.get d = countAcross d old new (s.lineCounts.get d) := by
  by_cases hne : old = new
  · subst hne
    rw [recount_same]
    unfold countAcross
    split
    · next hd =>
      have := hsome d hd
      omega
    · rfl
  · rw [recount_of_ne hne, judgeCount_counts, judgeCount_counts]
    by_cases hnew : new = some d
    · have hold : old ≠ some d := fun h => hne (h.trans hnew.symm)
      simp [hnew, hold]
    · by_cases hold : old = some d
      · simp [hnew, hold]
      · simp [countAcross, hnew, hold]

theorem LinesAgree.recount (h : LinesAgree s) (old new : Option Code) : LinesAgree (recount old new s) := by
  by_cases hne : old = new
  · subst hne
    rwa [recount_same]
  · rw [recount_of_ne hne]
    exact (h.judgeCount _ _ _).judgeCount _ _ _

/-- The judging of the counts across a line's change reaches the counts and the codes alone. -/
theorem recount_frame (old new : Option Code) :
    recount old new s =
      { s with lineCounts := (recount old new s).lineCounts, codes := (recount old new s).codes } := by
  by_cases hne : old = new
  · subst hne
    rw [recount_same]
  · rw [recount_of_ne hne, judgeCount_frame (s := judgeCount old new old s), judgeCount_frame (s := s)]

theorem recount_mapCond (old new : Option Code) (d : Code) :
    ((recount old new s).codes.get d).mapCond = (s.codes.get d).mapCond := by
  by_cases hne : old = new
  · subst hne
    rw [recount_same]
  · rw [recount_of_ne hne, judgeCount_mapCond, judgeCount_mapCond]

/-! ## A line changes (R55 to R61) -/

theorem activeInputs_eq (c : Code) :
    activeInputs s c = (List.finRange 16).countP fun n => activeCode (s.lines.get n) (s.lineDyn.get n) = some c := by
  unfold activeInputs activeCode countedCode
  refine List.countP_congr fun n _ => ?_
  by_cases hf : (s.lineDyn.get n).filtered = true
  · by_cases hg : (s.lines.get n).fn = .generalIn <;> simp [hf, hg]
  · simp [hf]

/-- A line with its entry and its filter as a change leaves them. -/
def State.withLine (s : State) (n : LineId) (e : LineEntry) (d : LineDyn) : State :=
  { s with lines := Tab.put s.lines n e, lineDyn := Tab.put s.lineDyn n d }

/-- The number of active lines of a code, across the change of one line. -/
theorem activeInputs_withLine (n : LineId) (e : LineEntry) (d : LineDyn) (c : Code) :
    ∃ rest,
      activeInputs s c = rest + (decide (activeCode (s.lines.get n) (s.lineDyn.get n) = some c)).toNat ∧
      activeInputs (s.withLine n e d) c = rest + (decide (activeCode e d = some c)).toNat := by
  obtain ⟨rest, hs, ht⟩ := countP_finRange_split (k := n)
    (p := fun i => decide (activeCode (s.lines.get i) (s.lineDyn.get i) = some c))
    (q := fun i => decide (activeCode ((s.withLine n e d).lines.get i) ((s.withLine n e d).lineDyn.get i) = some c))
    fun i hi => by simp [State.withLine, Ne.symm hi]
  refine ⟨rest, ?_, ?_⟩
  · rw [activeInputs_eq, hs]
  · rw [activeInputs_eq, ht]
    simp [State.withLine]

/-- The counts of active lines and the line conditions follow the change of a line. -/
theorem LineConditionsOk.recount_withLine (h : LineConditionsOk s) (n : LineId) (e : LineEntry) (d : LineDyn) :
    LineConditionsOk
      (recount (activeCode (s.lines.get n) (s.lineDyn.get n)) (activeCode e d) (s.withLine n e d)) := by
  obtain ⟨hcounts, hagree⟩ := lineConditionsOk_iff.1 h
  have hagree' : LinesAgree (s.withLine n e d) := hagree
  refine lineConditionsOk_iff.2 ⟨fun c => ?_, hagree'.recount _ _⟩
  obtain ⟨rest, hs, ht⟩ := activeInputs_withLine (s := s) n e d c
  rw [recount_counts]
  · rw [activeInputs_congr (s := s.withLine n e d) (by rw [recount_frame]) (fun _ => by rw [recount_frame]), ht]
    have hc : (s.withLine n e d).lineCounts.get c = activeInputs s c := hcounts c
    rw [hc, hs]
    unfold countAcross
    split <;> split <;> simp [*]
  · intro c' hc'
    obtain ⟨rest', hs', -⟩ := activeInputs_withLine (s := s) n e d c'
    have hcount : (s.withLine n e d).lineCounts.get c' = activeInputs s c' := hcounts c'
    rw [hcount, hs']
    simp [hc']

/-- A change of a line, its counts judged across it, keeps the invariants. -/
theorem steady_withLine (n : LineId) (e : LineEntry) (d : LineDyn) :
    Steady s (recount (activeCode (s.lines.get n) (s.lineDyn.get n)) (activeCode e d) (s.withLine n e d)) where
  mirror := MirrorOk.congr (by rw [recount_frame]; rfl) (by rw [recount_frame]; rfl)
  lines := fun h => h.recount_withLine n e d
  maps := MapConditionsOk.congr (by rw [recount_frame]; rfl) (fun _ => by rw [recount_frame]; rfl)
    (by rw [recount_frame]; rfl) fun c => recount_mapCond ..
  few := FewMaps.congr (by rw [recount_frame]; rfl)

theorem generalInChanged_watched (n : LineId) (c : Code) (active : Bool) :
    (generalInChanged n c active s).watched =
      (recount (if active then none else some c) (if active then some c else none) s).watched := by
  cases active <;> simp [generalInChanged, recount, countAcross]

@[simp] theorem loopOpens_watched : (loopOpens s).watched = s.watched := by
  unfold loopOpens
  rw [holdAll_watched]
  rfl

@[simp] theorem judgeLoop_watched (before : State) : (judgeLoop before s).watched = s.watched := by
  unfold judgeLoop
  split <;> simp

theorem activeCode_of_uncounted {e : LineEntry} (h : countedCode e = none) (d : LineDyn) : activeCode e d = none := by
  simp [activeCode, h]

/-- What a filtered change of a line leaves of the watched part: the line's filter, and its counts judged. -/
theorem lineChanges_watched {n : LineId} {active : Bool} (h : (s.lineDyn.get n).filtered = !active) :
    (lineChanges n active s).watched =
      (recount (activeCode (s.lines.get n) (s.lineDyn.get n))
        (activeCode (s.lines.get n) { s.lineDyn.get n with filtered := active, candidate := none })
        (s.withLine n (s.lines.get n) { s.lineDyn.get n with filtered := active, candidate := none })).watched := by
  have hmod : s.withLine n (s.lines.get n) { s.lineDyn.get n with filtered := active, candidate := none } =
      s.modLine n fun d => { d with filtered := active, candidate := none } := by
    simp [State.withLine, State.modLine, Tab.upd]
  rw [hmod]
  unfold lineChanges
  dsimp only
  rw [sourceChanged_watched]
  split
  · next c hfn hcode =>
    rw [generalInChanged_watched]
    congr 2
    · cases active <;> simp [activeCode, countedCode, hfn, hcode, h]
    · simp [activeCode, countedCode, hfn, hcode]
  · next hfn =>
    have hnone : countedCode (s.lines.get n) = none := by simp [countedCode, hfn]
    rw [activeCode_of_uncounted hnone, activeCode_of_uncounted hnone, recount_same, judgeLoop_watched]
  · next hfn =>
    have hnone : countedCode (s.lines.get n) = none := by simp [countedCode, hfn]
    rw [activeCode_of_uncounted hnone, activeCode_of_uncounted hnone, recount_same]
    split <;> simp
  · next hcounted =>
    have hnone : countedCode (s.lines.get n) = none := by
      unfold countedCode
      split
      · next hfn => exact Option.eq_none_iff_forall_ne_some.2 fun c hc => hcounted c hfn hc
      · rfl
    rw [activeCode_of_uncounted hnone, activeCode_of_uncounted hnone, recount_same]

/-- A filtered change of a line keeps the invariants. -/
theorem steady_lineChanges {n : LineId} {active : Bool} (h : (s.lineDyn.get n).filtered = !active) :
    Steady s (lineChanges n active s) := (steady_withLine ..).then_watched (lineChanges_watched h)

theorem steady_readLine (n : LineId) : Steady s (readLine n s) := by
  unfold readLine
  dsimp only
  have hread : (s.modLine n fun d => { d with reading := readingOf (s.lines.get n) (s.pins.get n) }).watched =
      s.watched := s.modLine_watched n rfl
  refine (Steady.of_watched hread).trans (.ite (fun hc => steady_lineChanges ?_) fun _ => .refl)
  exact Bool.eq_not_of_ne hc.2

theorem steady_pinTakes (n : LineId) (high : Bool) : Steady s (pinTakes n high s) := by
  unfold pinTakes
  dsimp only
  have hpins : State.watched { s with pins := Tab.put s.pins n high } = s.watched := rfl
  refine .ite (fun _ => .refl) fun _ => (Steady.of_watched hpins).trans ?_
  exact .ite (fun _ => steady_readLine n) fun _ => .of_watched (by simp)

theorem steady_encoderChanges (n : LineId) (high : Bool) : Steady s (encoderChanges n high s) := by
  unfold encoderChanges
  split
  · exact steady_pinTakes n high
  · exact .of_watched (encoderPin_watched ..)

theorem steady_sampleLine (n : LineId) : Steady s (sampleLine n s) := by
  unfold sampleLine
  dsimp only
  have hcount : (s.modLine n fun d => { d with countdown := (s.lines.get n).checkTime }).watched = s.watched :=
    s.modLine_watched n rfl
  refine .ite (fun _ => (Steady.of_watched hcount).trans ?_) fun _ => .refl
  refine .ite (fun _ => .of_watched (State.modLine_watched _ n rfl)) fun hdiffers => ?_
  refine .ite (fun _ => steady_lineChanges ?_) fun _ => .of_watched (State.modLine_watched _ n rfl)
  rw [level_of_watched hcount]
  exact Bool.eq_not_of_ne (Ne.symm hdiffers)

@[simp] theorem encoderChange_watched (old new : LineFn) : (encoderChange old new s).watched = s.watched := by
  unfold encoderChange
  split
  · rfl
  · dsimp only
    split <;> split <;> rfl

/-- A LINE write keeps the invariants: the line is rewritten and its counts judged across the write (R61). -/
theorem steady_writeLine (n : LineId) (e : LineEntry) : Steady s (writeLine n e s) := by
  unfold writeLine
  dsimp only
  have hoff : Steady s (s.setOutput n false) := .of_watched (by simp)
  refine (hoff.trans (steady_withLine n e (freshFilter e (s.pins.get n)))).then_watched ?_
  rw [encoderChange_watched, judgeLoop_watched]
  rfl

end Conditions
end Sys2Proof.Machine
end

section

set_option Elab.async false

namespace Sys2Proof.Machine

section Maps

variable {s t : State} {a : Addr}

/-! ## The count of active maps of a code (R35) -/

theorem setMapCount_mapCounts (a : Addr) (c : Code) (n : Nat) :
    (setMapCount a c n s).mapCounts = Tab.put s.mapCounts c n := by
  unfold setMapCount
  dsimp only
  split
  · rfl
  · simp

/-- A count of maps reaches the counts and the codes alone. -/
theorem setMapCount_frame (a : Addr) (c : Code) (n : Nat) :
    setMapCount a c n s = { s with mapCounts := Tab.put s.mapCounts c n, codes := (setMapCount a c n s).codes } := by
  unfold setMapCount
  dsimp only
  split
  · rfl
  · exact reportCondition_frame ..

theorem setMapCount_lineCond (a : Addr) (c d : Code) (n : Nat) :
    ((setMapCount a c n s).codes.get d).lineCond = (s.codes.get d).lineCond := by
  unfold setMapCount
  dsimp only
  split
  · rfl
  · exact reportCondition_map_lineCond ..

/-- The condition of a code follows its count across a passage to or from 0. -/
theorem MapsAgree.setMapCount (h : MapsAgree s) (a : Addr) (c : Code) (n : Nat) : MapsAgree (setMapCount a c n s) := by
  intro d
  rw [setMapCount_mapCounts, Tab.get_put]
  have hd := h d
  unfold Machine.setMapCount
  dsimp only
  split
  · next hsame =>
    simp only [decide_eq_decide] at hsame
    split
    · next hcd =>
      subst hcd
      rw [hd]
      omega
    · exact hd
  · rw [reportCondition_mapCond]
    split
    · simp [Nat.pos_iff_ne_zero]
    · exact hd

/-! ## What a judging of the maps leaves alone -/

/-- Between `s` and `t` only counts of maps, map conditions and codes' other items have changed, of what is watched; the
condition of each code follows its count. -/
structure MapsJudged (s t : State) : Prop where
  stations : t.stations = s.stations
  filtered : ∀ b : Addr, (t.stationDyn.get b).filtered = (s.stationDyn.get b).filtered
  mirror : t.mirror = s.mirror
  lines : t.lines = s.lines
  levels : ∀ n : LineId, (t.lineDyn.get n).filtered = (s.lineDyn.get n).filtered
  lineCounts : t.lineCounts = s.lineCounts
  lineCond : ∀ c : Code, (t.codes.get c).lineCond = (s.codes.get c).lineCond
  agree : MapsAgree s → MapsAgree t

namespace MapsJudged

variable {u : State}

protected theorem trans (h : MapsJudged s t) (k : MapsJudged t u) : MapsJudged s u where
  stations := k.stations.trans h.stations
  filtered b := (k.filtered b).trans (h.filtered b)
  mirror := k.mirror.trans h.mirror
  lines := k.lines.trans h.lines
  levels n := (k.levels n).trans (h.levels n)
  lineCounts := k.lineCounts.trans h.lineCounts
  lineCond c := (k.lineCond c).trans (h.lineCond c)
  agree := k.agree ∘ h.agree

theorem of_watched (h : t.watched = s.watched) : MapsJudged s t where
  stations := stations_of_watched h
  filtered := filtered_of_watched h
  mirror := mirror_of_watched h
  lines := lines_of_watched h
  levels := level_of_watched h
  lineCounts := lineCounts_of_watched h
  lineCond c := (conditions_of_watched h c).2
  agree := MapsAgree.congr (mapCounts_of_watched h) fun c => (conditions_of_watched h c).1

protected theorem refl : MapsJudged s s := of_watched rfl

protected theorem setMapCount (a : Addr) (c : Code) (n : Nat) : MapsJudged s (setMapCount a c n s) where
  stations := by rw [setMapCount_frame]
  filtered _ := by rw [setMapCount_frame]
  mirror := by rw [setMapCount_frame]
  lines := by rw [setMapCount_frame]
  levels _ := by rw [setMapCount_frame]
  lineCounts := by rw [setMapCount_frame]
  lineCond d := setMapCount_lineCond a c d n
  agree h := h.setMapCount a c n

protected theorem foldl {α : Type} {f : State → α → State} (hf : ∀ t x, MapsJudged t (f t x)) (l : List α) :
    MapsJudged s (l.foldl f s) := by
  induction l generalizing s with
  | nil => exact .refl
  | cons x l ih => exact (hf s x).trans ih

end MapsJudged

/-! ## The maps of one station (R35) -/

/-- The map names the code and is active for the points. -/
def countsFor (m : EventMap) (points : Word16) (c : Code) : Bool := decide (m.code = c) && mapActive m points

theorem mapCountOf_unused {r : StationRecord} (h : r.role = .unused) (points : Word16) (c : Code) :
    mapCountOf r points c = 0 := by
  simp [mapCountOf, activeMaps, h]

theorem mapCountOf_used {r : StationRecord} (h : r.role ≠ .unused) (points : Word16) (c : Code) :
    mapCountOf r points c = r.maps.countP (countsFor · points c) := by
  simp [mapCountOf, activeMaps, h, List.countP_filter, countsFor]

theorem judgeMap_mapsJudged (a : Addr) (old new : Word16) (m : EventMap) :
    MapsJudged s (judgeMap a old new m s) := by
  unfold judgeMap
  dsimp only
  split
  · exact (MapsJudged.setMapCount ..).trans (.of_watched (raiseCode_watched ..))
  · split
    · exact .setMapCount ..
    · exact .refl

/-- A map's judging moves its code's count by what the map gives before and after. -/
theorem judgeMap_counts {old new : Word16} {m : EventMap} {c : Code}
    (h : (countsFor m old c).toNat ≤ s.mapCounts.get c) :
    (judgeMap a old new m s).mapCounts.get c + (countsFor m old c).toNat =
      s.mapCounts.get c + (countsFor m new c).toNat := by
  unfold judgeMap countsFor at *
  dsimp only
  by_cases hc : m.code = c
  · subst hc
    cases hwas : mapActive m old <;> cases his : mapActive m new <;>
      simp_all [setMapCount_mapCounts]
  · split
    · simp [setMapCount_mapCounts, hc]
    · split <;> simp [setMapCount_mapCounts, hc]

theorem judgeMaps_counts {old new : Word16} {c : Code} (l : List EventMap)
    (h : l.countP (countsFor · old c) ≤ s.mapCounts.get c) :
    (l.foldl (fun s m => judgeMap a old new m s) s).mapCounts.get c + l.countP (countsFor · old c) =
      s.mapCounts.get c + l.countP (countsFor · new c) := by
  induction l generalizing s with
  | nil => rfl
  | cons m l ih =>
    have hbool (b : Bool) : (if b = true then 1 else 0) = b.toNat := by cases b <;> rfl
    simp only [List.countP_cons, List.foldl_cons, hbool] at h ⊢
    have hm := judgeMap_counts (a := a) (s := s) (old := old) (new := new) (m := m) (c := c) (by omega)
    have := ih (s := judgeMap a old new m s) (by omega)
    omega

/-! ## The counts over all stations -/

/-- The counts stay right when one station's record and points change and its code counts move by what the station gave
before and gives after. -/
theorem MapConditionsOk.of_station {r : StationRecord} {points : Word16} (h : MapConditionsOk s)
    (hstations : t.stations = Tab.put s.stations a r)
    (hpoints : ∀ b : Addr, (t.stationDyn.get b).filtered = if a = b then points else (s.stationDyn.get b).filtered)
    (hcounts : ∀ c : Code, mapCountOf (s.stations.get a) (s.stationDyn.get a).filtered c ≤ s.mapCounts.get c →
      t.mapCounts.get c + mapCountOf (s.stations.get a) (s.stationDyn.get a).filtered c =
        s.mapCounts.get c + mapCountOf r points c)
    (hagree : MapsAgree t) : MapConditionsOk t := by
  refine mapConditionsOk_iff.2 ⟨fun c => ?_, hagree⟩
  obtain ⟨rest, hs, ht⟩ := sum_finRange_split (k := a)
    (f := fun b => mapCountOf (s.stations.get b) (s.stationDyn.get b).filtered c)
    (g := fun b => mapCountOf (t.stations.get b) (t.stationDyn.get b).filtered c)
    fun b hb => by simp [hstations, hpoints, Ne.symm hb]
  have htotal : s.mapCounts.get c = activeMapTotal s c := (mapConditionsOk_iff.1 h).1 c
  have htotal' : activeMapTotal t c = rest + mapCountOf r points c := ht.trans (by simp [hstations, hpoints])
  have hbefore : activeMapTotal s c = rest + mapCountOf (s.stations.get a) (s.stationDyn.get a).filtered c := hs
  have := hcounts c
  omega

/-! ## A change of filtered points (R19, R35) -/

/-- The filtered points of a station become others and the counts are judged across the change. -/
theorem steady_of_points {points : Word16} (hjudged : MapsJudged (s.modStation a fun d => { d with filtered := points }) t)
    (hcounts : ∀ c : Code, mapCountOf (s.stations.get a) (s.stationDyn.get a).filtered c ≤ s.mapCounts.get c →
      t.mapCounts.get c + mapCountOf (s.stations.get a) (s.stationDyn.get a).filtered c =
        s.mapCounts.get c + mapCountOf (s.stations.get a) points c) : Steady s t where
  mirror := MirrorOk.congr hjudged.mirror hjudged.stations
  lines := LineConditionsOk.congr hjudged.lines hjudged.levels hjudged.lineCounts hjudged.lineCond
  maps h := by
    have hagree : MapsAgree (s.modStation a fun d => { d with filtered := points }) := (mapConditionsOk_iff.1 h).2
    refine h.of_station (a := a) (points := points) ?_ (fun b => ?_) hcounts (hjudged.agree hagree)
    · rw [hjudged.stations]
      simp
    · rw [hjudged.filtered]
      by_cases hb : a = b
      · subst hb
        simp [State.modStation]
      · simp [State.modStation, hb]
  few := FewMaps.congr hjudged.stations

theorem steady_pointsBecome (a : Addr) (points : Word16) : Steady s (pointsBecome a points s) := by
  unfold pointsBecome
  dsimp only
  refine .ite (fun _ => .refl) fun _ => ?_
  generalize htold : timerReports a (s.stationDyn.get a).filtered points
    (roleReport a (s.stationDyn.get a).filtered points (s.modStation a fun d => { d with filtered := points })) = u
  have hu : u.watched = (s.modStation a fun d => { d with filtered := points }).watched := by
    rw [← htold, timerReports_watched, roleReport_watched]
  have hstations : u.stations = s.stations := (stations_of_watched hu :)
  have hcounted : u.mapCounts = s.mapCounts := (mapCounts_of_watched hu :)
  rw [hstations]
  refine .ite (fun hunused => ?_) fun hused => ?_
  · refine steady_of_points (.of_watched hu) fun c _ => ?_
    rw [hcounted, mapCountOf_unused hunused, mapCountOf_unused hunused]
  · refine steady_of_points ((MapsJudged.of_watched hu).trans (.foldl (fun _ => judgeMap_mapsJudged a _ _) _)) fun c hle => ?_
    rw [mapCountOf_used hused] at hle ⊢
    rw [mapCountOf_used hused, judgeMaps_counts _ (hcounted ▸ hle), hcounted]

/-! ## The mirror (R43 to R53) -/

/-- A mirror whose valid lines were valid before under the same tags. -/
theorem MirrorOk.of_lines {m : Vector MirrorLine 64} (h : MirrorOk s)
    (hlines : ∀ i : Fin 64, (m.get i).valid = true →
      (s.mirror.get i).valid = true ∧ (m.get i).tag = (s.mirror.get i).tag) :
    MirrorOk { s with mirror := m } := by
  intro i hi
  obtain ⟨hvalid, htag⟩ := hlines i hi
  have hsame : lineStation i (m.get i) = lineStation i (s.mirror.get i) := by
    unfold lineStation lineAddress
    rw [htag]
  have := h i hvalid
  simpa only [hsame] using this

theorem steady_modMirror_invalid (i : Fin 64) : Steady s (s.modMirror i (·.invalid)) := by
  refine Steady.of_mirror fun h => h.of_lines fun j hj => ?_
  by_cases hij : i = j
  · subst hij
    simp [MirrorLine.invalid] at hj
  · rw [Tab.get_upd_of_ne _ hij] at hj ⊢
    exact ⟨hj, rfl⟩

theorem steady_invalidateStation (a : Addr) : Steady s (invalidateStation a s) :=
  .ite (fun _ => steady_modMirror_invalid _) fun _ => .refl

theorem steady_invalidateDeck (d : Deck) : Steady s (invalidateDeck d s) := by
  refine Steady.of_mirror fun h => h.of_lines fun i hi => ?_
  rw [Tab.get_of] at hi ⊢
  split at hi
  · cases hi
  · next hoff =>
    rw [if_neg hoff]
    exact ⟨hi, rfl⟩

theorem steady_invalidateAll : Steady s (invalidateAll s) :=
  Steady.of_mirror fun h => h.of_lines fun i hi => by
    rw [Tab.get_map] at hi
    cases hi

theorem steady_ageMirror : Steady s (ageMirror s) := by
  refine Steady.of_mirror fun h => h.of_lines fun i hi => ?_
  rw [Tab.get_map] at hi ⊢
  split at hi
  · next hvalid =>
    rw [if_pos hvalid]
    exact ⟨hvalid, rfl⟩
  · next hinvalid =>
    exact absurd hi hinvalid

theorem lineStation_filledLine (a : Addr) (r : Report) (src : FillSource) :
    lineStation (mirrorIndex a) (filledLine a r src) = some a := by
  rw [lineStation_eq_some_iff]
  simp only [mirrorIndex, filledLine, mirrorTag, address]
  omega

/-- A station in use fills its line only when its record allows mirroring (R44). -/
theorem steady_fillMirror (hused : (s.stations.get a).role ≠ .unused) (r : Report) (src : FillSource) :
    Steady s (fillMirror a r src s) := by
  unfold fillMirror
  dsimp only
  refine .ite (fun hfills => ?_) fun _ => .refl
  have hallowed : (s.stations.get a).mirrorAllowed = true := (Bool.and_eq_true_iff.1 hfills).1
  have hfilled : Steady s (s.modMirror (mirrorIndex a) fun _ => filledLine a r src) := by
    refine Steady.of_mirror fun h i hi => ?_
    by_cases hia : mirrorIndex a = i
    · subst hia
      simp only [Tab.get_upd_self, lineStation_filledLine]
      exact ⟨hused, hallowed⟩
    · simp only [Tab.get_upd_of_ne _ hia] at hi ⊢
      exact h i hi
  exact .ite (fun _ => hfilled.then_watched) fun _ => hfilled

/-! ## Frames from the deck and supervision (R21 to R37) -/

theorem steady_silenceStation (a : Addr) : Steady s (silenceStation a s) := by
  unfold silenceStation
  dsimp only
  have hsilent : (s.modStation a fun d => { d with status := .silent }).watched = s.watched :=
    s.modStation_watched a rfl
  have htold := (Steady.of_watched hsilent).then_watched (supervisionReport_watched _ a true)
  exact (htold.trans (steady_invalidateStation a)).then_watched

theorem steady_countSilence (a : Addr) : Steady s (countSilence a s) := by
  unfold countSilence
  dsimp only
  refine .ite (fun _ => ?_) fun _ => .refl
  have hcount : (s.modStation a fun d => { d with silence := min 255 ((s.stationDyn.get a).silence + 1) }).watched =
      s.watched := s.modStation_watched a rfl
  exact (Steady.of_watched hcount).trans (.ite (fun _ => steady_silenceStation a) fun _ => .refl)

theorem steady_sampleStation (a : Addr) : Steady s (sampleStation a s) := by
  unfold sampleStation
  dsimp only
  exact (Steady.of_watched (s.modStation_watched a rfl)).trans (steady_pointsBecome ..)

theorem steady_countSample (a : Addr) : Steady s (countSample a s) := by
  unfold countSample
  dsimp only
  refine .ite (fun _ => .refl) fun _ => .ite (fun _ => ?_) fun _ => .of_watched (s.modStation_watched a rfl)
  exact (Steady.of_watched (s.modStation_watched a rfl)).trans (steady_sampleStation a)

theorem steady_superviseAll : Steady s (superviseAll s) := by
  unfold superviseAll
  dsimp only
  have hdue : Steady s { s with supervisionDue := nextMultiple supervisionPeriod s.now } := .of_watched rfl
  have hcounted := (hdue.foldl (l := List.finRange 254) fun _ => steady_countSilence).foldl
    (l := List.finRange 254) fun _ => steady_countSample
  exact ((hcounted.trans steady_ageMirror).then_watched (reofferBusy_watched _)).foldl fun _ z =>
    .of_watched (recoverLine_watched _ z)

/-- A frame heard changes no filtered value. -/
theorem hearStation_watched (a : Addr) : (hearStation a s).watched = s.watched := by
  have hheard : (s.modStation a fun d => { d with silence := 0, status := .heard }).watched = s.watched :=
    s.modStation_watched a rfl
  rw [hearStation_eq]
  split
  · exact hheard
  · exact (supervisionReport_watched ..).trans hheard

theorem pointsBecome_stations (a : Addr) (points : Word16) : (pointsBecome a points s).stations = s.stations :=
  (Untouched.pointsBecome a points).stations

/-- The points, the fill of the mirror and the forwarding of a STATE frame keep the invariants one after another. -/
theorem steady_takeState (hused : (s.stations.get a).role ≠ .unused) (f : Frame) (r : Report) :
    Steady s (takeState a f r s) := by
  unfold takeState
  dsimp only
  have hreport : (s.modStation a fun d => { d with raw := r.inputs, condition := r.condition, value := r.value }).watched =
      s.watched := s.modStation_watched a rfl
  generalize hreported : (s.modStation a fun d => { d with raw := r.inputs, condition := r.condition, value := r.value }) = t
  rw [hreported] at hreport
  have hstations : (if (s.stations.get a).checkTime = 0 then pointsBecome a r.inputs t else t).stations = s.stations := by
    split
    · rw [pointsBecome_stations, stations_of_watched hreport]
    · exact stations_of_watched hreport
  have hpoints : Steady s (if (s.stations.get a).checkTime = 0 then pointsBecome a r.inputs t else t) :=
    (Steady.of_watched hreport).trans (.ite (fun _ => steady_pointsBecome a r.inputs) fun _ => .refl)
  refine hpoints.trans ?_
  generalize (if (s.stations.get a).checkTime = 0 then pointsBecome a r.inputs t else t) = u at hstations
  have hfilled : Steady u (if (s.stations.get a).policy = .drop then u else fillMirror a r .state u) :=
    .ite (fun _ => .refl) fun _ => steady_fillMirror (by rwa [hstations]) r .state
  exact .ite (fun _ => hfilled.then_watched (sendTx_watched ..)) fun _ => hfilled

theorem steady_takeReply (hused : (s.stations.get a).role ≠ .unused) (f : Frame) (r : Report) :
    Steady s (takeReply a f r s) := by
  unfold takeReply forwardUp
  dsimp only
  have hsent : Steady s (sendTx .bridge .normal f.forward s) := .of_watched (by simp)
  exact hsent.trans (.ite (fun _ => .refl) fun _ => steady_fillMirror (by simpa using hused) r .reply)

theorem steady_deckFrame (d : Deck) (f : Frame) : Steady s (deckFrame d f s) := by
  unfold deckFrame filterFrame forwardUp
  dsimp only
  split
  · exact .of_watched (by simp)
  · next a _ =>
    refine .ite (fun _ => ?_) fun hused => .ite (fun _ => .of_watched (by simp)) fun _ => ?_
    · split
      · exact .of_watched (by simp)
      · exact .of_watched (by simp)
    · refine (Steady.of_watched (hearStation_watched a)).trans ?_
      have hused' : ((hearStation a s).stations.get a).role ≠ .unused := by rwa [hearStation_stations]
      split
      · exact .of_watched (by simp)
      · exact steady_takeState hused' ..
      · exact steady_takeReply hused' ..

/-! ## Frames from the bridge to stations (R26 to R29) -/

@[simp] theorem reject_watched (reason : RejectReason) (f : Frame) : (reject reason f s).watched = s.watched := by
  simp [reject]

@[simp] theorem sendDown_watched (a : Addr) (f : Frame) : (sendDown a f s).watched = s.watched := by
  unfold sendDown
  split
  · simp
  · dsimp only
    split <;> simp

@[simp] theorem bridgeCommand_watched (a : Addr) (f : Frame) : (bridgeCommand a f s).watched = s.watched := by
  unfold bridgeCommand
  split_ifs <;> simp

@[simp] theorem bridgeQuery_watched (a : Addr) (f : Frame) : (bridgeQuery a f s).watched = s.watched := by
  unfold bridgeQuery
  split_ifs <;> simp

@[simp] theorem broadcast_watched (b : Bool) (f : Frame) : (broadcast b f s).watched = s.watched := by
  unfold broadcast copyDown
  dsimp only
  split_ifs <;> simp

@[simp] theorem stationFrame_watched (f : Frame) : (stationFrame f s).watched = s.watched := by
  unfold stationFrame filterFrame
  dsimp only
  split
  · split
    · simp
    · split <;> simp
  · simp

/-! ## The STATION write (R39, R40) -/

theorem recountMaps_mapsJudged (a : Addr) (old new : StationRecord) (was is : Word16) :
    MapsJudged s (recountMaps a old new was is s) :=
  .foldl (fun t c => by
    dsimp only
    split
    · exact .refl
    · exact .setMapCount ..) _

/-- R40: every code's count exchanges what the old record gave for what the new one gives. -/
theorem recountMaps_counts (a : Addr) (old new : StationRecord) (was is : Word16) (c : Code)
    (h : mapCountOf old was c ≤ s.mapCounts.get c) :
    (recountMaps a old new was is s).mapCounts.get c = s.mapCounts.get c - mapCountOf old was c + mapCountOf new is c := by
  have hwalk : ∀ (l : List Code) (t : State), l.Nodup →
      (l.foldl (fun s c =>
        if mapCountOf old was c = mapCountOf new is c then s
        else setMapCount a c (s.mapCounts.get c - mapCountOf old was c + mapCountOf new is c) s) t).mapCounts.get c =
      if c ∈ l ∧ mapCountOf old was c ≠ mapCountOf new is c then
        t.mapCounts.get c - mapCountOf old was c + mapCountOf new is c
      else t.mapCounts.get c := by
    intro l
    induction l with
    | nil => intro t _; simp
    | cons d l ih =>
      intro t hl
      obtain ⟨hd, hl⟩ := List.nodup_cons.1 hl
      rw [List.foldl_cons, ih _ hl]
      by_cases hcd : c = d
      · subst hcd
        by_cases hsame : mapCountOf old was c = mapCountOf new is c <;> simp [hsame, hd, setMapCount_mapCounts]
      · have hdc : d ≠ c := Ne.symm hcd
        have hother : (if mapCountOf old was d = mapCountOf new is d then t
            else setMapCount a d (t.mapCounts.get d - mapCountOf old was d + mapCountOf new is d) t).mapCounts.get c =
            t.mapCounts.get c := by
          split
          · rfl
          · simp [setMapCount_mapCounts, hdc]
        rw [hother]
        simp [hcd]
  have := hwalk (List.finRange 64) s (List.nodup_finRange 64)
  unfold recountMaps
  dsimp only
  rw [this]
  split
  · rfl
  · next hsame =>
    have : mapCountOf old was c = mapCountOf new is c := by simpa using hsame
    omega

/-- A station with its record and its dynamic items as a write leaves them. -/
def State.withStation (s : State) (a : Addr) (r : StationRecord) (d : StationDyn) : State :=
  { s with stations := Tab.put s.stations a r, stationDyn := Tab.put s.stationDyn a d }

/-- After the invalidation of a station's copy the valid lines are those of other stations, as they were. -/
theorem invalidateStation_valid {i : Fin 64} (h : ((invalidateStation a s).mirror.get i).valid = true) :
    (invalidateStation a s).mirror.get i = s.mirror.get i ∧ lineStation i (s.mirror.get i) ≠ some a := by
  have hother (hi : mirrorIndex a ≠ i ∨ (s.mirror.get i).tag ≠ mirrorTag a) :
      lineStation i (s.mirror.get i) ≠ some a := by
    intro hline
    rw [lineStation_eq_some_iff] at hline
    have hlt := i.isLt
    have hindex : mirrorIndex a = i := by
      apply Fin.ext
      simp only [mirrorIndex, address]
      omega
    have htag : (s.mirror.get i).tag = mirrorTag a := by
      apply Fin.ext
      simp only [mirrorTag, address]
      omega
    exact hi.elim (· hindex) (· htag)
  by_cases hcopy : holdsCopy s a = true
  · rw [invalidateStation, if_pos hcopy] at h ⊢
    by_cases hi : mirrorIndex a = i
    · subst hi
      simp [State.modMirror, MirrorLine.invalid] at h
    · exact ⟨by simp [State.modMirror, hi], hother (.inl hi)⟩
  · rw [invalidateStation, if_neg hcopy] at h ⊢
    refine ⟨rfl, hother (or_iff_not_imp_left.2 fun hi htag => hcopy ?_)⟩
    have hi : mirrorIndex a = i := not_not.1 hi
    subst hi
    simp [holdsCopy, h, htag]

theorem invalidateStation_frame (a : Addr) :
    invalidateStation a s = { s with mirror := (invalidateStation a s).mirror } := by
  unfold invalidateStation
  split <;> rfl

/-- The copy of a station is invalidated with the write of its record, so that no valid line is left to the record. -/
theorem MirrorOk.rewritten {u : State} (h : MirrorOk s) {r : StationRecord}
    (hmirror : u.mirror = s.mirror) (hstations : u.stations = Tab.put s.stations a r) :
    MirrorOk (invalidateStation a u) := by
  intro i hi
  obtain ⟨hsame, hother⟩ := invalidateStation_valid hi
  have hstations' : (invalidateStation a u).stations = Tab.put s.stations a r := by
    rw [invalidateStation_frame]
    exact hstations
  have hvalid : (s.mirror.get i).valid = true := by rw [← hmirror, ← hsame]; exact hi
  rw [hsame, hmirror, hstations']
  rw [hmirror] at hother
  have hline := h i hvalid
  split at hline
  · exact hline.elim
  · next b hb =>
    have hab : a ≠ b := fun hab => hother (hab ▸ hb)
    simpa [hb, hab] using hline

/-- A record and its dynamic items rewritten, the copy invalidated and the counts exchanged, keep the invariants when the
record holds at most four maps. -/
theorem steady_rewritten {r : StationRecord} {d : StationDyn} {u : State} (hfew : r.maps.length ≤ 4)
    (hu : u.watched = (s.withStation a r d).watched) :
    Steady s
      (recountMaps a (s.stations.get a) r (s.stationDyn.get a).filtered d.filtered (invalidateStation a u)) := by
  have hframe := invalidateStation_frame (s := u) a
  have hjudged := recountMaps_mapsJudged (s := invalidateStation a u) a (s.stations.get a) r
    (s.stationDyn.get a).filtered d.filtered
  have hmirror : u.mirror = s.mirror := (mirror_of_watched hu :)
  have hcounted : (invalidateStation a u).mapCounts = s.mapCounts := by
    rw [hframe]
    exact (mapCounts_of_watched hu :)
  have hstations : u.stations = Tab.put s.stations a r := (stations_of_watched hu :)
  have hstations' : (invalidateStation a u).stations = Tab.put s.stations a r := by
    rw [hframe]
    exact hstations
  refine ⟨fun h => ?_, fun h => ?_, fun h => ?_, fun h => ?_⟩
  · exact (h.rewritten hmirror hstations).congr hjudged.mirror hjudged.stations
  · have hlines : LineConditionsOk (invalidateStation a u) := by
      rw [hframe]
      exact h.congr (lines_of_watched hu :) (level_of_watched hu :) (lineCounts_of_watched hu :)
        (fun c => (conditions_of_watched hu c).2 :)
    exact hlines.congr hjudged.lines hjudged.levels hjudged.lineCounts hjudged.lineCond
  · have hagree : MapsAgree (invalidateStation a u) := by
      rw [hframe]
      exact (mapConditionsOk_iff.1 h).2.congr (mapCounts_of_watched hu :) fun c => (conditions_of_watched hu c).1
    refine h.of_station (a := a) (r := r) (points := d.filtered) ?_ (fun b => ?_) (fun c hle => ?_) (hjudged.agree hagree)
    · rw [hjudged.stations, hstations']
    · rw [hjudged.filtered, hframe]
      refine (filtered_of_watched hu b).trans ?_
      by_cases hab : a = b
      · subst hab
        simp [State.withStation]
      · simp [State.withStation, hab]
    · rw [recountMaps_counts _ _ _ _ _ _ (by rwa [hcounted]), hcounted]
      omega
  · intro b
    rw [hjudged.stations, hstations']
    by_cases hab : a = b
    · subst hab
      simpa using hfew
    · simpa [hab] using h b

/-- A write that keeps the role: the filtered points take the raw values, which the users are told before the copy and
the counts of maps (R40). -/
theorem writeStation_same_role {r : StationRecord} (h : r.role = (s.stations.get a).role) :
    writeStation a r s =
      recountMaps a (s.stations.get a) r (s.stationDyn.get a).filtered (s.stationDyn.get a).raw
        (invalidateStation a
          (timerReports a (s.stationDyn.get a).filtered (s.stationDyn.get a).raw
            (roleReport a (s.stationDyn.get a).filtered (s.stationDyn.get a).raw
              (s.withStation a r ((s.stationDyn.get a).settled r.checkTime))))) := by
  have hraw : ((s.withStation a r ((s.stationDyn.get a).settled r.checkTime)).stationDyn.get a).filtered =
      (s.stationDyn.get a).raw := by simp [State.withStation, StationDyn.settled]
  rw [← hraw]
  exact if_pos h

/-- A write of a new role gives the station its power-on items and no owner (R40). -/
theorem writeStation_new_role {r : StationRecord} (h : r.role ≠ (s.stations.get a).role) :
    writeStation a r s =
      recountMaps a (s.stations.get a) r (s.stationDyn.get a).filtered 0
        (invalidateStation a ((s.withStation a r (StationDyn.powerOn r.checkTime)).setOwner a .free)) := if_neg h

theorem steady_writeStation {r : StationRecord} (a : Addr) (hfew : r.maps.length ≤ 4) :
    Steady s (writeStation a r s) := by
  by_cases hrole : r.role = (s.stations.get a).role
  · rw [writeStation_same_role hrole]
    exact steady_rewritten (d := (s.stationDyn.get a).settled r.checkTime) hfew (by simp)
  · rw [writeStation_new_role hrole]
    exact steady_rewritten (d := StationDyn.powerOn r.checkTime) hfew (by simp)

theorem length_maps_of_stationOf {f : StationFields} {r : StationRecord} (h : stationOf f = some r) :
    r.maps.length ≤ 4 := by
  have hall {l : List MapFields} {ms : List EventMap} (h : allOf mapOf l = some ms) : ms.length = l.length := by
    induction l generalizing ms with
    | nil =>
      cases h
      rfl
    | cons x l ih =>
      unfold allOf at h
      split at h
      · next y ys _ hys =>
        cases h
        simp [ih hys]
      · cases h
  simp only [stationOf, Option.pure_def, Option.bind_eq_bind, Option.bind_eq_some_iff, Option.some.injEq] at h
  obtain ⟨_, _, _, _, _, _, _, _, _, _, ms, hms, rfl⟩ := h
  unfold mapsOf at hms
  split at hms
  · next hle => exact (hall hms).trans_le hle
  · cases hms

end Maps
end Sys2Proof.Machine
end

section

set_option Elab.async false

namespace Sys2Proof.Machine

section Resets

variable {s t : State}

/-! ## The counts and conditions reported anew (R42, R62) -/

theorem get_foldl_upd_succ (c : Code) (l : List EventMap) (v : Vector Nat 64) :
    (l.foldl (fun v m => Tab.upd v m.code (· + 1)) v).get c = v.get c + l.countP (·.code = c) := by
  induction l generalizing v with
  | nil => rfl
  | cons m l ih =>
    rw [List.foldl_cons, ih, List.countP_cons, Tab.get_upd]
    by_cases hm : m.code = c
    · subst hm
      simp
      omega
    · simp [hm]

/-- The reset counts the active maps of every code (R42). -/
theorem totalMaps_get (c : Code) : (totalMaps s).get c = activeMapTotal s c := by
  have hwalk (l : List Addr) (v : Vector Nat 64) :
      (l.foldl (fun v a =>
        (activeMaps (s.stations.get a) (s.stationDyn.get a).filtered).foldl
          (fun v m => Tab.upd v m.code (· + 1)) v) v).get c =
        v.get c + (l.map fun a => mapCountOf (s.stations.get a) (s.stationDyn.get a).filtered c).sum := by
    induction l generalizing v with
    | nil => rfl
    | cons a l ih =>
      rw [List.foldl_cons, ih, get_foldl_upd_succ, List.map_cons, List.sum_cons, mapCountOf, Nat.add_assoc]
  unfold totalMaps
  rw [hwalk, Tab.get_replicate, Nat.zero_add]
  rfl

/-- A code with an active map has a station to name (R42, log entry 2). -/
theorem reportedStation_isSome {c : Code} (h : 0 < activeMapTotal s c) : ∃ a, reportedStation s c = some a := by
  have hstation : ∃ a : Addr, 0 < mapCountOf (s.stations.get a) (s.stationDyn.get a).filtered c := by
    by_contra hnone
    have hzero : activeMapTotal s c = 0 := by
      refine List.sum_eq_zero fun n hn => ?_
      obtain ⟨a, -, rfl⟩ := List.mem_map.1 hn
      exact Nat.eq_zero_of_not_pos fun ha => hnone ⟨a, ha⟩
    omega
  obtain ⟨a, ha⟩ := hstation
  have hmem : a ∈ mapStations s c := List.mem_filter.2 ⟨List.mem_finRange a, by simpa using ha⟩
  have hlt : Config.reportedStation s.now c % (mapStations s c).length < (mapStations s c).length :=
    Nat.mod_lt _ (List.length_pos_of_mem hmem)
  exact ⟨_, List.getElem?_eq_getElem hlt⟩

/-- One code's map condition reported anew. -/
def reportMapAnew (s : State) (c : Code) : State :=
  if s.mapCounts.get c = 0 then s
  else
    match reportedStation s c with
    | none => s
    | some a => reportCondition .map c true (mapCondAttrs s a) s

theorem reportMapsAnew_eq : reportMapsAnew s = (List.finRange 64).foldl reportMapAnew s := rfl

theorem reportMapAnew_frame (c : Code) : reportMapAnew s c = { s with codes := (reportMapAnew s c).codes } := by
  unfold reportMapAnew
  split
  · rfl
  · split
    · rfl
    · exact reportCondition_frame ..

theorem reportMapAnew_lineCond (c d : Code) :
    ((reportMapAnew s c).codes.get d).lineCond = (s.codes.get d).lineCond := by
  unfold reportMapAnew
  split
  · rfl
  · split
    · rfl
    · exact reportCondition_map_lineCond ..

theorem reportMapAnew_mapCond (h : ∀ c : Code, s.mapCounts.get c = activeMapTotal s c) (c d : Code) :
    ((reportMapAnew s c).codes.get d).mapCond =
      if c = d ∧ 0 < s.mapCounts.get d then true else (s.codes.get d).mapCond := by
  unfold reportMapAnew
  split
  · next hzero =>
    by_cases hcd : c = d
    · subst hcd
      simp [hzero]
    · simp [hcd]
  · next hpos =>
    obtain ⟨a, ha⟩ := reportedStation_isSome (s := s) (c := c) (by rw [← h]; omega)
    rw [ha]
    dsimp only
    rw [reportCondition_mapCond]
    by_cases hcd : c = d
    · subst hcd
      simp [Nat.pos_of_ne_zero hpos]
    · simp [hcd]

/-- What the walk that reports the map conditions anew leaves: outside the codes everything, of the codes the line
conditions; a code whose count is right and above 0 holds. -/
theorem reportMapsAnew_walk (l : List Code) (s : State) (h : ∀ c : Code, s.mapCounts.get c = activeMapTotal s c) :
    l.foldl reportMapAnew s = { s with codes := (l.foldl reportMapAnew s).codes } ∧
      ∀ d : Code, ((l.foldl reportMapAnew s).codes.get d).lineCond = (s.codes.get d).lineCond ∧
        ((l.foldl reportMapAnew s).codes.get d).mapCond =
          if d ∈ l ∧ 0 < s.mapCounts.get d then true else (s.codes.get d).mapCond := by
  induction l generalizing s with
  | nil => exact ⟨rfl, fun d => ⟨rfl, by simp⟩⟩
  | cons c l ih =>
    have hframe := reportMapAnew_frame (s := s) c
    have hcounts : (reportMapAnew s c).mapCounts = s.mapCounts := by rw [hframe]
    have htotal (d : Code) : activeMapTotal (reportMapAnew s c) d = activeMapTotal s d := by
      rw [hframe]
      rfl
    obtain ⟨hwalk, hcodes⟩ := ih (reportMapAnew s c) fun d => by rw [hcounts, htotal, h]
    rw [List.foldl_cons]
    refine ⟨?_, fun d => ⟨?_, ?_⟩⟩
    · rw [hwalk, hframe]
    · rw [(hcodes d).1, reportMapAnew_lineCond]
    · rw [(hcodes d).2, hcounts, reportMapAnew_mapCond h]
      by_cases hpos : 0 < s.mapCounts.get d <;> by_cases hl : d ∈ l <;> by_cases hcd : c = d <;>
        simp [hpos, hl, hcd, eq_comm]

/-- One code's line condition reported anew. -/
def reportLineAnew (s : State) (c : Code) : State :=
  if s.lineCounts.get c = 0 then s else reportCondition .line c true lineCondAttrs s

theorem reportLinesAnew_eq : reportLinesAnew s = (List.finRange 64).foldl reportLineAnew s := rfl

theorem reportLineAnew_frame (c : Code) : reportLineAnew s c = { s with codes := (reportLineAnew s c).codes } := by
  unfold reportLineAnew
  split
  · rfl
  · exact reportCondition_frame ..

theorem reportLineAnew_mapCond (c d : Code) :
    ((reportLineAnew s c).codes.get d).mapCond = (s.codes.get d).mapCond := by
  unfold reportLineAnew
  split
  · rfl
  · exact reportCondition_line_mapCond ..

theorem reportLineAnew_lineCond (c d : Code) :
    ((reportLineAnew s c).codes.get d).lineCond =
      if c = d ∧ 0 < s.lineCounts.get d then true else (s.codes.get d).lineCond := by
  unfold reportLineAnew
  split
  · next hzero =>
    by_cases hcd : c = d
    · subst hcd
      simp [hzero]
    · simp [hcd]
  · next hpos =>
    rw [reportCondition_lineCond]
    by_cases hcd : c = d
    · subst hcd
      simp [Nat.pos_of_ne_zero hpos]
    · simp [hcd]

/-- What the walk that reports the line conditions anew leaves: outside the codes everything, of the codes the map
conditions; a code whose count is above 0 holds. -/
theorem reportLinesAnew_walk (l : List Code) (s : State) :
    l.foldl reportLineAnew s = { s with codes := (l.foldl reportLineAnew s).codes } ∧
      ∀ d : Code, ((l.foldl reportLineAnew s).codes.get d).mapCond = (s.codes.get d).mapCond ∧
        ((l.foldl reportLineAnew s).codes.get d).lineCond =
          if d ∈ l ∧ 0 < s.lineCounts.get d then true else (s.codes.get d).lineCond := by
  induction l generalizing s with
  | nil => exact ⟨rfl, fun d => ⟨rfl, by simp⟩⟩
  | cons c l ih =>
    have hframe := reportLineAnew_frame (s := s) c
    have hcounts : (reportLineAnew s c).lineCounts = s.lineCounts := by rw [hframe]
    obtain ⟨hwalk, hcodes⟩ := ih (reportLineAnew s c)
    rw [List.foldl_cons]
    refine ⟨?_, fun d => ⟨?_, ?_⟩⟩
    · rw [hwalk, hframe]
    · rw [(hcodes d).1, reportLineAnew_mapCond]
    · rw [(hcodes d).2, hcounts, reportLineAnew_lineCond]
      by_cases hpos : 0 < s.lineCounts.get d <;> by_cases hl : d ∈ l <;> by_cases hcd : c = d <;>
        simp [hpos, hl, hcd, eq_comm]

/-- From codes of which no condition holds, the reports anew make each condition follow its count. -/
theorem reportAnew_agree (hcodes : ∀ c : Code, (s.codes.get c).mapCond = false ∧ (s.codes.get c).lineCond = false)
    (hcounts : ∀ c : Code, s.mapCounts.get c = activeMapTotal s c) :
    MapsAgree (reportLinesAnew (reportMapsAnew s)) ∧ LinesAgree (reportLinesAnew (reportMapsAnew s)) := by
  obtain ⟨hmaps, hmapCodes⟩ := reportMapsAnew_walk (List.finRange 64) s hcounts
  obtain ⟨hlines, hlineCodes⟩ := reportLinesAnew_walk (List.finRange 64) (reportMapsAnew s)
  rw [← reportMapsAnew_eq] at hmaps hmapCodes
  rw [← reportLinesAnew_eq] at hlines hlineCodes
  refine ⟨fun c => ?_, fun c => ?_⟩
  · rw [(hlineCodes c).1, (hmapCodes c).2, hlines, hmaps]
    simp [(hcodes c).1]
  · rw [(hlineCodes c).2, (hmapCodes c).1, hlines, hmaps]
    simp [(hcodes c).2]

/-! ## The reset of every block (R180, R181) -/

@[simp] theorem flushPort_watched (p : Port) : (flushPort p s).watched = s.watched := by
  simp [flushPort]

@[simp] theorem flushPorts_watched : (flushPorts s).watched = s.watched := by
  simp [flushPorts]

@[simp] theorem resetZones_watched : (resetZones s).watched = s.watched := rfl

@[simp] theorem resetCalls_watched : (resetCalls s).watched = s.watched := by
  have hsent := watched_foldl (s := s)
    (f := fun s z => if (s.zoneLines.get z).state.isBusy then sendStop z s else s)
    (fun t z => by split <;> simp) (List.finRange 8) s rfl
  unfold resetCalls
  dsimp only
  generalize (List.finRange 8).foldl _ s = t at hsent ⊢
  exact hsent

@[simp] theorem resetRamps_watched : (resetRamps s).watched = s.watched := by
  refine watched_foldl (fun t r => ?_) _ s rfl
  dsimp only
  split <;> simp

theorem resetStations_mapCounts (c : Code) :
    (resetStations s).mapCounts.get c = activeMapTotal (resetStations s) c := by
  unfold resetStations
  dsimp only
  rw [totalMaps_get]
  exact activeMapTotal_congr rfl (fun _ => rfl) c

/-- What the reset of the Event Controller, the timers, the outputs and the mirror leaves of a state, as far as the
invariants read it. -/
theorem resetEvents_eq :
    ∃ (v : Vector TimerDyn 8) (o : Vector Bool 16),
      resetEvents (haltTimers (deEnergiseAll (invalidateAll s))) =
        { s with
          mirror := s.mirror.map (·.invalid), outputs := o, timerDyn := v
          codes := Vector.replicate 64 CodeState.powerOn, alerts := Alerts.empty, ga := GeneralAlarm.powerOn } :=
  ⟨_, _, rfl⟩

/-- The Classifier and the mirror reset, the outputs off, the timers halted and the codes in their power-on state. -/
theorem steady_reset :
    Steady s (reportLinesAnew (reportMapsAnew (resetEvents (haltTimers (deEnergiseAll (invalidateAll
      (resetStations s))))))) := by
  have hcounts := resetStations_mapCounts (s := s)
  have hstations : (resetStations s).stations = s.stations := rfl
  have hlines : (resetStations s).lines = s.lines := rfl
  have hlineDyn : (resetStations s).lineDyn = s.lineDyn := rfl
  have hlineCounts : (resetStations s).lineCounts = s.lineCounts := rfl
  generalize resetStations s = r at *
  obtain ⟨v, o, hreset⟩ := resetEvents_eq (s := r)
  rw [hreset]
  generalize ht : ({ r with
    mirror := r.mirror.map (·.invalid), outputs := o, timerDyn := v
    codes := Vector.replicate 64 CodeState.powerOn, alerts := Alerts.empty, ga := GeneralAlarm.powerOn } : State) = t
  have hcounts' (c : Code) : t.mapCounts.get c = activeMapTotal t c := by
    subst ht
    exact (hcounts c).trans (activeMapTotal_congr rfl (fun _ => rfl) c)
  have hcodes (c : Code) : (t.codes.get c).mapCond = false ∧ (t.codes.get c).lineCond = false := by
    subst ht
    simp [CodeState.powerOn]
  obtain ⟨hmaps, -⟩ := reportMapsAnew_walk (List.finRange 64) t hcounts'
  obtain ⟨hlinesAnew, -⟩ := reportLinesAnew_walk (List.finRange 64) (reportMapsAnew t)
  rw [← reportMapsAnew_eq] at hmaps
  rw [← reportLinesAnew_eq] at hlinesAnew
  obtain ⟨hmapsAgree, hlinesAgree⟩ := reportAnew_agree hcodes hcounts'
  have hsame : ∃ k, reportLinesAnew (reportMapsAnew t) = { t with codes := k } :=
    ⟨_, hlinesAnew.trans (by rw [hmaps])⟩
  generalize reportLinesAnew (reportMapsAnew t) = u at *
  obtain ⟨k, rfl⟩ := hsame
  refine ⟨fun _ => ?_, fun h => ?_, fun _ => ?_, ?_⟩
  · refine mirrorOk_of_invalid fun i => ?_
    subst ht
    simp [MirrorLine.invalid]
  · refine lineConditionsOk_iff.2 ⟨fun c => ?_, hlinesAgree⟩
    have hcount := (lineConditionsOk_iff.1 h).1 c
    subst ht
    have hactive : activeInputs s c = activeInputs r c :=
      (activeInputs_congr hlines (fun _ => by rw [hlineDyn]) c).symm
    have hsame : r.lineCounts.get c = activeInputs r c := by rw [hlineCounts, hcount, hactive]
    exact hsame.trans (activeInputs_congr rfl (fun _ => rfl) c).symm
  · exact mapConditionsOk_iff.2 ⟨fun c => (hcounts' c).trans (activeMapTotal_congr rfl (fun _ => rfl) c).symm, hmapsAgree⟩
  · subst ht
    exact FewMaps.congr hstations

theorem steady_resetBlocks : Steady s (resetBlocks s) := by
  unfold resetBlocks
  dsimp only
  have hconfig : Steady s { s with device := .config } := .of_watched rfl
  have hflushed := hconfig.then_watched (flushPorts_watched (s := { s with device := .config }))
  exact (hflushed.trans steady_reset).then_watched

/-- No line, map, mirror copy or condition of the power-on state is active. -/
theorem steady_powerOn (straps : Straps) (pins : Vector Bool 16) (held : Bool) (pending : List Instr) :
    Steady s (State.powerOn straps pins held pending) where
  mirror _ := mirrorOk_of_invalid fun i => by simp [State.powerOn, MirrorLine.powerOn]
  lines _ c := by
    have hcount : (State.powerOn straps pins held pending).lineCounts.get c = 0 := Tab.get_replicate ..
    have hcond : ((State.powerOn straps pins held pending).codes.get c).lineCond = false := by
      simp only [State.powerOn, Tab.get_replicate, CodeState.powerOn]
    have hnone : activeInputs (State.powerOn straps pins held pending) c = 0 :=
      List.countP_eq_zero.2 fun n _ => by simp [State.powerOn, LineEntry.powerOn]
    simp [hcount, hcond, hnone]
  maps _ c := by
    have hcount : (State.powerOn straps pins held pending).mapCounts.get c = 0 := Tab.get_replicate ..
    have hcond : ((State.powerOn straps pins held pending).codes.get c).mapCond = false := by
      simp only [State.powerOn, Tab.get_replicate, CodeState.powerOn]
    have hunused (a : Addr) : ((State.powerOn straps pins held pending).stations.get a).role = .unused := by
      simp only [State.powerOn, Tab.get_replicate, StationRecord.powerOn]
    have hnone : activeMapTotal (State.powerOn straps pins held pending) c = 0 := by
      refine List.sum_eq_zero fun n hn => ?_
      obtain ⟨a, -, rfl⟩ := List.mem_map.1 hn
      exact mapCountOf_unused (hunused a) ..
    simp [hcount, hcond, hnone]
  few _ a := by simp [State.powerOn, StationRecord.powerOn]

@[simp] theorem enterRun_watched (b : Bool) : (enterRun b s).watched = s.watched := by
  unfold enterRun
  rw [zonesEnterRun_watched]
  rfl

theorem steady_restartPart : Steady s (restartPart s).2 := by
  unfold restartPart
  dsimp only
  split
  · exact steady_resetBlocks
  · exact steady_resetBlocks.then_watched

/-! ## Ports and line quality (R15 to R17, R169 to R171) -/

@[simp] theorem signal_watched (p : Port) : (signal p s).watched = s.watched := by
  unfold signal portRises startWindow
  dsimp only
  split
  · rfl
  · split <;> rfl

@[simp] theorem badFrame_watched (p : Port) : (badFrame p s).watched = s.watched := by
  unfold badFrame reportBadFrame
  dsimp only
  split <;> simp

theorem steady_portFalls (p : Port) : Steady s (portFalls p s) := by
  have hstopped (d : Deck) : Steady s (stopWindow d s) := .of_watched rfl
  unfold portFalls
  split
  · exact (hstopped .a).trans (steady_invalidateDeck .a)
  · exact (hstopped .b).trans (steady_invalidateDeck .b)
  · exact .of_watched rfl

theorem steady_loss (p : Port) (receiving : Bool) : Steady s (loss p receiving s) := by
  unfold loss
  refine .ite (fun _ => Steady.trans (.of_watched ?_) (steady_portFalls p)) fun _ => .refl
  simp
  split <;> simp

theorem steady_bridgeLost : Steady s (bridgeLost s) := by
  unfold bridgeLost
  refine .ite (fun _ => .of_watched ?_) fun _ => .refl
  rw [enterAutonomous_watched]
  rfl

@[simp] theorem offerRx_watched (p : Port) (f : Frame) : (offerRx p f s).watched = s.watched := by
  unfold offerRx
  split <;> simp

@[simp] theorem acceptFrame_watched (p : Port) (f : Frame) : (acceptFrame p f s).watched = s.watched := by
  unfold acceptFrame
  dsimp only
  split <;> simp

@[simp] theorem frameEnds_watched (p : Port) (bytes : List Byte) : (frameEnds p bytes s).watched = s.watched := by
  unfold frameEnds
  split
  · split
    · rfl
    · split <;> simp
  · rfl

@[simp] theorem transmissionEnds_watched (p : Port) : (transmissionEnds p s).watched = s.watched := by
  unfold transmissionEnds
  split <;> simp

theorem steady_changeGrade (d : Deck) (g : Grade) : Steady s (changeGrade d g s) := by
  unfold changeGrade
  dsimp only
  have hgraded : Steady s (s.modQuality d fun m => { m with grade := g, cleanRun := 0 }) := .of_watched rfl
  refine (hgraded.trans ?_).then_watched (raiseInternal_watched ..)
  exact .ite (fun _ => steady_invalidateDeck d) fun _ => .refl

theorem steady_judgeWindow (d : Deck) (threshold : Nat) : Steady s (judgeWindow d threshold s) := by
  unfold judgeWindow
  dsimp only
  split
  · exact .ite (fun _ => steady_changeGrade ..) fun _ => .refl
  · exact .ite (fun _ => .ite (fun _ => steady_changeGrade ..) fun _ => .of_watched rfl) fun _ => .of_watched rfl

theorem steady_windowEnds (d : Deck) : Steady s (windowEnds d s) := by
  unfold windowEnds startWindow
  split
  · exact .refl
  · exact (steady_judgeWindow ..).then_watched rfl

end Resets
end Sys2Proof.Machine
end

section

set_option Elab.async false

namespace Sys2Proof.Machine

section Requests

variable {s t : State}

/-! ## Requests (R173 to R182) -/

/-- A request, if taken from `s`, leaves a state that keeps the invariants. -/
def Judged.IsSteady (s : State) : Judged → Prop
  | .refused _ _ => True
  | .taken t _ => Steady s t

namespace Judged.IsSteady

theorem no {reason : Reason} : IsSteady s (Judged.no reason) := trivial

theorem yes {d : Data} (h : Steady s t) : IsSteady s (Judged.yes t d) := h

/-- A request that leaves the watched part alone. -/
theorem watched {d : State → Data} (h : t.watched = s.watched := by simp) : IsSteady s (.taken t d) := .of_watched h

protected theorem withIndex {n i : Nat} {f : Fin n → Judged} (h : ∀ k, IsSteady s (f k)) :
    IsSteady s (withIndex i f) := by
  unfold Machine.withIndex
  split
  · exact no
  · exact h _

protected theorem ite {c : Prop} [Decidable c] {j k : Judged} (hj : IsSteady s j) (hk : IsSteady s k) :
    IsSteady s (if c then j else k) := by
  split
  · exact hj
  · exact hk

end Judged.IsSteady

open Judged (IsSteady)

theorem inServiceOnly_isSteady {j : Judged} (h : IsSteady s j) : IsSteady s (inServiceOnly s j) := .ite h .no

theorem inConfigOnly_isSteady {j : Judged} (h : IsSteady s j) : IsSteady s (inConfigOnly s j) := .ite h .no

theorem inRunOnly_isSteady {j : Judged} (h : IsSteady s j) : IsSteady s (inRunOnly s j) := .ite h .no

theorem judgeTableRead_isSteady (tb : Option TableName) (i : Nat) : IsSteady s (judgeTableRead tb i s) := by
  unfold judgeTableRead
  split
  · exact .no
  · exact .yes .refl

theorem judgeStatusRead_isSteady (part : Option Section) (first : Nat) :
    IsSteady s (judgeStatusRead part first s) := by
  unfold judgeStatusRead
  split
  · exact .no
  · exact .yes .refl

theorem judgeCounterRead_isSteady (set : Option CounterSet) (first : Nat) (clear : Bool) :
    IsSteady s (judgeCounterRead set first clear s) := by
  unfold judgeCounterRead
  split
  · refine .yes (.ite (fun _ => .of_watched ?_) fun _ => .refl)
    exact watched_foldl (fun t j => setCounter_watched t ..) _ _ rfl
  · exact .no

theorem judgeMirrorPurge_isSteady (scope : PurgeScope) : IsSteady s (judgeMirrorPurge scope s) := by
  unfold judgeMirrorPurge
  split
  · exact .yes steady_invalidateAll
  · split
    · exact .no
    · exact .yes (steady_invalidateStation _)
  · exact .withIndex fun _ => .yes (steady_modMirror_invalid _)
  · exact .no

theorem judgeStart_isSteady : IsSteady s (judgeStart s) := by
  unfold judgeStart
  refine .ite .no ?_
  split
  · exact trivial
  · exact .watched

theorem judgeStop_isSteady : IsSteady s (judgeStop s) := inServiceOnly_isSteady (.yes steady_resetBlocks)

theorem judgeRestart_isSteady : IsSteady s (judgeRestart s) := .ite .no (.yes steady_restartPart)

theorem judgeResume_isSteady : IsSteady s (judgeResume s) := .ite .no (.watched rfl)

theorem testRaise_isSteady (c : Code) : IsSteady s (testRaise c s) := .ite .watched (.ite .watched .watched)

theorem judgeTestRaise_isSteady (hd : Header) (n : Nat) : IsSteady s (judgeTestRaise hd n s) :=
  .withIndex fun c => .ite .no (.ite .no (.ite .no (testRaise_isSteady c)))

theorem judgeZoneOpen_isSteady (n : Nat) : IsSteady s (judgeZoneOpen n s) := by
  refine .withIndex fun _ => inServiceOnly_isSteady ?_
  split
  · exact .watched
  · exact .no
  · exact .ite .no .watched

theorem judgeFireClear_isSteady (n : Nat) : IsSteady s (judgeFireClear n s) :=
  .withIndex fun _ => .ite .watched (.ite .no (.watched (by simp [clearFire])))

theorem judgeCallRequest_isSteady (m : Nat) (zs : List Nat) (p k : Nat) :
    IsSteady s (judgeCallRequest m zs p k s) := by
  unfold judgeCallRequest
  split
  · refine inServiceOnly_isSteady ?_
    split
    · exact .no
    · exact .watched
  · exact .no

/-! ## Ramps -/

theorem rampMoveJudged_watched {r : RampId} {target : Int} {note : RampNote}
    (h : rampMoveJudged r target s = .ok (note, t)) : t.watched = s.watched := by
  unfold rampMoveJudged at h
  dsimp only at h
  split at h
  case h_1 | h_2 =>
    split_ifs at h
    cases h
    simp
  case h_3 | h_4 =>
    cases h
    simp
  case h_5 | h_6 | h_7 => cases h

theorem rampHomeJudged_watched {r : RampId} {note : RampNote} (h : rampHomeJudged r s = .ok (note, t)) :
    t.watched = s.watched := by
  unfold rampHomeJudged at h
  dsimp only at h
  split at h
  case h_1 | h_2 | h_3 =>
    split_ifs at h <;> cases h <;> simp
  case h_4 | h_5 | h_6 | h_7 => cases h

theorem rampReleaseJudged_watched {r : RampId} (h : rampReleaseJudged r s = .ok t) : t.watched = s.watched := by
  unfold rampReleaseJudged at h
  dsimp only at h
  split at h
  case h_1 =>
    cases h
    simp
  case h_2 =>
    split_ifs at h
    cases h
    simp
  case h_3 => cases h

theorem rampAnswer_isSteady {j : Except Reason (RampNote × State)} {clamped : Bool}
    (h : ∀ note t, j = .ok (note, t) → t.watched = s.watched) : IsSteady s (rampAnswer j clamped) := by
  unfold rampAnswer
  split
  · exact .no
  · exact .watched (h _ _ rfl)

theorem judgeRampMove_isSteady (n : Nat) (target : Int) : IsSteady s (judgeRampMove n target s) :=
  .withIndex fun _ => inRunOnly_isSteady (rampAnswer_isSteady fun _ _ => rampMoveJudged_watched)

theorem judgeRampHome_isSteady (n : Nat) : IsSteady s (judgeRampHome n s) :=
  .withIndex fun _ => inRunOnly_isSteady (rampAnswer_isSteady fun _ _ => rampHomeJudged_watched)

theorem judgeRampRelease_isSteady (n : Nat) : IsSteady s (judgeRampRelease n s) := by
  refine .withIndex fun _ => ?_
  split
  · exact .no
  · next h => exact .watched (rampReleaseJudged_watched h)

/-! ## The table writes -/

theorem judgeStationWrite_isSteady (n : Nat) (f : StationFields) : IsSteady s (judgeStationWrite n f s) := by
  unfold judgeStationWrite
  split
  · next a r _ hr =>
    split
    · exact .no
    · exact .yes (steady_writeStation a (length_maps_of_stationOf hr))
  · exact .no

theorem judgeZoneWrite_isSteady (n : Nat) (f : ZoneFields) : IsSteady s (judgeZoneWrite n f s) := by
  unfold judgeZoneWrite
  split
  · exact inConfigOnly_isSteady (.watched rfl)
  · exact .no

@[simp] theorem writeDoor_watched (d : DoorId) (r : DoorRecord) : (writeDoor d r s).watched = s.watched := by
  unfold writeDoor
  dsimp only
  rw [refreshRest_watched, refreshRest_watched]
  rfl

theorem judgeDoorWrite_isSteady (n : Nat) (f : DoorFields) : IsSteady s (judgeDoorWrite n f s) := by
  unfold judgeDoorWrite
  split
  · exact inConfigOnly_isSteady .watched
  · exact .no

@[simp] theorem writeRamp_watched (r : RampId) (cfg : RampRecord) : (writeRamp r cfg s).watched = s.watched := by
  unfold writeRamp
  dsimp only
  split
  · exact orderEnable_watched ..
  · rfl

theorem judgeRampWrite_isSteady (n : Nat) (f : RampFields) : IsSteady s (judgeRampWrite n f s) := by
  unfold judgeRampWrite
  split
  · exact inConfigOnly_isSteady .watched
  · exact .no

theorem judgeLineWrite_isSteady (n : Nat) (f : LineFields) : IsSteady s (judgeLineWrite n f s) := by
  unfold judgeLineWrite
  split
  · exact inConfigOnly_isSteady (.yes (steady_writeLine ..))
  · exact .no

theorem judgeTimerWrite_isSteady (n : Nat) (f : TimerFields) : IsSteady s (judgeTimerWrite n f s) := by
  unfold judgeTimerWrite
  split
  · exact .ite .no (.watched rfl)
  · exact .no

theorem judgeVectorWrite_isSteady (n : Nat) (f : VectorFields) : IsSteady s (judgeVectorWrite n f s) := by
  unfold judgeVectorWrite
  split
  · exact .ite .no .watched
  · exact .no

theorem judgeMessageWrite_isSteady (n : Nat) (f : MessageFields) : IsSteady s (judgeMessageWrite n f s) :=
  .withIndex fun _ => .ite .no (.ite .no (.watched rfl))

theorem judgeDeviceWrite_isSteady (f : DeviceField) : IsSteady s (judgeDeviceWrite f s) := by
  unfold judgeDeviceWrite
  split
  · exact .no
  · exact .ite (.watched rfl) .no

/-- Every request that is taken keeps the invariants. -/
theorem judgeRequest_isSteady (hd : Header) (q : Request) : IsSteady s (judgeRequest hd q s) := by
  cases q with
  | tableRead => exact judgeTableRead_isSteady ..
  | stationWrite => exact judgeStationWrite_isSteady ..
  | zoneWrite => exact judgeZoneWrite_isSteady ..
  | doorWrite => exact judgeDoorWrite_isSteady ..
  | rampWrite => exact judgeRampWrite_isSteady ..
  | lineWrite => exact judgeLineWrite_isSteady ..
  | timerWrite => exact judgeTimerWrite_isSteady ..
  | vectorWrite => exact judgeVectorWrite_isSteady ..
  | messageWrite => exact judgeMessageWrite_isSteady ..
  | deviceWrite => exact judgeDeviceWrite_isSteady ..
  | statusRead => exact judgeStatusRead_isSteady ..
  | counterRead => exact judgeCounterRead_isSteady ..
  | mirrorRead => exact .withIndex fun _ => .watched
  | mirrorPurge => exact judgeMirrorPurge_isSteady ..
  | start => exact judgeStart_isSteady
  | stop => exact judgeStop_isSteady
  | restart => exact judgeRestart_isSteady
  | resume => exact judgeResume_isSteady
  | generalAlarm | generalAlarmClear => exact inServiceOnly_isSteady .watched
  | testRaise => exact judgeTestRaise_isSteady ..
  | withdraw => exact .withIndex fun _ => .ite .no .watched
  | timerStart => exact .withIndex fun _ => inServiceOnly_isSteady (.watched (State.modTimer_watched ..))
  | zoneClose | callCancel => exact .withIndex fun _ => inServiceOnly_isSteady .watched
  | zoneOpen => exact judgeZoneOpen_isSteady ..
  | closeNow => exact .withIndex fun _ => .ite .watched .no
  | timerStop | zoneClear | fireDeclare | fireOverride | rampStop => exact .withIndex fun _ => .watched
  | fireClear => exact judgeFireClear_isSteady ..
  | call => exact judgeCallRequest_isSteady ..
  | rampMove => exact judgeRampMove_isSteady ..
  | rampHome => exact judgeRampHome_isSteady ..
  | rampRelease => exact judgeRampRelease_isSteady ..

@[simp] theorem answer_watched (hd : Header) (name : ReqName) (r : Result) : (answer hd name r s).watched = s.watched := by
  simp [answer]

theorem steady_serve {j : Judged} (hj : IsSteady s j) (hd : Header) (name : ReqName) (least : Nat) :
    Steady s (serve hd name least j s) := by
  unfold serve
  refine .ite (fun _ => .of_watched (by simp)) fun _ => ?_
  split
  · exact .of_watched (by simp)
  · next t _ =>
    have ht : Steady s t := hj
    exact ht.then_watched

theorem steady_serveRequest (hd : Header) (q : Request) : Steady s (serveRequest hd q s) := by
  rw [serveRequest_eq]
  exact steady_serve (judgeRequest_isSteady hd q) ..

theorem steady_bridgeFrame (f : Frame) : Steady s (bridgeFrame f s) := by
  unfold bridgeFrame serveFrame filterFrame
  refine .ite (fun _ => .ite (fun _ => ?_) fun _ => ?_) fun _ => .of_watched (by simp)
  · split
    · exact .of_watched (by simp)
    · exact steady_serveRequest ..
  · split <;> exact .of_watched (by simp)

/-! ## Commands and steps -/

theorem steady_takeHead {p : Port} {use : Frame → State → State} (huse : ∀ t f, Steady t (use f t)) :
    Steady s (takeHead p use s) := by
  unfold takeHead
  split
  · exact .refl
  · exact Steady.trans (.of_watched (by simp)) (huse _ _)

theorem steady_of_concluded {f : State → State} (hf : Steady s (f s)) (h : concluded s f = .next t) : Steady s t := by
  cases h
  exact .ite (fun _ => .refl) fun _ => hf.then_watched

theorem steady_of_request {hd : Header} {q : Request} (h : exec (requestInstr hd q) s = .next t) : Steady s t := by
  rw [exec_requestInstr] at h
  cases h
  exact .ite (fun _ => .refl) fun _ => steady_serveRequest ..

theorem steady_of_exec {c : Instr} (h : exec c s = .next t) : Steady s t := by
  cases c with
  | powerOn | resetAssertion =>
    cases h
    exact steady_powerOn ..
  | lossOfSignal => exact steady_of_concluded (steady_loss ..) h
  | bridgeLossExpiry => exact steady_of_concluded steady_bridgeLost h
  | deckFrameTaken => exact steady_of_concluded (steady_takeHead fun _ _ => steady_deckFrame ..) h
  | bridgeFrameTaken => exact steady_of_concluded (steady_takeHead fun _ _ => steady_bridgeFrame _) h
  | supervisionExpiry => exact steady_of_concluded steady_superviseAll h
  | pinChange =>
    cases h
    exact (steady_pinTakes ..).then_watched (settle_watched _)
  | directLineSample => exact steady_of_concluded (steady_sampleLine _) h
  | encoderEdge =>
    cases h
    exact (steady_encoderChanges ..).then_watched (settle_watched _)
  | qualityWindowEnd => exact steady_of_concluded (steady_windowEnds _) h
  | signalReport | frameEnd | transmissionEnd | timerTick | ackTimerExpiry | escalationTimerExpiry | closeLimitExpiry
  | retryTimerExpiry | countdownExpiry | callWaitExpiry | startTimerExpiry | durationTimerExpiry | stopTimerExpiry
  | gapTimerExpiry | controlPeriodExpiry | clearanceWaitExpiry =>
    exact steady_of_concluded (.of_watched (by simp)) h
  | tableRead hd tb i => exact steady_of_request (q := .tableRead tb i) h
  | stationWrite hd n f => exact steady_of_request (q := .stationWrite n f) h
  | zoneWrite hd n f => exact steady_of_request (q := .zoneWrite n f) h
  | doorWrite hd n f => exact steady_of_request (q := .doorWrite n f) h
  | rampWrite hd n f => exact steady_of_request (q := .rampWrite n f) h
  | lineWrite hd n f => exact steady_of_request (q := .lineWrite n f) h
  | timerWrite hd n f => exact steady_of_request (q := .timerWrite n f) h
  | vectorWrite hd n f => exact steady_of_request (q := .vectorWrite n f) h
  | messageWrite hd n f => exact steady_of_request (q := .messageWrite n f) h
  | deviceWrite hd f => exact steady_of_request (q := .deviceWrite f) h
  | statusRead hd part first => exact steady_of_request (q := .statusRead part first) h
  | counterRead hd set first clear => exact steady_of_request (q := .counterRead set first clear) h
  | mirrorRead hd i => exact steady_of_request (q := .mirrorRead i) h
  | mirrorPurge hd scope => exact steady_of_request (q := .mirrorPurge scope) h
  | start hd => exact steady_of_request (q := .start) h
  | stop hd => exact steady_of_request (q := .stop) h
  | restart hd => exact steady_of_request (q := .restart) h
  | resume hd => exact steady_of_request (q := .resume) h
  | generalAlarm hd => exact steady_of_request (q := .generalAlarm) h
  | generalAlarmClear hd => exact steady_of_request (q := .generalAlarmClear) h
  | testRaise hd c => exact steady_of_request (q := .testRaise c) h
  | withdraw hd c => exact steady_of_request (q := .withdraw c) h
  | timerStart hd n => exact steady_of_request (q := .timerStart n) h
  | timerStop hd n => exact steady_of_request (q := .timerStop n) h
  | zoneClose hd z cause => exact steady_of_request (q := .zoneClose z cause) h
  | zoneOpen hd z => exact steady_of_request (q := .zoneOpen z) h
  | closeNow hd z => exact steady_of_request (q := .closeNow z) h
  | zoneClear hd z => exact steady_of_request (q := .zoneClear z) h
  | fireDeclare hd z => exact steady_of_request (q := .fireDeclare z) h
  | fireClear hd z => exact steady_of_request (q := .fireClear z) h
  | fireOverride hd z on => exact steady_of_request (q := .fireOverride z on) h
  | call hd m zones priority repeats => exact steady_of_request (q := .call m zones priority repeats) h
  | callCancel hd m => exact steady_of_request (q := .callCancel m) h
  | rampMove hd r target => exact steady_of_request (q := .rampMove r target) h
  | rampHome hd r => exact steady_of_request (q := .rampHome r) h
  | rampStop hd r => exact steady_of_request (q := .rampStop r) h
  | rampRelease hd r => exact steady_of_request (q := .rampRelease r) h

/-- Time alone moves countdowns and meters, no filtered value. -/
theorem advance_watched : (advance s).watched = s.watched := by
  have hlevels : (Tab.of (countdownTick s)).map (·.filtered) = s.lineDyn.map (·.filtered) := by
    apply Tab.ext
    intro n
    simp only [Tab.get_map, Tab.get_of, countdownTick]
    split <;> rfl
  unfold advance
  dsimp only
  split
  · exact congrArg (fun v => { s.watched with levels := v }) hlevels
  · rfl

theorem steady_of_step (h : step s = .next t) : Steady s t := by
  unfold step at h
  split at h
  · next rest _ =>
    have taken : Steady s { s with pending := rest } := .of_watched rfl
    exact taken.trans (steady_of_exec h)
  · unfold idle at h
    split at h
    · cases h
      exact .refl
    · split at h
      · exact steady_of_exec h
      · cases h
        exact .of_watched advance_watched

end Requests

/-- Settles O59: every operation keeps the four invariants (`Steady`), so every step does. -/
theorem mirrorAndConditionsInvariant : Obligations.MirrorAndConditionsInvariant := by
  unfold Obligations.MirrorAndConditionsInvariant
  refine ⟨⟨⟨?_, ?_, ?_⟩, ?_⟩, fun r points c => ⟨fun hunused => mapCountOf_unused hunused points c, fun hused => ?_⟩⟩
  · exact fun _ _ hs h => (steady_of_step h).mirror hs
  · exact fun _ _ hs h => (steady_of_step h).lines hs
  · exact fun _ _ hs h => (steady_of_step h).maps hs
  · exact fun _ _ hs h => (steady_of_step h).few hs
  · rw [mapCountOf_used hused]
    rfl

end Sys2Proof.Machine
end

section

set_option Elab.async false

namespace Sys2Proof.Machine

/-! # Steering and ownership (R30, R32) -/

section Steering

variable {s : State} {a : Addr}

/-- A deck line is impaired unless it is UP and GOOD. -/
theorem isImpaired_iff (d : Deck) :
    isImpaired s d = true ↔ ¬((s.port (deckPort d)).up = true ∧ (s.quality.at d).grade = .good) := by
  unfold isImpaired
  cases (s.quality.at d).grade <;> cases (s.port (deckPort d)).up <;> decide

theorem steer_single_a (h : (s.stations.get a).attachment = .a) :
    steer a s = if (s.port .deckA).up = true then some .a else none := by
  simp only [steer, h, steerBy]

theorem steer_single_b (h : (s.stations.get a).attachment = .b) :
    steer a s = if (s.port .deckB).up = true then some .b else none := by
  simp only [steer, h, steerBy]

/-- R30's table for an attachment to both deck lines, by the two line states and grades. -/
theorem steer_both (h : (s.stations.get a).attachment = .both) :
    steer a s =
      if ¬((s.port .deckA).up = true ∧ s.quality.a.grade = .good) ∧
          ((s.port .deckB).up = true ∧ s.quality.b.grade = .good) then some .b
      else if (s.port .deckA).up = true then some .a
      else if (s.port .deckB).up = true then some .b
      else none := by
  simp only [steer, h, steerBy, Bool.and_eq_true, Bool.not_eq_true', ← Bool.not_eq_true, isImpaired_iff, not_not]
  rfl

end Steering

/-- Settles O16: the rows of R30's table are the branches of `steer_both`; claim and release have one branch for each
owner. -/
theorem steeringAndOwnership : Obligations.SteeringAndOwnership := by
  unfold Obligations.SteeringAndOwnership
  refine ⟨fun s a => ⟨steer_single_a, steer_single_b, fun hboth => ?_⟩, fun s a o ho => ⟨?_, ?_, ?_, ?_, ?_⟩⟩
  · rw [steer_both hboth]
    refine ⟨?_, ?_, ?_, ?_, ?_, ?_, ?_⟩
    · intro hA hgoodA
      simp [hA, hgoodA]
    · intro hA hgoodA hB hgoodB
      simp [hgoodA, hB, hgoodB]
    · intro hA hB hgoodB
      simp [hA, hB, hgoodB]
    · intro hA _ _ hgoodB
      simp [hA, hgoodB]
    · intro hA _ hB
      simp [hA, hB]
    · intro hA hB hgoodB
      simp [hA, hB, hgoodB]
    · intro hA hB
      simp [hA, hB]
  · intro hfree
    simp [claim, hfree, State.setOwner]
  · intro howned
    have hne : s.owners.get a ≠ .free := howned ▸ ho
    rw [claim, if_neg hne, if_pos howned]
  · intro hne hother
    simp [claim, hne, hother]
  · intro howned
    simp [release, howned, State.setOwner]
  · intro hother
    simp [release, hother]

end Sys2Proof.Machine

namespace Sys2Proof.Machine

/-! # Frames taken from the bridge and from the decks (R21, R26) -/

section FramesTaken

variable {s : State} {f : Frame}

theorem takeHead_nil {p : Port} (use : Frame → State → State) (h : (s.port p).rx = []) : takeHead p use s = s := by
  simp only [takeHead, h]

theorem bridgeFrame_mgmt (hdest : f.destination = 0x00#8) (hkind : f.kind = 0x07#8) :
    bridgeFrame f s = serveFrame f s := by
  have hmgmt : f.kind = kindMgmt := hkind
  rw [bridgeFrame, if_pos (show f.destination = 0 from hdest), if_pos hmgmt]

theorem bridgeFrame_ack {b : Byte} (hdest : f.destination = 0x00#8) (hkind : f.kind = 0x06#8)
    (hpayload : f.payload = [b]) : bridgeFrame f s = ackByte b s := by
  have hack : f.kind = kindAck := hkind
  have hmgmt : f.kind ≠ kindMgmt := by
    rw [hkind]
    decide
  rw [bridgeFrame, if_pos (show f.destination = 0 from hdest), if_neg hmgmt, hpayload, decide_eq_true hack]

theorem ackByte_code (c : Code) : ackByte (BitVec.ofNat 8 c.val) s = ackCode c s := by
  have hlt := c.isLt
  have hindex : index? 64 (BitVec.ofNat 8 c.val).toNat = some c := by
    have hval : (BitVec.ofNat 8 c.val).toNat = c.val := by
      rw [BitVec.toNat_ofNat]
      omega
    simp [index?, hval]
  rw [ackByte, hindex]

theorem ackByte_stray {b : Byte} (h : 64 ≤ b.toNat) : ackByte b s = bump .global 5 1 s := by
  have hindex : index? 64 b.toNat = none := by
    simp [index?, Nat.not_lt.2 h]
  rw [ackByte, hindex]
  rfl

/-- Neither MGMT nor an ACK of one byte. -/
theorem bridgeFrame_own_other (hdest : f.destination = 0x00#8) (hmgmt : f.kind ≠ 0x07#8)
    (hack : ¬(f.kind = 0x06#8 ∧ f.payload.length = 1)) : bridgeFrame f s = bump .bridge 5 1 s := by
  have hmgmt' : f.kind ≠ kindMgmt := hmgmt
  rw [bridgeFrame, if_pos (show f.destination = 0 from hdest), if_neg hmgmt']
  split
  · next b hkind hpayload =>
    have hk : f.kind = kindAck := of_decide_eq_true hkind
    exact absurd ⟨hk, by simp [hpayload]⟩ hack
  · rfl

/-- Neither a COMMAND nor a QUERY of R26's length. -/
theorem bridgeFrame_station_other (hdest : f.destination ≠ 0x00#8)
    (hcommand : ¬(f.kind = 0x02#8 ∧ 1 ≤ f.payload.length ∧ f.payload.length ≤ 5))
    (hquery : ¬(f.kind = 0x03#8 ∧ f.payload.length = 0)) : bridgeFrame f s = bump .bridge 5 1 s := by
  have hc : (decide (f.kind = kindCommand) && decide (1 ≤ f.payload.length) && decide (f.payload.length ≤ 5)) = false := by
    rw [Bool.eq_false_iff]
    intro h
    simp only [Bool.and_eq_true, decide_eq_true_eq] at h
    obtain ⟨⟨hkind, hmin⟩, hmax⟩ := h
    exact hcommand ⟨hkind, hmin, hmax⟩
  have hq : (decide (f.kind = kindQuery) && decide (f.payload.length = 0)) = false := by
    rw [Bool.eq_false_iff]
    intro h
    simp only [Bool.and_eq_true, decide_eq_true_eq] at h
    exact hquery h
  rw [bridgeFrame_of_ne_zero hdest]
  unfold stationFrame
  dsimp only
  rw [hc, hq]
  rfl

end FramesTaken

/-- Settles O13: the destination and the kind of the frame taken decide the branch of `bridgeFrame`. -/
theorem bridgeFrameSorted : Obligations.BridgeFrameSorted := by
  unfold Obligations.BridgeFrameSorted
  refine ⟨fun s f rest hrun hrx => ?_, fun s hrun hrx => concluded_eq hrun (takeHead_nil _ hrx)⟩
  have htaken {u : State} (h : bridgeFrame f (s.withRx .bridge rest) = u) :
      exec .bridgeFrameTaken s = .next (settle u) :=
    concluded_eq hrun ((takeHead_cons _ hrx).trans h)
  refine ⟨fun hdest hkind => ?_, fun c hdest hkind hpayload => ?_, fun b hdest hkind hpayload hb => ?_, fun h => ?_⟩
  · exact htaken (bridgeFrame_mgmt hdest hkind)
  · exact htaken ((bridgeFrame_ack hdest hkind hpayload).trans (ackByte_code c))
  · exact htaken ((bridgeFrame_ack hdest hkind hpayload).trans (ackByte_stray hb))
  · obtain ⟨hdest, hmgmt, hack⟩ | ⟨hdest, hcommand, hquery⟩ := h
    · exact htaken (bridgeFrame_own_other hdest hmgmt hack)
    · exact htaken (bridgeFrame_station_other hdest hcommand hquery)

section DeckFrames

variable {s : State} {f : Frame} {a : Addr} {d : Deck}

theorem isSome_stateReport (l : List Byte) : (stateReport l).isSome = (l.length == 3 || l.length == 5) := by
  match l with
  | [] | [_] | [_, _] | [_, _, _] | [_, _, _, _] | [_, _, _, _, _] => rfl
  | _ :: _ :: _ :: _ :: _ :: _ :: _ => simp [stateReport]

theorem isSome_replyReport (l : List Byte) : (replyReport l).isSome = (l.length == 5 || l.length == 7) := by
  match l with
  | [] | [_] | [_, _] | [_, _, _] | [_, _, _, _] | [_, _, _, _, _] | [_, _, _, _, _, _] | [_, _, _, _, _, _, _] => rfl
  | _ :: _ :: _ :: _ :: _ :: _ :: _ :: _ :: _ => simp [replyReport]

/-- The frames that carry a report: STATE of 3 or 5 bytes and REPLY of 5 or 7 (R21). -/
theorem isSome_reportOf :
    (reportOf f).isSome =
      ((f.kind == 0x01#8 && (f.payload.length == 3 || f.payload.length == 5)) ||
        (f.kind == 0x04#8 && (f.payload.length == 5 || f.payload.length == 7))) := by
  unfold reportOf
  split
  · next hstate =>
    have hk : f.kind = 0x01#8 := hstate
    simp [hk, isSome_stateReport]
  · next hstate =>
    have hk : f.kind ≠ 0x01#8 := hstate
    split
    · next hreply =>
      have hk' : f.kind = 0x04#8 := hreply
      simp [hk', isSome_replyReport]
    · next hreply =>
      have hk' : f.kind ≠ 0x04#8 := hreply
      simp [hk, hk']

theorem deckFrame_no_station (h : addr? f.source.toNat = none) : deckFrame d f s = bump (portSet (deckPort d)) 5 1 s := by
  rw [deckFrame, h]
  rfl

theorem deckFrame_unused (hsource : f.source = addrByte a) (h : (s.stations.get a).role = .unused) :
    deckFrame d f s =
      if (reportOf f).isSome then bump (portSet (deckPort d)) 6 1 (sendTx .bridge .normal f.forward s)
      else bump (portSet (deckPort d)) 5 1 s := by
  rw [deckFrame, hsource, addr?_addrByte]
  dsimp only
  rw [if_pos h]
  cases reportOf f <;> rfl

theorem deckFrame_disabled (hsource : f.source = addrByte a) (hused : (s.stations.get a).role ≠ .unused)
    (hrx : (s.stations.get a).rxEnable = false) : deckFrame d f s = bump (portSet (deckPort d)) 5 1 s := by
  rw [deckFrame, hsource, addr?_addrByte]
  dsimp only
  rw [if_neg hused, hrx]
  rfl

/-- A frame of a known station that carries no report is filtered once the station has been heard. -/
theorem deckFrame_no_report (hsource : f.source = addrByte a) (hused : (s.stations.get a).role ≠ .unused)
    (hrx : (s.stations.get a).rxEnable = true) (hreport : reportOf f = none) :
    deckFrame d f s = bump (portSet (deckPort d)) 5 1 (hearStation a s) := by
  rw [deckFrame, hsource, addr?_addrByte]
  dsimp only
  rw [if_neg hused, hrx, hreport]
  rfl

end DeckFrames

/-- Settles O9: the frame's source decides the branch of `deckFrame`, and its kind and length whether it reports. -/
theorem deckFrameSourceJudged : Obligations.DeckFrameSourceJudged := by
  unfold Obligations.DeckFrameSourceJudged
  refine ⟨fun s d f rest hrun hrx => ?_, fun s d hrun hrx => concluded_eq hrun (takeHead_nil _ hrx)⟩
  have htaken {u : State} (h : deckFrame d f (s.withRx (deckPort d) rest) = u) :
      exec (.deckFrameTaken d) s = .next (settle u) :=
    concluded_eq hrun ((takeHead_cons _ hrx).trans h)
  dsimp only
  rw [← isSome_reportOf]
  refine ⟨fun hsource => ?_, fun a hsource => ⟨fun hunused => ?_, fun hused hoff => ?_, fun hused hon hheard hreport => ?_,
    fun hused hon hsilent hreport => ?_⟩⟩
  · refine htaken (deckFrame_no_station ?_)
    obtain h | h := hsource <;> simp [h, addr?]
  · exact htaken (deckFrame_unused hsource hunused)
  · exact htaken (deckFrame_disabled hsource hused hoff)
  · have hnone : reportOf f = none := by simpa using hreport
    refine htaken ((deckFrame_no_report (s := s.withRx (deckPort d) rest) hsource hused hon hnone).trans ?_)
    have hstatus : ((s.withRx (deckPort d) rest).stationDyn.get a).status = .heard := hheard
    rw [hearStation_eq, if_pos hstatus, State.withHeard, ← hstatus]
    rfl
  · have hnone : reportOf f = none := by simpa using hreport
    refine htaken ((deckFrame_no_report (s := s.withRx (deckPort d) rest) hsource hused hon hnone).trans ?_)
    have hstatus : ((s.withRx (deckPort d) rest).stationDyn.get a).status ≠ .heard := by
      intro h
      have hs : (s.stationDyn.get a).status = .heard := h
      simp [hs] at hsilent
    rw [hearStation_eq, if_neg hstatus]
    rfl

end Sys2Proof.Machine

namespace Sys2Proof.Machine

/-! # Event maps (R19, R35) -/

section EventMaps

variable {s : State} {a : Addr}

/-- A count that passes to or from 0 is reported, naming the station. -/
theorem setMapCount_passing {c : Code} {n : Nat} (h : ¬(s.mapCounts.get c = 0 ↔ n = 0)) :
    setMapCount a c n s =
      reportCondition .map c (decide (n ≠ 0)) ⟨.frame, some a, (s.stations.get a).zone, 0⟩
        { s with mapCounts := Tab.put s.mapCounts c n } := by
  have hne : ¬(decide (s.mapCounts.get c = 0) = decide (n = 0)) := by rwa [decide_eq_decide]
  exact if_neg hne

theorem setMapCount_silent {c : Code} {n : Nat} (h : s.mapCounts.get c = 0 ↔ n = 0) :
    setMapCount a c n s = { s with mapCounts := Tab.put s.mapCounts c n } := by
  have heq : decide (s.mapCounts.get c = 0) = decide (n = 0) := by rwa [decide_eq_decide]
  exact if_pos heq

theorem mapActive_iff (m : EventMap) (points : Word16) :
    mapActive m points = true ↔ points.getLsbD m.point.val = m.activeHigh := by
  simp [mapActive]

theorem judgeMap_begins {old new : Word16} {m : EventMap} (hold : ¬mapActive m old = true) (hnew : mapActive m new = true) :
    judgeMap a old new m s =
      raiseCode ⟨m.code, ⟨.frame, some a, (s.stations.get a).zone, BitVec.ofNat 16 m.point.val⟩, true⟩
        (setMapCount a m.code (s.mapCounts.get m.code + 1) s) := by
  simp [judgeMap, hold, hnew]

theorem judgeMap_ends {old new : Word16} {m : EventMap} (hold : mapActive m old = true) (hnew : ¬mapActive m new = true) :
    judgeMap a old new m s = setMapCount a m.code (s.mapCounts.get m.code - 1) s := by
  simp [judgeMap, hold, hnew]

theorem judgeMap_same {old new : Word16} {m : EventMap} (h : mapActive m old = mapActive m new) :
    judgeMap a old new m s = s := by
  cases hnew : mapActive m new <;> simp [judgeMap, h, hnew]

/-- The changed points told to the Timer Bank, as a walk over the points. -/
theorem timerReports_eq (old new : Word16) :
    timerReports a old new s = (List.finRange 16).foldl
      (fun v p =>
        if old.getLsbD p.val ≠ new.getLsbD p.val then sourceChanged (.station a p) (new.getLsbD p.val) v else v) s := by
  simp only [timerReports, bne_iff_ne]

theorem timerReports_stations (old new : Word16) : (timerReports a old new s).stations = s.stations :=
  stations_of_watched (timerReports_watched s a old new)

theorem roleReport_stations (old new : Word16) : (roleReport a old new s).stations = s.stations :=
  stations_of_watched (roleReport_watched s a old new)

/-- A change of filtered points, told to the job, the Timer Bank and the maps of a record in use. -/
theorem pointsBecome_changed {new : Word16} (h : (s.stationDyn.get a).filtered ≠ new) :
    pointsBecome a new s =
      let old := (s.stationDyn.get a).filtered
      let told := timerReports a old new (roleReport a old new (s.modStation a fun d => { d with filtered := new }))
      if (s.stations.get a).role = .unused then told
      else (s.stations.get a).maps.foldl (fun t m => judgeMap a old new m t) told := by
  unfold pointsBecome
  dsimp only
  rw [if_neg h, timerReports_stations, roleReport_stations, State.modStation_stations]

end EventMaps

/-- Settles O12: a map begins, ends or stays as its activity changes, and its code's condition passes with the count. -/
theorem eventMapsRaise : Obligations.EventMapsRaise := by
  unfold Obligations.EventMapsRaise
  refine ⟨fun s a old new m => ?_, fun s a new => ?_⟩
  · dsimp only
    simp only [← mapActive_iff]
    refine ⟨fun hold hnew hn => ?_, fun hold hnew hn => ?_, fun hold hnew hn => ?_, fun hold hnew hn => ?_, fun hsame => ?_⟩
    · rw [judgeMap_begins hold hnew, setMapCount_passing (by omega), hn]
      rfl
    · rw [judgeMap_begins hold hnew, setMapCount_silent (by omega)]
    · rw [judgeMap_ends hold hnew, setMapCount_passing (by omega), hn]
      rfl
    · rw [judgeMap_ends hold hnew, setMapCount_silent (by omega)]
    · exact judgeMap_same (Bool.eq_iff_iff.2 hsame)
  · dsimp only
    rw [← timerReports_eq]
    refine ⟨fun hsame => if_pos hsame, fun hchanged hnone => ?_, fun hchanged hused => ?_⟩
    · rw [pointsBecome_changed hchanged]
      dsimp only
      split
      · rfl
      · next hused =>
        rw [hnone.resolve_left hused]
        rfl
    · rw [pointsBecome_changed hchanged]
      dsimp only
      rw [if_neg hused]
      rfl

end Sys2Proof.Machine
end

section

set_option Elab.async false

namespace Sys2Proof.Machine

/-! # Walks over the rows of a table -/

/-- A walk that acts on some elements only is the walk over those. -/
theorem foldl_ite_eq_foldl_filter {α σ : Type} (p : α → Bool) (f : σ → α → σ) (l : List α) (s : σ) :
    l.foldl (fun t x => if p x = true then f t x else t) s = (l.filter p).foldl f s := by
  rw [List.foldl_filter]

/-- The rows that satisfy a test which one row alone satisfies. -/
theorem filter_finRange_eq_singleton {n : Nat} {p : Fin n → Bool} {i : Fin n} (h : ∀ j, p j = true ↔ j = i) :
    (List.finRange n).filter p = [i] := by
  have hp : p = fun j => j == i := funext fun j => by
    rw [Bool.eq_iff_iff, h, beq_iff_eq]
  rw [hp, List.filter_beq, List.count_eq_one_of_mem (List.nodup_finRange n) (List.mem_finRange i)]
  rfl

/-- A walk that acts on one row alone. -/
theorem foldl_ite_eq_of_unique {n : Nat} {σ : Type} {p : Fin n → Bool} {i : Fin n} (h : ∀ j, p j = true ↔ j = i)
    (f : σ → Fin n → σ) (s : σ) :
    (List.finRange n).foldl (fun t x => if p x = true then f t x else t) s = f s i := by
  rw [foldl_ite_eq_foldl_filter, filter_finRange_eq_singleton h]
  rfl

/-- A walk that acts on no row. -/
theorem foldl_ite_eq_of_none {n : Nat} {σ : Type} {p : Fin n → Bool} (h : ∀ j, ¬p j = true) (f : σ → Fin n → σ)
    (s : σ) : (List.finRange n).foldl (fun t x => if p x = true then f t x else t) s = s := by
  rw [foldl_ite_eq_foldl_filter, List.filter_eq_nil_iff.2 fun j _ => h j]
  rfl

/-! # The Timer Bank (R63 to R67) -/

section Timers

variable {s : State} {ch : ChannelId}

/-- The state with one channel's dynamic items. -/
def State.withTimer (s : State) (ch : ChannelId) (d : TimerDyn) : State :=
  { s with timerDyn := Tab.put s.timerDyn ch d }

theorem State.modTimer_eq (f : TimerDyn → TimerDyn) : s.modTimer ch f = s.withTimer ch (f (s.timerDyn.get ch)) := rfl

@[simp] theorem State.withTimer_get (d : TimerDyn) : (s.withTimer ch d).timerDyn.get ch = d := Tab.get_put_self ..

@[simp] theorem State.withTimer_timer (d : TimerDyn) : timer (s.withTimer ch d) ch = s.timers.get ch := rfl

@[simp] theorem State.withTimer_withTimer (d e : TimerDyn) : (s.withTimer ch d).withTimer ch e = s.withTimer ch e :=
  congrArg (fun v => { s with timerDyn := v }) (Tab.put_put ..)

theorem usedSource_of_count {r : TimerRecord} (h : r.mode = .count ∨ r.mode = .width) : r.usedSource = r.source := by
  obtain h | h := h <;> simp [TimerRecord.usedSource, h]

theorem usedSource_of_interval {r : TimerRecord} (h : r.mode = .interval ∨ r.mode = .oneShot) : r.usedSource = none := by
  obtain h | h := h <;> simp [TimerRecord.usedSource, h]

/-- An INTERVAL or ONE_SHOT channel raises its code with the channel number alone (R64). -/
theorem raiseChannel_timed (h : (s.timers.get ch).mode = .interval ∨ (s.timers.get ch).mode = .oneShot) :
    raiseChannel ch s = raiseInternal (s.timers.get ch).code none none (BitVec.ofNat 16 ch.val) s := by
  have hsource : (timer s ch).usedSource = none := usedSource_of_interval h
  unfold raiseChannel
  rw [hsource]
  rfl

/-- A COUNT or WIDTH channel raises its code with its source station and the zone, when its source is a station's
point (R64). -/
theorem raiseChannel_sourced (h : (s.timers.get ch).mode = .count ∨ (s.timers.get ch).mode = .width) :
    raiseChannel ch s =
      match (s.timers.get ch).source with
      | some (.station a _) =>
        raiseInternal (s.timers.get ch).code (some a) (s.stations.get a).zone (BitVec.ofNat 16 ch.val) s
      | _ => raiseInternal (s.timers.get ch).code none none (BitVec.ofNat 16 ch.val) s := by
  have hsource : (timer s ch).usedSource = (s.timers.get ch).source := usedSource_of_count h
  unfold raiseChannel
  rw [hsource]
  rfl

/-! ## Ticks -/

/-- The dynamic items of a channel with its next tick set. -/
def TimerDyn.ticked (d : TimerDyn) (s : State) (ch : ChannelId) : TimerDyn := { d with nextTick := nextTickOf s ch }

/-- The instant of the next tick, by the channel's tick length. -/
theorem nextTickOf_eq :
    nextTickOf s ch =
      (s.now / (match (s.timers.get ch).tick with | .ms1 => 100 | .ms10 => 1000 | .ms100 => 10000 | .s1 => 100000) + 1) *
        match (s.timers.get ch).tick with | .ms1 => 100 | .ms10 => 1000 | .ms100 => 10000 | .s1 => 100000 := by
  unfold nextTickOf nextMultiple timer
  cases (s.timers.get ch).tick <;> rfl

theorem tickChannel_stopped (h : (s.timerDyn.get ch).running = false) : tickChannel ch s = s := by
  simp [tickChannel, h]

/-- A tick of a RUNNING channel, by its mode. -/
theorem tickChannel_running (h : (s.timerDyn.get ch).running = true) :
    tickChannel ch s =
      match (s.timers.get ch).mode with
      | .interval | .oneShot => tickTime ch (s.withTimer ch ((s.timerDyn.get ch).ticked s ch))
      | .count => s.withTimer ch ((s.timerDyn.get ch).ticked s ch)
      | .width => tickWidth ch (s.withTimer ch ((s.timerDyn.get ch).ticked s ch)) := by
  unfold tickChannel
  rw [if_pos h]
  rfl

theorem tickTime_above {d : TimerDyn} (h : 2 ≤ d.count) :
    tickTime ch (s.withTimer ch d) = s.withTimer ch { d with count := d.count - 1 } := by
  have hleft : d.count - 1 ≠ 0 := by omega
  simp [tickTime, State.modTimer_eq, hleft]

theorem tickTime_interval {d : TimerDyn} (h : d.count = 1) (hmode : (s.timers.get ch).mode = .interval) :
    tickTime ch (s.withTimer ch d) =
      raiseInternal (s.timers.get ch).code none none (BitVec.ofNat 16 ch.val)
        (s.withTimer ch { d with count := (s.timers.get ch).reload }) := by
  simp only [tickTime, State.modTimer_eq, State.withTimer_get, State.withTimer_timer, h, hmode, Nat.sub_self,
    ne_eq, not_true_eq_false, if_false, if_true, State.withTimer_withTimer]
  exact raiseChannel_timed (.inl hmode)

theorem tickTime_oneShot {d : TimerDyn} (h : d.count = 1) (hmode : (s.timers.get ch).mode = .oneShot) :
    tickTime ch (s.withTimer ch d) =
      raiseInternal (s.timers.get ch).code none none (BitVec.ofNat 16 ch.val)
        (s.withTimer ch { d with running := false, phase := none, count := 0 }) := by
  simp only [tickTime, State.modTimer_eq, State.withTimer_get, State.withTimer_timer, h, hmode, Nat.sub_self,
    ne_eq, not_true_eq_false, if_false, reduceCtorEq, State.withTimer_withTimer]
  exact raiseChannel_timed (.inr hmode)

theorem tickWidth_above {d : TimerDyn} (h : 2 ≤ d.count) (hphase : d.phase = some .timing) :
    tickWidth ch (s.withTimer ch d) = s.withTimer ch { d with count := d.count - 1 } := by
  have hleft : d.count - 1 ≠ 0 := by omega
  simp [tickWidth, State.modTimer_eq, hleft, hphase]

/-- The channel trips: its code is raised with its source. -/
theorem tickWidth_trips {d : TimerDyn} (h : d.count = 1) (hphase : d.phase = some .timing) :
    tickWidth ch (s.withTimer ch d) = raiseChannel ch (s.withTimer ch { d with count := 0, phase := some .tripped }) := by
  simp [tickWidth, State.modTimer_eq, h, hphase]

theorem tickWidth_idle {d : TimerDyn} (hphase : d.phase ≠ some .timing) :
    tickWidth ch (s.withTimer ch d) = s.withTimer ch d := by
  simp [tickWidth, hphase]

/-! ## Source changes -/

theorem channelSource_count (hrun : (s.timerDyn.get ch).running = true) (hmode : (s.timers.get ch).mode = .count)
    (active : Bool) : channelSource ch active s = if active then countActivation ch s else s := by
  have hmode' : (timer s ch).mode = .count := hmode
  simp [channelSource, hrun, hmode']

theorem channelSource_width (hrun : (s.timerDyn.get ch).running = true) (hmode : (s.timers.get ch).mode = .width)
    (active : Bool) :
    channelSource ch active s =
      if active then
        if (s.timerDyn.get ch).phase = some .waiting then
          s.withTimer ch { s.timerDyn.get ch with count := (s.timers.get ch).reload, phase := some .timing }
        else s
      else s.withTimer ch { s.timerDyn.get ch with phase := some .waiting } := by
  have hmode' : (timer s ch).mode = .width := hmode
  rw [channelSource, if_pos hrun, hmode']
  rfl

/-- A STOPPED channel, and one of a mode without a source, does not change. -/
theorem channelSource_idle (active : Bool)
    (h : (s.timerDyn.get ch).running = false ∨ (s.timers.get ch).mode = .interval ∨ (s.timers.get ch).mode = .oneShot) :
    channelSource ch active s = s := by
  obtain hstopped | hmode | hmode := h
  · simp [channelSource, hstopped]
  · have hmode' : (timer s ch).mode = .interval := hmode
    simp [channelSource, hmode']
  · have hmode' : (timer s ch).mode = .oneShot := hmode
    simp [channelSource, hmode']

theorem raiseChannel_timers : (raiseChannel ch s).timers = s.timers := by
  unfold raiseChannel
  dsimp only
  split <;> simp

theorem channelSource_timers (active : Bool) : (channelSource ch active s).timers = s.timers := by
  unfold channelSource countActivation
  dsimp only
  split
  · split
    · rfl
    · rfl
    · split_ifs <;> simp [raiseChannel_timers]
    · split_ifs <;> simp
  · rfl

/-- A channel uses a source: its mode has one and its record names it. -/
theorem usedSource_eq_some_iff (r : TimerRecord) (src : TimerSource) :
    r.usedSource = some src ↔ r.source = some src ∧ (r.mode = .count ∨ r.mode = .width) := by
  cases h : r.mode <;> simp [TimerRecord.usedSource, h]

/-- The channels told are those that use the source, in order of channel. -/
theorem sourceChanged_eq (src : TimerSource) (active : Bool) :
    sourceChanged src active s =
      ((List.finRange 8).filter fun ch => decide ((s.timers.get ch).usedSource = some src)).foldl
        (fun v ch => channelSource ch active v) s := by
  have hwalk (l : List ChannelId) (v : State) (hv : v.timers = s.timers) :
      l.foldl (fun v ch => if (timer v ch).usedSource = some src then channelSource ch active v else v) v =
        l.foldl (fun v ch =>
          if decide ((s.timers.get ch).usedSource = some src) = true then channelSource ch active v else v) v := by
    induction l generalizing v with
    | nil => rfl
    | cons ch l ih =>
      have htimer : timer v ch = s.timers.get ch := congrArg (·.get ch) hv
      rw [List.foldl_cons, List.foldl_cons, htimer]
      simp only [decide_eq_true_eq]
      simp only [decide_eq_true_eq] at ih
      refine ih _ ?_
      split
      · rw [channelSource_timers, hv]
      · exact hv
  unfold sourceChanged
  rw [hwalk _ s rfl, foldl_ite_eq_foldl_filter]

end Timers

/-- Settles O27: each tick and each source change is its mode's lemma; the channels told are those that use the
source. -/
theorem timerModes : Obligations.TimerModes := by
  unfold Obligations.TimerModes
  refine ⟨⟨fun s ch hrun => ?_, fun s ch => ?_⟩, fun s src active => ?_, fun s a old new => ?_⟩
  · intro r d len d' becomes timed raised result
    have hnext : (s.now / len + 1) * len = nextTickOf s ch := nextTickOf_eq.symm
    have hd : d' = (s.timerDyn.get ch).ticked s ch :=
      congrArg (fun n => { s.timerDyn.get ch with nextTick := n }) hnext
    clear_value d'
    subst hd
    have htick {u : State} (h : tickChannel ch s = u) : exec (.timerTick ch) s = .next (settle u) := concluded_eq hrun h
    refine ⟨fun hstop => ?_, fun hon hmode hcount => ?_, fun hon hmode hcount => ?_, fun hon hmode hcount => ?_,
      fun hon hmode hphase hcount => ?_, fun hon hmode hphase hcount => ?_, fun hon hmode => ?_⟩
    · exact htick (tickChannel_stopped hstop)
    · refine htick ((tickChannel_running hon).trans ?_)
      obtain hmode | hmode := hmode <;> rw [hmode] <;> exact tickTime_above hcount
    · refine htick ((tickChannel_running hon).trans ?_)
      rw [hmode]
      exact tickTime_interval hcount hmode
    · refine htick ((tickChannel_running hon).trans ?_)
      rw [hmode]
      exact tickTime_oneShot hcount hmode
    · refine htick ((tickChannel_running hon).trans ?_)
      rw [hmode]
      exact tickWidth_above hcount hphase
    · refine htick ((tickChannel_running hon).trans ?_)
      rw [hmode]
      exact (tickWidth_trips (d := (s.timerDyn.get ch).ticked s ch) hcount hphase).trans (raiseChannel_sourced (.inr hmode))
    · refine htick ((tickChannel_running hon).trans ?_)
      obtain hmode | ⟨hmode, hphase⟩ := hmode
      · rw [hmode]
        rfl
      · rw [hmode]
        exact tickWidth_idle hphase
  · refine ⟨fun hon hmode => ⟨channelSource_count hon hmode false, fun hcount => ?_, fun hcount => ?_⟩,
      fun hon hmode => ⟨channelSource_width hon hmode false, fun hphase => ?_, fun hphase => ?_⟩,
      fun active => channelSource_idle active⟩
    · have hleft : (s.timerDyn.get ch).count - 1 ≠ 0 := by omega
      refine (channelSource_count hon hmode true).trans ?_
      exact if_pos hleft
    · refine (channelSource_count hon hmode true).trans ?_
      have hleft : ¬(s.timerDyn.get ch).count - 1 ≠ 0 := by omega
      refine (if_neg hleft).trans ?_
      exact raiseChannel_sourced (s := s.withTimer ch _) (.inl hmode)
    · exact (channelSource_width hon hmode true).trans (if_pos hphase)
    · exact (channelSource_width hon hmode true).trans (if_neg hphase)
  · have huses (ch : ChannelId) : (decide ((s.timers.get ch).usedSource = some src) = true) ↔
        (s.timers.get ch).source = some src ∧ ((s.timers.get ch).mode = .count ∨ (s.timers.get ch).mode = .width) := by
      rw [decide_eq_true_eq, usedSource_eq_some_iff]
    refine ⟨?_, fun hnone => ?_, fun ch hone => ?_⟩
    · rw [sourceChanged_eq]
      congr 2
      funext ch
      rw [Bool.eq_iff_iff, huses]
      simp
    · rw [sourceChanged_eq, List.filter_eq_nil_iff.2 fun ch _ h => hnone ch ((huses ch).1 h)]
      rfl
    · rw [sourceChanged_eq, filter_finRange_eq_singleton fun x => (huses x).trans (hone x)]
      rfl
  · refine ⟨fun hsame => ?_, fun p hone => ?_⟩
    · subst hsame
      exact foldl_ite_eq_of_none (fun p => by simp) _ s
    · exact foldl_ite_eq_of_unique (p := fun q : Fin 16 => old.getLsbD q.val != new.getLsbD q.val)
        (fun q => by rw [bne_iff_ne]; exact hone q) _ s

end Sys2Proof.Machine
end

section

set_option Elab.async false

namespace Sys2Proof.Machine

/-! # Requests: reads, refusals and MGMT frames (R26, R173 to R175, R182) -/

section Serving

variable {s : State} {h : Header}

/-! ## How a request is served -/

theorem exec_request (hrun : s.resetHeld = false) (q : Request) :
    exec (requestInstr h q) s = .next (serve h (requestName q) (leastAuthority q) (judgeRequest h q s) s) := by
  rw [exec_requestInstr, served, hrun, serveRequest_eq]
  rfl

theorem serve_unauthorised {name : ReqName} {least : Nat} {j : Judged} (hauth : authorityOf h < least) :
    serve h name least j s = answer h name (.refused .authority none) s := if_pos hauth

theorem serve_refused {name : ReqName} {least : Nat} {reason : Reason} {failure : Option CheckFailure}
    (hauth : ¬authorityOf h < least) :
    serve h name least (.refused reason failure) s = answer h name (.refused reason failure) s := if_neg hauth

theorem serve_taken {name : ReqName} {least : Nat} {t : State} {data : State → Data}
    (hauth : ¬authorityOf h < least) :
    serve h name least (.taken t data) s = answer h name (.done (data (settle t))) (settle t) := if_neg hauth

/-- No request asks for more than the highest authority. -/
theorem leastAuthority_le (q : Request) : leastAuthority q ≤ 3 := by
  unfold leastAuthority
  split <;> omega

/-- The clamp of an authority above 3 does not pass a test that the authority as spelt fails, or the other way. -/
theorem authorityOf_lt_iff (q : Request) : authorityOf h < leastAuthority q ↔ h.authority < leastAuthority q := by
  have := leastAuthority_le q
  unfold authorityOf
  omega

/-! ## Indices -/

theorem index?_val {n : Nat} (i : Fin n) : index? n i.val = some i := by
  simp [index?]

theorem index?_of_le {n i : Nat} (hi : n ≤ i) : index? n i = none := by
  simp [index?, hi]

theorem addr?_of_outside {i : Nat} (hi : i = 0 ∨ 255 ≤ i) : addr? i = none := by
  have : ¬(1 ≤ i ∧ i ≤ 254) := by omega
  simp [addr?, this]

/-! ## TABLE READ (R175) -/

theorem tableRead_row (hrun : s.resetHeld = false) {t : TableName} {i : Nat} {d : Data} (hrow : tableRow s t i = some d) :
    exec (.tableRead h (some t) i) s = .next (answer h .tableRead (.done d) (settle s)) := by
  have hjudged : judgeTableRead (some t) i s = .yes s d := by
    simp [judgeTableRead, hrow]
  refine (exec_request hrun (.tableRead (some t) i)).trans (congrArg _ ?_)
  exact (congrArg (serve h _ _ · s) hjudged).trans (serve_taken (Nat.not_lt_zero _))

theorem tableRead_noRow (hrun : s.resetHeld = false) {t : Option TableName} {i : Nat}
    (hrow : (t.bind fun t => tableRow s t i) = none) :
    exec (.tableRead h t i) s = .next (answer h .tableRead (.refused .range none) s) := by
  have hjudged : judgeTableRead t i s = .no .range := by
    simp [judgeTableRead, hrow]
  refine (exec_request hrun (.tableRead t i)).trans (congrArg _ ?_)
  exact (congrArg (serve h _ _ · s) hjudged).trans (serve_refused (Nat.not_lt_zero _))

/-- TABLE READ answers the row's record and dynamic state. -/
theorem tableRead_rows (hrun : s.resetHeld = false) :
    let row (t : TableName) (i : Nat) (d : Data) : Prop :=
      exec (.tableRead h (some t) i) s = .next (answer h .tableRead (.done d) (settle s))
    (∀ a : Addr, row .station (a.val + 1) (.stationRow (s.stations.get a) (s.stationDyn.get a) (s.owners.get a))) ∧
      (∀ z : ZoneId, row .zone z.val (.zoneRow (s.zones.get z) (s.zoneDyn.get z))) ∧
      (∀ d : DoorId, row .door d.val (.doorRow (s.doors.get d) (s.doorDyn.get d))) ∧
      (∀ r : RampId, row .ramp r.val (.rampRow (s.ramps.get r) (s.rampDyn.get r) (vmeas (s.rampDyn.get r)))) ∧
      (∀ n : LineId, row .line n.val (.lineRow (s.lines.get n) (lineView s n))) ∧
      (∀ ch : ChannelId, row .timer ch.val (.timerRow (s.timers.get ch) (s.timerDyn.get ch))) ∧
      (∀ c : Code, row .vector c.val (vectorRow s c)) ∧
      (∀ m : MsgId, row .message m.val (.messageRow (s.messages.get m) (queuedCount s m))) ∧
      ∀ i : Nat, row .device i (.deviceRow s.record) := by
  refine ⟨fun a => ?_, fun z => ?_, fun d => ?_, fun r => ?_, fun n => ?_, fun ch => ?_, fun c => ?_, fun m => ?_,
    fun i => tableRead_row hrun rfl⟩
  · exact tableRead_row hrun (by simp [tableRow])
  all_goals exact tableRead_row hrun (by simp [tableRow, index?_val])

/-! ## STATUS READ (R182) -/

theorem statusRead_shown (hrun : s.resetHeld = false) {part : Section} {first : Nat} {d : Data}
    (hshown : statusSection s part first = some d) :
    exec (.statusRead h (some part) first) s = .next (answer h .statusRead (.done d) (settle s)) := by
  have hjudged : judgeStatusRead (some part) first s = .yes s d := by
    simp [judgeStatusRead, hshown]
  refine (exec_request hrun (.statusRead (some part) first)).trans (congrArg _ ?_)
  exact (congrArg (serve h _ _ · s) hjudged).trans (serve_taken (Nat.not_lt_zero _))

theorem statusRead_notShown (hrun : s.resetHeld = false) {part : Option Section} {first : Nat}
    (hnone : (part.bind fun p => statusSection s p first) = none) :
    exec (.statusRead h part first) s = .next (answer h .statusRead (.refused .range none) s) := by
  have hjudged : judgeStatusRead part first s = .no .range := by
    simp [judgeStatusRead, hnone]
  refine (exec_request hrun (.statusRead part first)).trans (congrArg _ ?_)
  exact (congrArg (serve h _ _ · s) hjudged).trans (serve_refused (Nat.not_lt_zero _))

theorem window_inside {α : Type} {size count first : Nat} (l : List α) (hfirst : first < size) :
    window size count first l = some ((l.drop first).take count) := if_pos hfirst

theorem window_outside {α : Type} {size count first : Nat} (l : List α) (hfirst : size ≤ first) :
    window size count first l = none := if_neg (Nat.not_lt.2 hfirst)

/-- No code is pending in CONFIG, so the pending codes are those that the test of R75 names. -/
theorem pendingCodes_eq : pendingCodes s = (List.finRange 64).filter fun c => isPending s c := by
  unfold pendingCodes
  split
  · rfl
  · next hout =>
    refine (List.filter_eq_nil_iff.2 fun c _ hc => hout ?_).symm
    simp only [isPending, Bool.and_eq_true] at hc
    exact hc.1.1.1

/-! ## Refusals in CONFIG (R174 test 4) -/

/-- The request is refused STATE or RANGE. -/
def Judged.IsBarred (j : Judged) : Prop := j = .no .state ∨ j = .no .range

theorem withIndex_isBarred {n i : Nat} {f : Fin n → Judged} (hf : ∀ k, (f k).IsBarred) : (withIndex i f).IsBarred := by
  unfold withIndex
  split
  · exact .inr rfl
  · exact hf _

theorem inServiceOnly_isBarred {j : Judged} (hconfig : s.device = .config) : (inServiceOnly s j).IsBarred := by
  have hout : ¬inService s = true := by simp [inService, hconfig]
  exact .inl (if_neg hout)

theorem inRunOnly_isBarred {j : Judged} (hconfig : s.device = .config) : (inRunOnly s j).IsBarred := by
  have hout : s.device ≠ .run := by simp [hconfig]
  exact .inl (if_neg hout)

/-- A request taken in service only is refused in CONFIG. -/
theorem judgeRequest_isBarred (hconfig : s.device = .config) {q : Request} (hq : needsService q = true) :
    (judgeRequest h q s).IsBarred := by
  have hout : inService s = false := by simp [inService, hconfig]
  cases q with
  | tableRead | stationWrite | zoneWrite | doorWrite | rampWrite | lineWrite | timerWrite | vectorWrite | messageWrite
  | deviceWrite | statusRead | counterRead | mirrorRead | mirrorPurge | start | withdraw | timerStop | zoneClear
  | fireDeclare | fireClear | fireOverride | rampStop | rampRelease => cases hq
  | stop | generalAlarm | generalAlarmClear => exact inServiceOnly_isBarred hconfig
  | restart => exact .inl (if_pos (.inl hconfig))
  | resume => exact .inl (if_pos (.inl (by simp [hconfig])))
  | testRaise =>
    refine withIndex_isBarred fun c => ?_
    dsimp only
    split
    · exact .inr rfl
    · exact .inl rfl
  | timerStart | zoneClose | zoneOpen | callCancel => exact withIndex_isBarred fun _ => inServiceOnly_isBarred hconfig
  | closeNow => exact withIndex_isBarred fun _ => .inl (if_neg (by simp [hout]))
  | call m zones priority repeats =>
    simp only [judgeRequest, judgeCallRequest]
    split
    · exact inServiceOnly_isBarred hconfig
    · exact .inr rfl
  | rampMove | rampHome => exact withIndex_isBarred fun _ => inRunOnly_isBarred hconfig

/-- Every request is answered once under its name, REFUSED or DONE. -/
theorem exec_request_answered (hrun : s.resetHeld = false) (q : Request) :
    (∃ (reason : Reason) (failure : Option CheckFailure),
      exec (requestInstr h q) s = .next (answer h (requestName q) (.refused reason failure) s)) ∨
    ∃ (t : State) (d : Data), exec (requestInstr h q) s = .next (answer h (requestName q) (.done d) (settle t)) := by
  rw [exec_request hrun]
  by_cases hauth : authorityOf h < leastAuthority q
  · rw [serve_unauthorised hauth]
    exact .inl ⟨_, _, rfl⟩
  · cases judgeRequest h q s with
    | refused reason failure =>
      rw [serve_refused hauth]
      exact .inl ⟨_, _, rfl⟩
    | taken t data =>
      rw [serve_taken hauth]
      exact .inr ⟨_, _, rfl⟩

end Serving

/-! ## What a MGMT payload spells (R173, R174, log entry 1) -/

section Readings

theorem findSome?_range_eq_some_iff {α : Type} (f : Nat → Option α) (n : Nat) (x : α) :
    (List.range n).findSome? f = some x ↔ ∃ k < n, f k = some x ∧ ∀ m < k, f m = none := by
  induction n with
  | zero => simp
  | succ n ih =>
    rw [List.range_succ, List.findSome?_append, Option.or_eq_some_iff, ih]
    constructor
    · rintro (⟨k, hk, hread, hbefore⟩ | ⟨hnone, hlast⟩)
      · exact ⟨k, Nat.lt_succ_of_lt hk, hread, hbefore⟩
      · refine ⟨n, Nat.lt_succ_self n, by simpa using hlast, fun m hm => ?_⟩
        exact List.findSome?_eq_none_iff.1 hnone m (List.mem_range.2 hm)
    · rintro ⟨k, hk, hread, hbefore⟩
      obtain hk | rfl := Nat.lt_succ_iff_lt_or_eq.1 hk
      · exact .inl ⟨k, hk, hread, hbefore⟩
      · refine .inr ⟨List.findSome?_eq_none_iff.2 fun m hm => hbefore m (List.mem_range.1 hm), ?_⟩
        simpa using hread

variable {α : Type} {read : List Byte → Option α}

/-- The shortest prefix that has a reading gives the payload's. -/
theorem firstReading_eq_some_iff (p : List Byte) (x : α) :
    firstReading read p = some x ↔
      ∃ n : Nat, n ≤ p.length ∧ read (p.take n) = some x ∧ ∀ m : Nat, m < n → read (p.take m) = none := by
  rw [firstReading, findSome?_range_eq_some_iff]
  simp only [Nat.lt_succ_iff]

theorem firstReading_eq_none_iff (p : List Byte) :
    firstReading read p = none ↔ ∀ n : Nat, read (p.take n) = none := by
  rw [firstReading, List.findSome?_eq_none_iff]
  refine ⟨fun hnone n => ?_, fun hnone n _ => hnone n⟩
  obtain hn | hn := le_total n p.length
  · exact hnone n (List.mem_range.2 (Nat.lt_succ_of_le hn))
  · have hall := hnone p.length (List.mem_range.2 (Nat.lt_succ_self _))
    rwa [List.take_of_length_le hn, ← List.take_of_length_le (Nat.le_refl p.length)]

/-- The bytes after the prefix that is read are ignored. -/
theorem firstReading_append {p : List Byte} {x : α} (h : firstReading read p = some x) (trailing : List Byte) :
    firstReading read (p ++ trailing) = some x := by
  obtain ⟨n, hn, hread, hbefore⟩ := (firstReading_eq_some_iff p x).1 h
  refine (firstReading_eq_some_iff _ x).2 ⟨n, ?_, ?_, fun m hm => ?_⟩
  · rw [List.length_append]
    omega
  · rwa [List.take_append_of_le_length hn]
  · rw [List.take_append_of_le_length (by omega)]
    exact hbefore m hm

/-- The first reading may be looked for without regard to the payload's end. -/
theorem firstReading_of_first {p : List Byte} {n : Nat} {x : α} (hread : read (p.take n) = some x)
    (hbefore : ∀ m : Nat, m < n → read (p.take m) = none) : firstReading read p = some x := by
  refine (firstReading_eq_some_iff p x).2 ⟨n, ?_, hread, hbefore⟩
  by_contra hlong
  have hall := hbefore p.length (Nat.not_le.1 hlong)
  rw [List.take_of_length_le (Nat.le_refl _)] at hall
  rw [List.take_of_length_le (Nat.le_of_lt (Nat.not_le.1 hlong)), hall] at hread
  cases hread

theorem serveFrame_request {s : State} {f : Frame} {authority : Nat} {q : Request}
    (h : readRequest f.payload = some (authority, q)) :
    serveFrame f s = serveRequest ⟨f.source, f.tag, authority⟩ q s := by
  rw [serveFrame, h]

theorem serveFrame_unknown {s : State} {f : Frame} (h : readRequest f.payload = none) :
    serveFrame f s = answer ⟨f.source, f.tag, 0⟩ (readName f.payload) (.refused .unknown none) s := by
  rw [serveFrame, h]

end Readings

/-- Settles O54: a read shows a row or a section of the state as it stands, and `serve` answers every other judgement
from the state as it was or from the state as taken. -/
theorem readsAndRefusals : Obligations.ReadsAndRefusals := by
  unfold Obligations.ReadsAndRefusals
  refine ⟨fun s h hrun => ⟨?rows, fun first => ?sections⟩, ?refusals, ?answers, ?mgmt, ?requests, ?none, ?names⟩
  case rows =>
    obtain ⟨station, zone, door, ramp, line, timer, vector, message, device⟩ := tableRead_rows (s := s) (h := h) hrun
    refine ⟨station, zone, door, ramp, fun n => ⟨fun hin => ?_, fun hout => ?_, fun hin hout => ?_⟩, timer, fun c => ?_,
      message, device, fun i => ⟨?_, fun hi => ?_, fun hi => ⟨?_, ?_⟩, fun hi => ?_, fun hi => ?_, fun hi => ?_,
      fun hi => ?_, fun hi => ?_⟩⟩
    · have := line n
      rwa [lineView, if_pos hin] at this
    · have hnot : ¬(s.lines.get n).fn.isInput = true := by
        cases hfn : (s.lines.get n).fn <;> simp_all [LineFn.isInput, LineFn.isOutput]
      have := line n
      rwa [lineView, if_neg hnot, if_pos hout] at this
    · have := line n
      rwa [lineView, hin, hout] at this
    · refine ⟨hasRecord s c, vector c, ?_⟩
      unfold hasRecord
      split
      · rw [Option.isSome_iff_ne_none]
      · rfl
    · exact tableRead_noRow hrun rfl
    · exact tableRead_noRow hrun (by simp [tableRow, addr?_of_outside hi])
    all_goals exact tableRead_noRow hrun (by simp [tableRow, index?_of_le hi])
  case sections =>
    dsimp only
    rw [← pendingCodes_eq]
    refine ⟨statusRead_shown hrun rfl, statusRead_shown hrun rfl, statusRead_shown hrun rfl, statusRead_shown hrun rfl,
      fun hfirst => ⟨?_, ?_⟩, fun hfirst => ?_, fun r hr => ?_, fun hfirst => ?_, statusRead_notShown hrun rfl,
      fun hfirst => ⟨?_, ?_⟩, fun hfirst => ?_, fun hfirst => ?_, fun hfirst => ?_⟩
    · exact statusRead_shown hrun (by rw [statusSection, window_inside _ hfirst]; rfl)
    · exact statusRead_shown hrun (by rw [statusSection, window_inside _ hfirst]; rfl)
    · exact statusRead_shown hrun (by rw [statusSection, window_inside _ hfirst]; rfl)
    · subst hr
      exact statusRead_shown hrun (by rw [statusSection, index?_val]; rfl)
    · exact statusRead_shown hrun (by rw [statusSection, window_inside _ hfirst]; rfl)
    · exact statusRead_notShown hrun (by simp [statusSection, window_outside _ hfirst])
    · exact statusRead_notShown hrun (by simp [statusSection, window_outside _ hfirst])
    · exact statusRead_notShown hrun (by simp [statusSection, window_outside _ hfirst])
    · exact statusRead_notShown hrun (by simp [statusSection, index?_of_le hfirst])
    · exact statusRead_notShown hrun (by simp [statusSection, window_outside _ hfirst])
  case refusals =>
    refine fun s h q hrun => ⟨fun hauth => ?_, fun hauth hconfig hq => ?_⟩
    · rw [exec_request hrun, serve_unauthorised ((authorityOf_lt_iff q).2 hauth)]
    · have hauth' : ¬authorityOf h < leastAuthority q := fun hlt => Nat.not_lt.2 hauth ((authorityOf_lt_iff q).1 hlt)
      rw [exec_request hrun]
      obtain hstate | hrange := judgeRequest_isBarred (h := h) hconfig hq
      · rw [hstate]
        exact .inl (congrArg _ (serve_refused hauth'))
      · rw [hrange]
        exact .inr (congrArg _ (serve_refused hauth'))
  case answers => exact fun s h q hrun => exec_request_answered hrun q
  case mgmt =>
    refine fun s f rest hrun hrx hdest hkind => ⟨fun authority q u hread hserved => ?_, fun hread => ?_⟩
    · have hrun' : (s.withRx .bridge rest).resetHeld = false := hrun
      have hu : exec (requestInstr ⟨f.source, f.tag, authority⟩ q) (s.withRx .bridge rest) = .next u := hserved
      rw [exec_requestInstr, served, hrun'] at hu
      cases hu
      exact concluded_eq hrun
        ((takeHead_cons _ hrx).trans ((bridgeFrame_mgmt hdest hkind).trans (serveFrame_request hread)))
    · exact concluded_eq hrun
        ((takeHead_cons _ hrx).trans ((bridgeFrame_mgmt hdest hkind).trans (serveFrame_unknown hread)))
  case requests =>
    exact fun p trailing authority q hread =>
      ⟨firstReading_append hread trailing, (firstReading_eq_some_iff p _).1 hread⟩
  case none =>
    refine fun p => ⟨firstReading_eq_none_iff p, fun hnone => ?_⟩
    rw [readName, (firstReading_eq_none_iff p).2 hnone]
    rfl
  case names =>
    intro p n name hname hbefore
    rw [readName, firstReading_of_first hname hbefore]
    rfl

end Sys2Proof.Machine
end

section

set_option Elab.async false

namespace Sys2Proof.Machine

/-! # What the Call Arbiter keeps (R129 to R137)

The operations of the Call Arbiter reach the zone lines, the owners of the amplifiers, the queued calls and, by their
notices, the zones and ramps that await a call. `ArbiterInvariant` lists what a predicate has to survive of them, each
field one kind of step; the rules under `ArbiterInvariant.Holds` then carry the predicate over every operation. -/

/-- A predicate that survives every step of the Call Arbiter, and the lines and zones that such a step may change where
it holds: a line that carries a call or is not FAULT, a zone at rest or one that awaits a call. -/
structure ArbiterInvariant where
  Holds : State → Prop
  okLine : ZoneId → Prop
  okZone : ZoneId → Prop
  of_eq {s t : State} : Holds s → t.zoneLines = s.zoneLines → t.owners = s.owners → t.calls = s.calls →
    t.zoneDyn = s.zoneDyn → Holds t
  modZoneLine {s : State} {y : ZoneId} {f : ZoneLine → ZoneLine} : Holds s → okLine y → Holds (s.modZoneLine y f)
  setOwner {s : State} {b : Addr} {o : Owner} : Holds s → (∀ y, o = .line y → okLine y) → Holds (s.setOwner b o)
  modCall {s : State} {k : Nat} {f : CallRecord → CallRecord} : Holds s →
    (∀ c, (f c).stamp = c.stamp ∧ (∀ y, ¬okLine y → y ∉ c.zones → y ∉ (f c).zones) ∧
      (c.incomplete = true → (f c).incomplete = true)) → Holds (s.modCall k f)
  removeCall {s : State} {k : Nat} : Holds s → Holds (removeCall k s)
  modZone {s : State} {y : ZoneId} {f : ZoneDyn → ZoneDyn} : Holds s → okZone y → Holds (s.modZone y f)
  carried {s : State} {y : ZoneId} : Holds s → (s.zoneLines.get y).carried ≠ none → okLine y
  sound {s : State} {y : ZoneId} : Holds s → (s.zoneLines.get y).state ≠ .fault → okLine y
  resting {s : State} {y : ZoneId} : Holds s → (s.zoneDyn.get y).state.isRest = true → okZone y
  awaiting {s : State} {y : ZoneId} {ref : CallRef} : Holds s → (s.zoneDyn.get y).callRef = some ref → okZone y

namespace ArbiterInvariant.Holds

variable {inv : ArbiterInvariant} {y : ZoneId} {b : Addr} {s t : State} {k : Nat}

theorem then_eq (h : inv.Holds s) (lines : t.zoneLines = s.zoneLines := by simp)
    (owners : t.owners = s.owners := by simp) (calls : t.calls = s.calls := by simp)
    (zones : t.zoneDyn = s.zoneDyn := by simp) : inv.Holds t := inv.of_eq h lines owners calls zones

/-- A walk whose steps, on the elements walked, keep the invariant. -/
theorem foldl {α : Type} {l : List α} {f : State → α → State} (h : inv.Holds s)
    (hf : ∀ t, ∀ x ∈ l, inv.Holds t → inv.Holds (f t x)) : inv.Holds (l.foldl f s) := by
  induction l generalizing s with
  | nil => exact h
  | cons x l ih =>
    exact ih (hf s x List.mem_cons_self h) fun t y hy => hf t y (List.mem_cons_of_mem x hy)

theorem ite {c : Prop} [Decidable c] {u : State} (ht : c → inv.Holds t) (hu : ¬c → inv.Holds u) :
    inv.Holds (if c then t else u) := by
  split
  · next hc => exact ht hc
  · next hc => exact hu hc

/-! ## Owners -/

theorem release? (h : inv.Holds s) {b : Option Addr} {o : Owner} : inv.Holds (release? b o s) := by
  unfold Machine.release? Machine.release
  split
  · exact h
  · exact .ite (fun _ => inv.setOwner h fun _ => nofun) fun _ => h

theorem claimLine (h : inv.Holds s) (hy : inv.okLine y) : inv.Holds (claim b (.line y) s).2 := by
  unfold Machine.claim
  split
  · exact inv.setOwner h fun x hx => Owner.line.inj hx ▸ hy
  · split <;> exact h

/-! ## Lines and calls -/

theorem okLine_of_mem_carriedBy (h : inv.Holds s) (hy : y ∈ carriedBy s k) : inv.okLine y := by
  have hcarried := (List.mem_filter.1 hy).2
  exact inv.carried h (by simp [of_decide_eq_true hcarried])

theorem modZoneLine (h : inv.Holds s) {f : ZoneLine → ZoneLine} (hy : inv.okLine y) :
    inv.Holds (s.modZoneLine y f) := inv.modZoneLine h hy

/-- A call is changed without being given a zone or called complete. -/
theorem modCall (h : inv.Holds s) {f : CallRecord → CallRecord}
    (hf : ∀ c, (f c).stamp = c.stamp ∧ (∀ y, ¬inv.okLine y → y ∉ c.zones → y ∉ (f c).zones) ∧
      (c.incomplete = true → (f c).incomplete = true)) : inv.Holds (s.modCall k f) := inv.modCall h hf

theorem removeCall (h : inv.Holds s) : inv.Holds (Machine.removeCall k s) := inv.removeCall h

/-! ## Zones -/

theorem modZone (h : inv.Holds s) {f : ZoneDyn → ZoneDyn} (hy : inv.okZone y) : inv.Holds (s.modZone y f) :=
  inv.modZone h hy

/-! ## What reaches neither lines nor owners nor calls -/

theorem modDoor (h : inv.Holds s) {d : DoorId} {f : DoorDyn → DoorDyn} : inv.Holds (s.modDoor d f) :=
  h.then_eq

theorem modRamp (h : inv.Holds s) {r : RampId} {f : RampDyn → RampDyn} : inv.Holds (s.modRamp r f) :=
  h.then_eq

theorem raiseInternal (h : inv.Holds s) {c : Option Code} {b : Option Addr} {y : Option ZoneId} {w : Word16} :
    inv.Holds (raiseInternal c b y w s) := h.then_eq

theorem jobCommand (h : inv.Holds s) {p : List Byte} : inv.Holds (jobCommand b p s) := h.then_eq

theorem jobCommand? (h : inv.Holds s) {b : Option Addr} {p : List Byte} :
    inv.Holds (jobCommand? b p s) := h.then_eq

theorem orderDoorHold (h : inv.Holds s) {on : Bool} : inv.Holds (orderDoorHold y on s) := h.then_eq

theorem orderEnable (h : inv.Holds s) {r : RampId} {on : Bool} : inv.Holds (orderEnable r on s) :=
  h.then_eq

/-! ## The notices of a removed record -/

theorem releaseMembers (h : inv.Holds s) : inv.Holds (releaseMembers y s) :=
  h.foldl fun _ _ _ ht => ht.release?

theorem refreshRest (h : inv.Holds s) : inv.Holds (refreshRest y s) :=
  .ite (fun hrest => h.modZone (inv.resting h hrest)) fun _ => h

theorem sendClose (h : inv.Holds s) {d : DoorId} : inv.Holds (sendClose d s) :=
  h.modDoor.refreshRest.jobCommand?

theorem endClose (h : inv.Holds s) (hy : inv.okZone y) : inv.Holds (endClose y s) := by
  have hskips := h.releaseMembers (y := y).foldl (l := members (Machine.releaseMembers y s) y)
    (f := fun s d => s.modDoor d fun x => { x with skipped := .no }) fun _ _ _ ht => ht.modDoor
  exact .ite (fun _ => (hskips.modZone hy).raiseInternal) fun _ => (hskips.modZone hy).raiseInternal

theorem judgeCloseEnd (h : inv.Holds s) (hy : inv.okZone y) : inv.Holds (judgeCloseEnd y s) :=
  .ite (fun _ => h.endClose hy) fun _ => h

theorem closingDoor (h : inv.Holds s) {d : DoorId} : inv.Holds (closingDoor y d s) :=
  .ite (fun _ => h) fun _ => .ite (fun _ => h.modDoor) fun _ => .ite (fun _ => h) fun _ => h.sendClose

theorem enterClosing (h : inv.Holds s) (hy : inv.okZone y) : inv.Holds (enterClosing y s) :=
  ((h.orderDoorHold.modZone hy).foldl fun _ _ _ ht => ht.closingDoor).judgeCloseEnd hy

theorem enterCountdown (h : inv.Holds s) (hy : inv.okZone y) : inv.Holds (enterCountdown y s) :=
  .ite (fun _ => .ite (fun _ => (h.modZone hy).enterClosing hy) fun _ => (h.modZone hy).modZone hy)
    fun _ => h.modZone hy

theorem zoneNotice (h : inv.Holds s) {ref : CallRef} {complete : Bool} :
    inv.Holds (zoneNotice y ref complete s) :=
  .ite
    (fun hawaits =>
      have hy := inv.awaiting h hawaits.2
      (ite (fun _ => h.modZone hy) fun _ => (h.modZone hy).raiseInternal).enterCountdown hy)
    fun _ => h

theorem rampNotice (h : inv.Holds s) {r : RampId} {ref : CallRef} :
    inv.Holds (rampNotice r ref s) :=
  .ite (fun _ => h.modRamp.orderEnable.jobCommand?.modRamp) fun _ => h

theorem notify (h : inv.Holds s) {c : CallRecord} {n : Notice} : inv.Holds (notify c n s) := by
  unfold Machine.notify
  split
  · exact h.zoneNotice
  · exact h.rampNotice
  all_goals exact h

/-! ## The operations of the Call Arbiter -/

theorem dropLines (h : inv.Holds s) : inv.Holds (dropLines k s) :=
  h.foldl fun _ _ hy ht => ht.modZoneLine (h.okLine_of_mem_carriedBy hy)

theorem completeCall (h : inv.Holds s) : inv.Holds (completeCall k s) := by
  unfold Machine.completeCall
  split
  · exact h
  · exact h.dropLines.removeCall.notify

theorem stopLine (h : inv.Holds s) (hy : inv.okLine y) : inv.Holds (stopLine y s) := by
  unfold Machine.stopLine
  split
  · exact (h.modZoneLine hy).jobCommand?
  · exact (h.modZoneLine hy).jobCommand?
  · exact h.modZoneLine hy

theorem dropZone (h : inv.Holds s) : inv.Holds (dropZone k y s) :=
  h.modCall fun _ => ⟨rfl, fun _ _ hz hmem => hz (List.mem_filter.1 hmem).1, fun _ => rfl⟩

theorem failLine (h : inv.Holds s) (hy : inv.okLine y) {cause : LineFault} :
    inv.Holds (failLine y cause s) := by
  unfold Machine.failLine
  dsimp only
  refine .ite (fun _ => h) fun _ => raiseInternal ?_
  have hstopped : inv.Holds
      (if (s.zoneLines.get y).state = .starting ∨ (s.zoneLines.get y).state = .playing then sendStop y s else s) :=
    .ite (fun _ => h.jobCommand?) fun _ => h
  split
  · exact (hstopped.modZoneLine hy).release?
  · exact ((hstopped.modZoneLine hy).release?).dropZone

theorem playLine (h : inv.Holds s) (hy : inv.okLine y) {c : CallRecord} : inv.Holds (playLine c y s) := by
  unfold Machine.playLine
  split
  · exact h.failLine hy
  · exact .ite (fun _ => ((h.claimLine hy).modZoneLine hy).jobCommand) fun _ => (h.claimLine hy).failLine hy

theorem tryPlay (h : inv.Holds s) : inv.Holds (tryPlay k s) := by
  unfold Machine.tryPlay
  split
  · exact h
  · next c _ =>
    dsimp only
    refine .ite (fun _ => ?_) fun _ => h
    have hplayed : inv.Holds ((carriedBy s k).foldl (fun s y => Machine.playLine c y s) s) :=
      h.foldl fun _ _ hy ht => ht.playLine (h.okLine_of_mem_carriedBy hy)
    have hsent {b : Bool} := hplayed.modCall (k := k) (f := fun c => { c with sent := b })
      fun _ => ⟨rfl, fun _ _ => id, id⟩
    split
    · exact hsent
    · exact .ite (fun _ => hsent.completeCall) fun _ => hsent

theorem restartCall (h : inv.Holds s) : inv.Holds (restartCall k s) :=
  tryPlay (h.modCall fun _ => ⟨rfl, fun _ _ => id, id⟩)

theorem endRepetition (h : inv.Holds s) : inv.Holds (endRepetition k s) := by
  unfold Machine.endRepetition
  split
  · exact h
  · dsimp only
    have hleft {n : Nat} := h.modCall (k := k) (f := fun c => { c with left := n }) fun _ => ⟨rfl, fun _ _ => id, id⟩
    refine .ite (fun _ => hleft.completeCall) fun _ => .ite (fun _ => hleft.restartCall) fun _ => ?_
    exact hleft.modCall fun _ => ⟨rfl, fun _ _ => id, id⟩

theorem refreshCall (h : inv.Holds s) : inv.Holds (refreshCall k s) := by
  have hstate {st : CallState} := h.modCall (k := k) (f := fun c => { c with state := st })
    fun _ => ⟨rfl, fun _ _ => id, id⟩
  unfold Machine.refreshCall
  split
  · exact h
  · dsimp only
    refine .ite (fun _ => h.completeCall) fun _ => ?_
    split
    · exact h
    · exact h
    · exact .ite (fun _ => h) fun _ => hstate
    all_goals
      exact .ite (fun _ => h.tryPlay) fun _ => .ite (fun _ => hstate) fun _ => .ite (fun _ => hstate) fun _ =>
        h.endRepetition

theorem preemptCall (h : inv.Holds s) {wanted : List ZoneId} {winner : Nat} :
    inv.Holds (preemptCall k wanted winner s) := by
  unfold Machine.preemptCall
  dsimp only
  have hpreempted := h.modCall (k := k)
    (f := fun c => { c with gapTimer := .stopped, preempted := true, sent := false }) fun _ => ⟨rfl, fun _ _ => id, id⟩
  refine modCall (foldl (foldl hpreempted fun _ _ hy ht => ht.stopLine (h.okLine_of_mem_carriedBy hy)) ?_)
    fun _ => ⟨rfl, fun _ _ => id, id⟩
  intro t y hy ht
  have hok := h.okLine_of_mem_carriedBy hy
  exact .ite (fun _ => ht.modZoneLine hok) fun _ => .ite (fun _ => ht.modZoneLine hok) fun _ => ht

theorem takeLines (h : inv.Holds s) {wanted : List ZoneId} {winner : Nat} (hwanted : ∀ y ∈ wanted, inv.okLine y) :
    inv.Holds (takeLines wanted winner s) := by
  refine h.foldl fun t y hy ht => ?_
  split
  · exact ht.modZoneLine (hwanted y hy)
  · exact .ite (fun _ => ht) fun _ => ht.preemptCall

theorem okLine_of_mem_soundZones (h : inv.Holds s) {zones : List ZoneId} (hy : y ∈ soundZones s zones) :
    inv.okLine y := inv.sound h (of_decide_eq_true (List.mem_filter.1 hy).2)

theorem dropFaultZones (h : inv.Holds s) {c : CallRecord} : inv.Holds (dropFaultZones c s) :=
  .ite (fun _ => h) fun _ => h.modCall fun _ =>
    ⟨rfl, fun _ hnot _ hmem => hnot (h.okLine_of_mem_soundZones hmem), fun _ => rfl⟩

theorem startCall (h : inv.Holds s) {c : CallRecord} : inv.Holds (startCall c s) :=
  .ite (fun _ => h.dropFaultZones.completeCall) fun _ =>
    (h.dropFaultZones.takeLines fun _ hy => h.okLine_of_mem_soundZones hy).restartCall

theorem growCall (h : inv.Holds s) {c : CallRecord} {reserved : List ZoneId} :
    inv.Holds (growCall c reserved s).2 := by
  unfold Machine.growCall
  dsimp only
  split
  · exact h
  · refine (takeLines (h.foldl fun _ _ _ ht => .ite (fun _ => ht.dropZone) fun _ => ht) fun y hy => ?_).refreshCall
    have hsound := (List.mem_filter.1 (List.mem_filter.1 hy).1).2
    exact inv.sound h (of_decide_eq_true hsound)

theorem judgeCall (h : inv.Holds s) {reserved : List ZoneId} :
    inv.Holds (judgeCall k reserved s).2 := by
  unfold Machine.judgeCall
  split
  · exact h
  · split
    · dsimp only
      split
      · exact h.startCall
      · exact h
    · exact h.growCall
    · exact h.growCall
    · exact h.growCall
    · exact h

theorem onePass (h : inv.Holds s) : inv.Holds (onePass s) := by
  have hwalk (l : List Nat) (x : List ZoneId × State) (hx : inv.Holds x.2) :
      inv.Holds (l.foldl (fun x k => Machine.judgeCall k x.1 x.2) x).2 := by
    induction l generalizing x with
    | nil => exact hx
    | cons k l ih => exact ih _ hx.judgeCall
  exact hwalk _ ([], s) h

theorem arbitrateFor (h : inv.Holds s) (n : Nat) : inv.Holds (arbitrateFor n s) := by
  induction n generalizing s with
  | zero => exact h
  | succ n ih => exact .ite (fun _ => h.onePass) fun _ => ih h.onePass

theorem arbitrate (h : inv.Holds s) : inv.Holds (arbitrate s) := h.arbitrateFor 32

theorem afterLine (h : inv.Holds s) {l : Option Nat} : inv.Holds (afterLine l s) := by
  unfold Machine.afterLine
  split
  · exact h.arbitrate
  · exact h.refreshCall.arbitrate

theorem cancelCall (h : inv.Holds s) {o : CallOrigin} {m : MsgId} : inv.Holds (cancelCall o m s).2 := by
  unfold Machine.cancelCall
  split
  · exact h
  · next c _ =>
    have hstopped : inv.Holds ((carriedBy s c.stamp).foldl (fun s y => Machine.stopLine y s) s) :=
      h.foldl fun _ _ hy ht => ht.stopLine (h.okLine_of_mem_carriedBy hy)
    exact hstopped.dropLines.removeCall.notify.arbitrate

end ArbiterInvariant.Holds

/-! # A failed zone line (R134)

A line that has failed is FAULT and carries no call. No operation of the Call Arbiter that follows takes it up again,
claims its amplifier for it, or gives its zone back to the call it carried. -/

/-- What the failure of the line of zone `z` with amplifier `a` leaves of the line, the ownership and the call `carried`
that it carried. -/
structure Failed (z : ZoneId) (a : Addr) (carried : Option Nat) (s : State) : Prop where
  line : s.zoneLines.get z = ⟨.fault, none, .stopped, .stopped, .stopped⟩
  owner : s.owners.get a ≠ .line z
  call : ∀ k : Nat, carried = some k → ∀ c ∈ s.calls, c.stamp = k → z ∉ c.zones ∧ c.incomplete = true

namespace Failed

variable {z y : ZoneId} {a b : Addr} {carried : Option Nat} {s t : State} {k : Nat}

theorem congr (h : Failed z a carried s) (lines : t.zoneLines = s.zoneLines) (owners : t.owners = s.owners)
    (calls : t.calls = s.calls) : Failed z a carried t where
  line := by rw [lines, h.line]
  owner := by rw [owners]; exact h.owner
  call := by rw [calls]; exact h.call

theorem setOwner (h : Failed z a carried s) {o : Owner} (ho : o ≠ .line z) : Failed z a carried (s.setOwner b o) where
  line := h.line
  owner := by
    simp only [State.setOwner, Tab.get_put]
    split
    · exact ho
    · exact h.owner
  call := h.call

theorem modZoneLine (h : Failed z a carried s) {f : ZoneLine → ZoneLine} (hy : y ≠ z) :
    Failed z a carried (s.modZoneLine y f) where
  line := by simpa [State.modZoneLine, hy] using h.line
  owner := h.owner
  call := h.call

theorem modCall (h : Failed z a carried s) {f : CallRecord → CallRecord}
    (hf : ∀ c, (f c).stamp = c.stamp ∧ (z ∉ c.zones → z ∉ (f c).zones) ∧
      (c.incomplete = true → (f c).incomplete = true)) :
    Failed z a carried (s.modCall k f) where
  line := h.line
  owner := h.owner
  call := by
    intro j hj c hc hstamp
    obtain ⟨x, hx, rfl⟩ := List.mem_map.1 hc
    by_cases hk : x.stamp = k
    · rw [if_pos hk] at hstamp ⊢
      obtain ⟨hsame, hzones, hincomplete⟩ := hf x
      obtain ⟨hz, hi⟩ := h.call j hj x hx (hsame ▸ hstamp)
      exact ⟨hzones hz, hincomplete hi⟩
    · rw [if_neg hk] at hstamp ⊢
      exact h.call j hj x hx hstamp

theorem ne_of_carried (h : Failed z a carried s) (hy : (s.zoneLines.get y).carried ≠ none) : y ≠ z := by
  rintro rfl
  simp [h.line] at hy

theorem ne_of_sound (h : Failed z a carried s) (hy : (s.zoneLines.get y).state ≠ .fault) : y ≠ z := by
  rintro rfl
  simp [h.line] at hy

end Failed

/-- The arbitration leaves a failed line as it is. -/
def failedInvariant (z : ZoneId) (a : Addr) (carried : Option Nat) : ArbiterInvariant where
  Holds := Failed z a carried
  okLine y := y ≠ z
  okZone _ := True
  of_eq h lines owners calls _ := h.congr lines owners calls
  modZoneLine h hy := h.modZoneLine hy
  setOwner h ho := h.setOwner fun heq => ho z heq rfl
  modCall h hf := h.modCall fun c =>
    have ⟨hstamp, hzones, hincomplete⟩ := hf c
    ⟨hstamp, hzones z (not_not.2 rfl), hincomplete⟩
  removeCall h := ⟨h.line, h.owner, fun j hj c hc => h.call j hj c (List.mem_filter.1 hc).1⟩
  modZone h _ := ⟨h.line, h.owner, h.call⟩
  carried h hy := h.ne_of_carried hy
  sound h hy := h.ne_of_sound hy
  resting _ _ := trivial
  awaiting _ _ := trivial

section LineFailure

variable {z : ZoneId} {a : Addr} {s : State} {cause : LineFault}

theorem lineFails_of_fault (h : (s.zoneLines.get z).state = .fault) : lineFails z cause s = s := if_pos h

/-- What a line that is not FAULT does at its failure, but for the call it carried and the code raised. -/
def State.lineFailed (s : State) (z : ZoneId) : State :=
  let stopped :=
    if (s.zoneLines.get z).state = .starting ∨ (s.zoneLines.get z).state = .playing then sendStop z s else s
  releaseAmplifier z (stopped.modZoneLine z fun l => { l.timersStopped with state := .fault, carried := none })

/-- The call that the line carried loses the zone. -/
def dropCarried (z : ZoneId) (carried : Option Nat) (s : State) : State :=
  match carried with
  | none => s
  | some k => dropZone k z s

theorem failLine_eq (h : (s.zoneLines.get z).state ≠ .fault) :
    failLine z cause s =
      let t := dropCarried z (s.zoneLines.get z).carried (s.lineFailed z)
      raiseInternal t.record.lineFaultCode (amplifier t z) (some z) (BitVec.ofNat 16 cause.detail) t := if_neg h

theorem release_owner_ne (o : Owner) (ho : o ≠ .free) : (release a o s).owners.get a ≠ o := by
  unfold release
  split
  · simpa [State.setOwner] using ho.symm
  · assumption

@[simp] theorem sendStop_zoneLines : (sendStop z s).zoneLines = s.zoneLines := jobCommand?_zoneLines ..
@[simp] theorem sendStop_zones : (sendStop z s).zones = s.zones := jobCommand?_zones ..
@[simp] theorem sendStop_owners : (sendStop z s).owners = s.owners := jobCommand?_owners ..
@[simp] theorem sendStop_calls : (sendStop z s).calls = s.calls := jobCommand?_calls ..

/-- The line's own items, its amplifier and the call that it carried, as its failure leaves them. -/
theorem failed_failLine (hamp : (s.zones.get z).amplifier = some a) (h : (s.zoneLines.get z).state ≠ .fault) :
    Failed z a (s.zoneLines.get z).carried (failLine z cause s) := by
  have hline : (s.lineFailed z).zoneLines.get z = ⟨.fault, none, .stopped, .stopped, .stopped⟩ := by
    simp [State.lineFailed, releaseAmplifier, State.modZoneLine, ZoneLine.timersStopped]
  have howner : (s.lineFailed z).owners.get a ≠ .line z := by
    unfold State.lineFailed releaseAmplifier
    dsimp only
    generalize ht : (if (s.zoneLines.get z).state = .starting ∨ (s.zoneLines.get z).state = .playing then
      sendStop z s else s).modZoneLine z _ = t
    have hamp' : amplifier t z = some a := by
      subst ht
      unfold amplifier
      rw [State.modZoneLine_zones]
      split <;> simp [hamp]
    rw [hamp']
    exact release_owner_ne _ (by simp)
  rw [failLine_eq h]
  refine ArbiterInvariant.Holds.raiseInternal (inv := failedInvariant z a _) ?_
  cases hcarried : (s.zoneLines.get z).carried with
  | none => exact ⟨hline, howner, fun k hk => absurd hk (by simp)⟩
  | some k =>
    refine ⟨hline, howner, fun j hj c hc hstamp => ?_⟩
    obtain rfl : k = j := Option.some.inj hj
    obtain ⟨x, -, rfl⟩ := List.mem_map.1 hc
    by_cases hx : x.stamp = k
    · rw [if_pos hx]
      exact ⟨by simp, rfl⟩
    · rw [if_neg hx] at hstamp
      exact absurd hstamp hx

theorem failed_lineFails (hamp : (s.zones.get z).amplifier = some a) (h : (s.zoneLines.get z).state ≠ .fault) :
    Failed z a (s.zoneLines.get z).carried (lineFails z cause s) := by
  rw [lineFails, if_neg h]
  exact ArbiterInvariant.Holds.afterLine (inv := failedInvariant z a _) (failed_failLine hamp h)

/-- With no call waiting a pass changes nothing. -/
theorem arbitrate_of_no_calls (h : s.calls = []) : arbitrate s = s := by
  have hpass : onePass s = s := by
    rw [onePass, h]
    rfl
  unfold arbitrate arbitrateFor
  rw [hpass]
  exact if_pos ⟨rfl, rfl⟩

/-- A FREE line that carries no call fails with its code alone, when no call waits. -/
theorem lineFails_idle (hamp : (s.zones.get z).amplifier = some a) (hfree : (s.zoneLines.get z).state = .free)
    (hcarried : (s.zoneLines.get z).carried = none) (hcalls : s.calls = []) :
    lineFails z cause s =
      raiseInternal s.record.lineFaultCode (some a) (some z) (BitVec.ofNat 16 cause.detail)
        (release a (.line z)
          { s with zoneLines := Tab.put s.zoneLines z ⟨.fault, none, .stopped, .stopped, .stopped⟩ }) := by
  have hsound : (s.zoneLines.get z).state ≠ .fault := by simp [hfree]
  have hfailed : s.lineFailed z =
      release a (.line z)
        { s with zoneLines := Tab.put s.zoneLines z ⟨.fault, none, .stopped, .stopped, .stopped⟩ } := by
    have hidle : ¬((s.zoneLines.get z).state = .starting ∨ (s.zoneLines.get z).state = .playing) := by simp [hfree]
    unfold State.lineFailed releaseAmplifier
    dsimp only
    rw [if_neg hidle]
    have hamp' : amplifier (s.modZoneLine z fun l => { l.timersStopped with state := .fault, carried := none }) z =
        some a := hamp
    rw [hamp']
    rfl
  have hfail : failLine z cause s = _ := failLine_eq hsound
  have hamp' : amplifier (s.lineFailed z) z = some a := by
    rw [hfailed, amplifier, release_frame]
    exact hamp
  rw [hcarried, dropCarried] at hfail
  dsimp only at hfail
  rw [hamp', hfailed] at hfail
  rw [lineFails, if_neg hsound, hcarried, afterLine, hfail, arbitrate_of_no_calls]
  · rw [release_record]
  · simpa using hcalls

end LineFailure

end Sys2Proof.Machine
end

section

set_option Elab.async false

namespace Sys2Proof.Machine

/-! # The users of a station's points and of its supervision (R23, R100 to R103, R132 to R135, R152, R153) -/

section StationUsers

variable {s : State} {a : Addr} {d : DoorId} {z : ZoneId}

/-! ## The records that name a station -/

theorem doorsOf_eq_singleton (h : ∀ e : DoorId, (s.doors.get e).station = some a ↔ e = d) : doorsOf s a = [d] :=
  filter_finRange_eq_singleton fun e => by rw [decide_eq_true_eq, h]

theorem rampsOf_eq_singleton {r : RampId} (h : ∀ q : RampId, (s.ramps.get q).drive = some a ↔ q = r) :
    rampsOf s a = [r] :=
  filter_finRange_eq_singleton fun q => by rw [decide_eq_true_eq, h]

theorem zonesOf_eq_singleton (h : ∀ y : ZoneId, (s.zones.get y).amplifier = some a ↔ y = z) : zonesOf s a = [z] :=
  filter_finRange_eq_singleton fun y => by rw [decide_eq_true_eq, h]

/-! ## A change of a door (R100, R104) -/

/-- A door's items become `x`. -/
def State.withDoor (s : State) (d : DoorId) (x : DoorDyn) : State := { s with doorDyn := Tab.put s.doorDyn d x }

/-- While its zone is in a procedure, a door's change reaches the door alone. -/
theorem changeDoor_active {f : DoorDyn → DoorDyn} (h : (s.zoneDyn.get (doorZone s d)).state.isRest = false) :
    changeDoor d f s = s.withDoor d (f (s.doorDyn.get d)) := by
  have hactive : ¬((s.modDoor d f).zoneDyn.get (doorZone s d)).state.isRest = true := by
    simp [h]
  exact if_neg hactive

/-- A door's change reaches the door, and the rest state of its zone. -/
theorem changeDoor_frame {f : DoorDyn → DoorDyn} :
    changeDoor d f s =
      { s.withDoor d (f (s.doorDyn.get d)) with zoneDyn := (changeDoor d f s).zoneDyn } := by
  unfold changeDoor refreshRest
  split <;> rfl

theorem restState_congr {t u : State} (hdoors : u.doors = t.doors) (hdyn : u.doorDyn = t.doorDyn) (z : ZoneId) :
    restState u z = restState t z := by
  unfold restState members
  rw [hdoors, hdyn]

/-- The zone of a changed door takes its rest state while no procedure is active; the other zones keep their items. -/
theorem changeDoor_zoneDyn {f : DoorDyn → DoorDyn} (y : ZoneId) :
    (changeDoor d f s).zoneDyn.get y =
      if y = doorZone s d ∧ (s.zoneDyn.get y).state.isRest = true then
        { s.zoneDyn.get y with state := restState (changeDoor d f s) y }
      else s.zoneDyn.get y := by
  have hrest : restState (changeDoor d f s) y = restState (s.modDoor d f) y := by
    refine restState_congr ?_ ?_ y
    · rw [changeDoor_frame]
      rfl
    · rw [changeDoor_frame]
      rfl
  rw [hrest]
  unfold changeDoor refreshRest
  by_cases hy : y = doorZone s d
  · subst hy
    by_cases hactive : (s.zoneDyn.get (doorZone s d)).state.isRest = true
    · simp [hactive, State.modZone]
    · simp [hactive]
  · have hy' : doorZone s d ≠ y := Ne.symm hy
    split
    · simp [hy, hy', State.modZone]
    · simp [hy]

/-- What a change of one door leaves, as the statements give it. -/
theorem changeDoor_spec {f : DoorDyn → DoorDyn} {x : DoorDyn} (hx : f (s.doorDyn.get d) = x) :
    changeDoor d f s = { s.withDoor d x with zoneDyn := (changeDoor d f s).zoneDyn } ∧
      ∀ y : ZoneId, (changeDoor d f s).zoneDyn.get y =
        if y = (s.doors.get d).zone ∧ (s.zoneDyn.get y).state.isRest = true then
          { s.zoneDyn.get y with state := restState (changeDoor d f s) y }
        else s.zoneDyn.get y := by
  subst hx
  exact ⟨changeDoor_frame, changeDoor_zoneDyn⟩

/-- R100: the state that a door derives from its station. -/
theorem derivedOf_eq (h : (s.doors.get d).station = some a) :
    derivedOf s d =
      if ¬(s.stationDyn.get a).status = .heard then .unknown
      else if pointOn s a 4 = true then .failed
      else if pointOn s a 0 = true ∧ pointOn s a 1 = false then .closed
      else if pointOn s a 1 = true ∧ pointOn s a 0 = false then .opened
      else .between := by
  have hstation : doorStation s d = some a := h
  simp [derivedOf, hstation, derivedDoor, isHeard]

/-- R103: what a door under a command shows, by its station's supervision. -/
theorem motionState_eq (h : (s.doors.get d).station = some a) (moving : DoorState) :
    motionState s d moving = if (s.stationDyn.get a).status = .heard then moving else .unknown := by
  have hstation : doorStation s d = some a := h
  simp [motionState, hstation, isHeard]

theorem isRunning_iff (t : Timer) : t.isRunning = true ↔ t ≠ .stopped := by
  cases t <;> simp [Timer.isRunning]

/-! ## Supervision of doors, drives and amplifiers (R103, R134, R135, R153) -/

theorem supervisionReport_door (hrole : (s.stations.get a).role = .door)
    (hdoor : ∀ e : DoorId, (s.doors.get e).station = some a ↔ e = d) (silent : Bool) :
    supervisionReport a silent s = doorSupervision d s := by
  rw [supervisionReport, hrole]
  dsimp only
  rw [doorsOf_eq_singleton hdoor]
  rfl

theorem supervisionReport_drive {r : RampId} (hrole : (s.stations.get a).role = .rampDrive)
    (hdrive : ∀ q : RampId, (s.ramps.get q).drive = some a ↔ q = r) :
    supervisionReport a true s = faultRamp r .driveSilent s ∧ supervisionReport a false s = s := by
  constructor
  · rw [supervisionReport, hrole]
    dsimp only
    rw [rampsOf_eq_singleton hdrive]
    rfl
  · rw [supervisionReport, hrole]
    rfl

theorem supervisionReport_amplifier (hrole : (s.stations.get a).role = .amplifier)
    (hamp : ∀ y : ZoneId, (s.zones.get y).amplifier = some a ↔ y = z) (silent : Bool) :
    supervisionReport a silent s = amplifierSupervision z silent s := by
  rw [supervisionReport, hrole]
  dsimp only
  rw [zonesOf_eq_singleton hamp]
  rfl

theorem supervisionReport_other (silent : Bool) (hdoor : (s.stations.get a).role ≠ .door)
    (hdrive : (s.stations.get a).role ≠ .rampDrive) (hamp : (s.stations.get a).role ≠ .amplifier) :
    supervisionReport a silent s = s := by
  unfold supervisionReport
  split
  · next h => exact absurd h hdoor
  · next h => exact absurd h hdrive
  · next h => exact absurd h hamp
  all_goals rfl

/-- A door passes with its station: by its command it takes its derived state, the state of its motion, or UNKNOWN. -/
theorem doorSupervision_spec {x : DoorDyn}
    (hnone : (s.doorDyn.get d).command = .none →
      x = { s.doorDyn.get d with state := derivedOf s d, held := false })
    (hclose : (s.doorDyn.get d).command = .close →
      x = { s.doorDyn.get d with
        state := motionState s d (if (s.doorDyn.get d).retryTimer = .stopped then .closing else .obstructed) })
    (hopen : (s.doorDyn.get d).command = .open →
      x = { s.doorDyn.get d with state := motionState s d .opening }) :
    doorSupervision d s = { s.withDoor d x with zoneDyn := (doorSupervision d s).zoneDyn } ∧
      ∀ y : ZoneId, (doorSupervision d s).zoneDyn.get y =
        if y = (s.doors.get d).zone ∧ (s.zoneDyn.get y).state.isRest = true then
          { s.zoneDyn.get y with state := restState (doorSupervision d s) y }
        else s.zoneDyn.get y := by
  unfold doorSupervision
  dsimp only
  split
  · next hcommand => exact changeDoor_spec (hnone hcommand).symm
  · next hcommand =>
    refine changeDoor_spec ?_
    rw [hclose hcommand]
    by_cases hretry : (s.doorDyn.get d).retryTimer = .stopped
    · simp [hretry, Timer.isRunning]
    · simp [hretry, (isRunning_iff _).2 hretry]
  · next hcommand => exact changeDoor_spec (hopen hcommand).symm

/-! ## Recovery of a FAULT line (R135) -/

theorem canRecover_iff :
    canRecover s z = true ↔ (s.zoneLines.get z).state = .fault ∧ ∃ a : Addr, (s.zones.get z).amplifier = some a ∧
      (s.stationDyn.get a).status = .heard ∧ pointOn s a 1 = false ∧ pointOn s a 0 = false := by
  unfold canRecover amplifier
  cases hamp : (s.zones.get z).amplifier with
  | none => simp
  | some a => simp [isHeard, and_assoc]

theorem recoverLine_healthy (h : canRecover s z = true) :
    recoverLine z s = arbitrate { s with zoneLines := Tab.put s.zoneLines z ⟨.free, none, .stopped, .stopped, .stopped⟩ } :=
  if_pos h

theorem recoverLine_unhealthy (h : ¬canRecover s z = true) : recoverLine z s = s := if_neg h

/-! ## The expiry of the supervision clock (R36, R37, R46, R79) -/

/-- R36, R37: the station counts. -/
theorem supervised_iff :
    (isSupervised s a && isHeard s a) = true ↔
      (s.stations.get a).role ≠ .unused ∧ (s.stations.get a).rxEnable = true ∧ 0 < (s.stations.get a).silenceLimit ∧
        (s.stationDyn.get a).status = .heard := by
  simp [isSupervised, inUse, isHeard, and_assoc]

/-- The station's items with the silence count risen by 1. -/
def StationDyn.risen (d : StationDyn) : StationDyn := { d with silence := min 255 (d.silence + 1) }

/-- A station with its dynamic items. -/
def State.withStationDyn (s : State) (a : Addr) (d : StationDyn) : State :=
  { s with stationDyn := Tab.put s.stationDyn a d }

theorem countSilence_idle (h : ¬(isSupervised s a && isHeard s a) = true) : countSilence a s = s := if_neg h

theorem countSilence_below (h : (isSupervised s a && isHeard s a) = true)
    (hlimit : (s.stationDyn.get a).silence + 1 < (s.stations.get a).silenceLimit) :
    countSilence a s = s.withStationDyn a (s.stationDyn.get a).risen := by
  have hbelow : ¬(s.stations.get a).silenceLimit ≤ (s.stationDyn.get a).silence + 1 := Nat.not_le.2 hlimit
  exact (if_pos h).trans (if_neg hbelow)

/-- R49: a station's copy is invalidated where its line holds one. -/
theorem invalidateStation_eq :
    invalidateStation a s =
      if (s.mirror.get (mirrorIndex a)).valid = true ∧ (s.mirror.get (mirrorIndex a)).tag = mirrorTag a then
        { s with
          mirror := Tab.put s.mirror (mirrorIndex a) { s.mirror.get (mirrorIndex a) with valid := false } }
      else s := by
  have hcopy : (holdsCopy s a = true) ↔
      (s.mirror.get (mirrorIndex a)).valid = true ∧ (s.mirror.get (mirrorIndex a)).tag = mirrorTag a := by
    simp [holdsCopy]
  unfold invalidateStation
  simp only [hcopy]
  rfl

/-- The state in which a station has fallen silent, before its user is told. -/
def State.fallen (s : State) (a : Addr) : State :=
  s.withStationDyn a { (s.stationDyn.get a).risen with status := .silent }

theorem countSilence_falls (h : (isSupervised s a && isHeard s a) = true)
    (hlimit : (s.stations.get a).silenceLimit ≤ (s.stationDyn.get a).silence + 1) :
    countSilence a s =
      raiseInternal (s.stations.get a).silenceCode (some a) (s.stations.get a).zone
        (BitVec.ofNat 16 (s.stations.get a).silenceLimit)
        (invalidateStation a (supervisionReport a true (s.fallen a))) := by
  have hfallen : (s.withStationDyn a (s.stationDyn.get a).risen).modStation a (fun d => { d with status := .silent }) =
      s.fallen a := by
    simp [State.withStationDyn, State.fallen, State.modStation, Tab.upd, Tab.put_put]
  rw [← hfallen]
  exact (if_pos h).trans (if_pos hlimit)

theorem supervisionReport_mirror (silent : Bool) : (supervisionReport a silent s).mirror = s.mirror :=
  mirror_of_watched (supervisionReport_watched s a silent)

theorem countSample_unfiltered (h : (s.stations.get a).checkTime = 0) : countSample a s = s := if_pos h

theorem countSample_waits (h : (s.stations.get a).checkTime ≠ 0) (hcount : 2 ≤ (s.stationDyn.get a).countdown) :
    countSample a s =
      s.withStationDyn a { s.stationDyn.get a with countdown := (s.stationDyn.get a).countdown - 1 } := by
  have hleft : (s.stationDyn.get a).countdown - 1 ≠ 0 := by omega
  exact (if_neg h).trans (if_neg hleft)

/-- R34, R36: a countdown that ends is reloaded and the station sampled. -/
theorem countSample_ends (h : (s.stations.get a).checkTime ≠ 0) (hcount : (s.stationDyn.get a).countdown ≤ 1) :
    let d := s.stationDyn.get a
    countSample a s =
      pointsBecome a (d.filtered ^^^ ((d.raw ^^^ d.filtered) &&& d.candidates))
        (s.withStationDyn a
          { d with
            countdown := (s.stations.get a).checkTime / 100
            candidates := (d.raw ^^^ d.filtered) &&& ~~~d.candidates }) := by
  have hleft : (s.stationDyn.get a).countdown - 1 = 0 := by omega
  refine (if_neg h).trans ((if_pos hleft).trans ?_)
  unfold sampleStation State.modStation State.withStationDyn
  simp [Tab.upd, Tab.put_put]

theorem reofferBusy_get (c : Code) :
    (reofferBusy s).codes.get c =
      if (s.codes.get c).answer = some .busy then { s.codes.get c with answer := none } else s.codes.get c :=
  Tab.get_map ..

theorem ageMirror_eq :
    ageMirror s =
      { s with
        mirror := Tab.of fun i =>
          if (s.mirror.get i).valid = true then { s.mirror.get i with age := min 255 ((s.mirror.get i).age + 1) }
          else s.mirror.get i } := by
  refine congrArg (fun m => { s with mirror := m }) (Tab.ext fun i => ?_)
  rw [Tab.get_map, Tab.get_of]

end StationUsers

/-- Settles O24: the silence count, the sample and the recovery of one station or line, each by its own branches; a
failed line stays failed through the arbitration (`failedInvariant`). -/
theorem silenceAndRecovery : Obligations.SilenceAndRecovery := by
  unfold Obligations.SilenceAndRecovery
  refine ⟨⟨?expiry, ?silence, ⟨?doors, ?drives, ?amplifiers, ?others⟩, ?recovery, ?busy⟩, ?samples, ?ages⟩
  case expiry => exact fun s hrun => concluded_eq hrun rfl
  case silence =>
    intro s a
    dsimp only
    rw [← supervised_iff]
    refine ⟨fun hidle => countSilence_idle hidle, fun h hlimit => countSilence_below h hlimit, fun h hlimit => ?_⟩
    rw [countSilence_falls h hlimit, invalidateStation_eq, supervisionReport_mirror]
    rfl
  case doors =>
    intro s a d silent hrole hdoor
    have hstation : (s.doors.get d).station = some a := (hdoor d).2 rfl
    dsimp only
    rw [supervisionReport_door hrole hdoor, ← derivedOf_eq hstation]
    refine doorSupervision_spec (fun hcommand => ?_) (fun hcommand => ?_) fun hcommand => ?_
    · simp only [hcommand]
    · simp only [hcommand, motionState_eq hstation]
    · simp only [hcommand, motionState_eq hstation]
  case drives => exact fun s a r hrole hdrive => supervisionReport_drive hrole hdrive
  case amplifiers =>
    intro s a z hrole hamp
    have hamplifier : (s.zones.get z).amplifier = some a := (hamp z).2 rfl
    dsimp only
    rw [supervisionReport_amplifier hrole hamp true, supervisionReport_amplifier hrole hamp false]
    refine ⟨rfl, fun hfault => lineFails_of_fault hfault, fun hsound => ?_, fun hfree hcarried hcalls => ?_⟩
    · obtain ⟨hline, howner, hcall⟩ := failed_lineFails (cause := .silent) hamplifier hsound
      exact ⟨hline, howner, hcall⟩
    · exact lineFails_idle hamplifier hfree hcarried hcalls
  case others => exact fun s a silent => supervisionReport_other silent
  case recovery =>
    intro s z
    dsimp only
    rw [← canRecover_iff]
    exact ⟨recoverLine_healthy, recoverLine_unhealthy⟩
  case busy => exact fun s => ⟨rfl, reofferBusy_get⟩
  case samples => exact fun s a => ⟨countSample_unfiltered, countSample_waits, countSample_ends⟩
  case ages => exact fun s => ageMirror_eq

end Sys2Proof.Machine
end

section

set_option Elab.async false

namespace Sys2Proof.Machine

/-! # The reports of changed role points (R19, R23, R100 to R102, R106, R109, R132 to R134, R150, R152) -/

section RoleReports

variable {s : State} {a : Addr} {old new : Word16} {d : DoorId} {z : ZoneId} {r : RampId}

/-! ## Points that rise and fall -/

/-- The point `p` is off in `old` and on in `new`. -/
def Rises (old new : Word16) (p : Nat) : Prop := old.getLsbD p = false ∧ new.getLsbD p = true

/-- The point `p` is on in `old` and off in `new`. -/
def Falls (old new : Word16) (p : Nat) : Prop := old.getLsbD p = true ∧ new.getLsbD p = false

theorem rises_iff {p : Nat} : (!old.getLsbD p && new.getLsbD p) = true ↔ Rises old new p := by
  simp [Rises]

theorem falls_iff {p : Nat} : (old.getLsbD p && !new.getLsbD p) = true ↔ Falls old new p := by
  simp [Falls]

theorem Rises.ne {p : Nat} (h : Rises old new p) : old.getLsbD p ≠ new.getLsbD p := by
  simp [h.1, h.2]

theorem Falls.ne {p : Nat} (h : Falls old new p) : old.getLsbD p ≠ new.getLsbD p := by
  simp [h.1, h.2]

theorem Falls.not_rises {p : Nat} (h : Falls old new p) : ¬Rises old new p := fun hrise =>
  Bool.false_ne_true (hrise.1.symm.trans h.1)

/-! ## The report goes to the user of the station -/

theorem roleChanged_iff {role : Role} :
    roleChanged role old new = true ↔ ∃ p < rolePoints role, old.getLsbD p ≠ new.getLsbD p := by
  simp [roleChanged]

/-- R19: points that no job uses are reported to none. -/
theorem roleReport_of_not_changed (h : ∀ p < rolePoints (s.stations.get a).role, old.getLsbD p = new.getLsbD p) :
    roleReport a old new s = s := by
  have hsame : ¬roleChanged (s.stations.get a).role old new = true := by
    rw [roleChanged_iff]
    rintro ⟨p, hp, hne⟩
    exact hne (h p hp)
  exact if_neg hsame

theorem roleReport_door {p : Nat} (hrole : (s.stations.get a).role = .door)
    (hdoor : ∀ e : DoorId, (s.doors.get e).station = some a ↔ e = d) (hp : p < 5)
    (hne : old.getLsbD p ≠ new.getLsbD p) : roleReport a old new s = doorReport d old new s := by
  have hchanged : roleChanged .door old new = true := roleChanged_iff.2 ⟨p, hp, hne⟩
  simp [roleReport, hrole, hchanged, doorsOf_eq_singleton hdoor]

theorem roleReport_drive {p : Nat} (hrole : (s.stations.get a).role = .rampDrive)
    (hdrive : ∀ q : RampId, (s.ramps.get q).drive = some a ↔ q = r) (hp : p < 5)
    (hne : old.getLsbD p ≠ new.getLsbD p) : roleReport a old new s = driveReport r old new s := by
  have hchanged : roleChanged .rampDrive old new = true := roleChanged_iff.2 ⟨p, hp, hne⟩
  simp [roleReport, hrole, hchanged, rampsOf_eq_singleton hdrive]

theorem roleReport_amplifier {p : Nat} (hrole : (s.stations.get a).role = .amplifier)
    (hamp : ∀ y : ZoneId, (s.zones.get y).amplifier = some a ↔ y = z) (hp : p < 2)
    (hne : old.getLsbD p ≠ new.getLsbD p) : roleReport a old new s = amplifierReport z old new s := by
  have hchanged : roleChanged .amplifier old new = true := roleChanged_iff.2 ⟨p, hp, hne⟩
  simp [roleReport, hrole, hchanged, zonesOf_eq_singleton hamp]

/-- R18: a station that no record names has no user. -/
theorem roleReport_unnamed
    (hdoor : (s.stations.get a).role = .door → doorsOf s a = [])
    (hdrive : (s.stations.get a).role = .rampDrive → rampsOf s a = [])
    (hamp : (s.stations.get a).role = .amplifier → zonesOf s a = [])
    (hdetector : (s.stations.get a).role ≠ .detector) (hpanel : (s.stations.get a).role ≠ .callPanel) :
    roleReport a old new s = s := by
  unfold roleReport
  dsimp only
  split
  · split
    · next h => rw [hdoor h]; rfl
    · next h => rw [hdrive h]; rfl
    · next h => rw [hamp h]; rfl
    · next h => exact absurd h hdetector
    · next h => exact absurd h hpanel
    all_goals rfl
  · rfl

/-! ## Doors (R100 to R102) -/

/-- The door's motion is over. -/
def State.doorAtRest (s : State) (d : DoorId) (st : DoorState) (held : Bool) : State :=
  s.withDoor d ((s.doorDyn.get d).atRest st held)

theorem doorReport_none (h : (s.doorDyn.get d).command = .none) :
    doorReport d old new s = doorRestReport d old new s := if_pos h

theorem doorReport_motion (h : (s.doorDyn.get d).command ≠ .none) :
    doorReport d old new s = doorMotionReport d old new s := if_neg h

/-- R100: a door without command that is not held FAILED takes its derived state. -/
theorem doorRestReport_derives
    (h : (s.doorDyn.get d).held = false ∨
      ¬(old.getLsbD 0 = new.getLsbD 0 ∧ old.getLsbD 1 = new.getLsbD 1 ∧ old.getLsbD 4 = new.getLsbD 4)) :
    doorRestReport d old new s =
      changeDoor d (fun x => { x with state := derivedOf s d, held := false }) s := by
  refine if_neg ?_
  simp only [Bool.and_eq_true, Bool.not_eq_true', Bool.or_eq_false_iff, bne_eq_false_iff_eq]
  grind

theorem doorRestReport_held (hheld : (s.doorDyn.get d).held = true) (h0 : old.getLsbD 0 = new.getLsbD 0)
    (h1 : old.getLsbD 1 = new.getLsbD 1) (h4 : old.getLsbD 4 = new.getLsbD 4) : doorRestReport d old new s = s := by
  refine if_pos ?_
  dsimp only
  rw [hheld, h0, h1, h4]
  simp

section Motion

variable (hactive : (s.zoneDyn.get (doorZone s d)).state.isRest = false)

include hactive

/-- R102: FAULT fails the door. -/
theorem doorMotionReport_fault (h : Rises old new 4) :
    doorMotionReport d old new s = judgeEnd (doorZone s d) (s.doorAtRest d .failed true) := by
  refine (if_pos (rises_iff.2 h)).trans ?_
  rw [failDoor, changeDoor_active hactive]
  rfl

/-- R101: CLOSED under CLOSE ends the motion. -/
theorem doorMotionReport_closed (hcommand : (s.doorDyn.get d).command = .close) (h4 : ¬Rises old new 4)
    (h : Rises old new 0) :
    doorMotionReport d old new s =
      judgeEnd (doorZone s d) (s.doorAtRest d (motionState s d .closed) false) := by
  refine (if_neg (mt rises_iff.1 h4)).trans ((if_pos ⟨hcommand, rises_iff.2 h⟩).trans ?_)
  dsimp only
  rw [changeDoor_active hactive]
  rfl

/-- R101: OPEN under OPEN ends the motion. -/
theorem doorMotionReport_opened (hcommand : (s.doorDyn.get d).command = .open) (h4 : ¬Rises old new 4)
    (h : Rises old new 1) :
    doorMotionReport d old new s =
      judgeEnd (doorZone s d) (s.doorAtRest d (motionState s d .opened) false) := by
  have hopen : ¬((s.doorDyn.get d).command = .close ∧ (!old.getLsbD 0 && new.getLsbD 0) = true) := by simp [hcommand]
  refine (if_neg (mt rises_iff.1 h4)).trans ((if_neg hopen).trans ((if_pos ⟨hcommand, rises_iff.2 h⟩).trans ?_))
  dsimp only
  rw [changeDoor_active hactive]
  rfl

/-- The door is obstructed: its retry is timed and counted. -/
def State.doorObstructed (s : State) (d : DoorId) : State :=
  s.withDoor d
    { s.doorDyn.get d with
      state := motionState s d .obstructed, closeTimer := .stopped
      retryTimer := .running (s.now + 100000 * (s.doors.get d).retryInterval)
      obstructions := min 255 ((s.doorDyn.get d).obstructions + 1), warned := true }

omit hactive in
/-- R102: OBSTRUCTED under CLOSE, with no retry timed, obstructs the door. -/
theorem doorMotionReport_obstructed (hcommand : (s.doorDyn.get d).command = .close) (h4 : ¬Rises old new 4)
    (h0 : ¬Rises old new 0) (h : Rises old new 2) (hretry : (s.doorDyn.get d).retryTimer = .stopped) :
    doorMotionReport d old new s = obstructDoor d s := by
  have hclosed : ¬((s.doorDyn.get d).command = .close ∧ (!old.getLsbD 0 && new.getLsbD 0) = true) :=
    fun hc => h0 (rises_iff.1 hc.2)
  have hopen : ¬((s.doorDyn.get d).command = .open ∧ (!old.getLsbD 1 && new.getLsbD 1) = true) := by simp [hcommand]
  exact (if_neg (mt rises_iff.1 h4)).trans ((if_neg hclosed).trans ((if_neg hopen).trans
    (if_pos ⟨hcommand, rises_iff.2 h, hretry⟩)))

/-- R102: the first obstruction of a door is warned of. -/
theorem obstructDoor_active :
    obstructDoor d s =
      if (s.doorDyn.get d).warned = true then s.doorObstructed d
      else (postCall (zoneCall (doorZone s d) (s.zones.get (doorZone s d)).warningMsg
        (s.zones.get (doorZone s d)).routinePriority) (s.doorObstructed d)).2 := by
  unfold obstructDoor
  dsimp only
  rw [changeDoor_active hactive]
  rfl

omit hactive in
/-- A report that neither fails the door, nor ends its motion, nor obstructs it, changes nothing. -/
theorem doorMotionReport_idle (h4 : ¬Rises old new 4)
    (hclose : (s.doorDyn.get d).command = .close →
      ¬Rises old new 0 ∧ (¬Rises old new 2 ∨ (s.doorDyn.get d).retryTimer ≠ .stopped))
    (hopen : (s.doorDyn.get d).command = .open → ¬Rises old new 1) : doorMotionReport d old new s = s := by
  refine (if_neg (mt rises_iff.1 h4)).trans ((if_neg ?_).trans ((if_neg ?_).trans (if_neg ?_)))
  · rintro ⟨hcommand, h0⟩
    exact (hclose hcommand).1 (rises_iff.1 h0)
  · rintro ⟨hcommand, h1⟩
    exact hopen hcommand (rises_iff.1 h1)
  · rintro ⟨hcommand, h2, hretry⟩
    exact (hclose hcommand).2.elim (fun h => h (rises_iff.1 h2)) fun h => h hretry

end Motion

/-! ## Drives (R150, R152, R160) -/

theorem isActive_iff {x : RampState} : x.isActive = true ↔ x = .clearing ∨ x = .moving ∨ x = .homing := by
  cases x <;> simp [RampState.isActive]

theorem holdRamp_still {cause : Nat} (h : ¬(s.rampDyn.get r).state.isActive = true) : holdRamp r cause s = s := by
  unfold holdRamp
  split
  · next hstate => exact absurd (by rw [hstate]; rfl) h
  · next hstate => exact absurd (by rw [hstate]; rfl) h
  · next hstate => exact absurd (by rw [hstate]; rfl) h
  · rfl

theorem driveReport_still (h : ¬(s.rampDyn.get r).state.isActive = true) : driveReport r old new s = s := by
  have hhoming : (s.rampDyn.get r).state ≠ .homing := fun hstate => h (by rw [hstate]; rfl)
  simp [driveReport, h, hhoming, holdRamp_still h]

theorem driveReport_fault (h : (s.rampDyn.get r).state.isActive = true) (h3 : Rises old new 3) :
    driveReport r old new s = faultRamp r .driveFault s := by
  refine if_pos ?_
  rw [Bool.and_eq_true]
  exact ⟨h, rises_iff.2 h3⟩

/-- A report that does not fault the drive is judged by STOWED, then READY, then LOCAL. -/
theorem driveReport_stowed (h : (s.rampDyn.get r).state = .homing) (h3 : ¬Rises old new 3) (h1 : Rises old new 1) :
    driveReport r old new s = endHoming r s := by
  refine (if_neg fun hfault => ?_).trans (if_pos ?_)
  · exact h3 (rises_iff.1 (Bool.and_eq_true_iff.1 hfault).2)
  · rw [Bool.and_eq_true]
    exact ⟨decide_eq_true h, rises_iff.2 h1⟩

theorem driveReport_hold (h3 : ¬Rises old new 3) (h1 : ¬((s.rampDyn.get r).state = .homing ∧ Rises old new 1)) :
    (Falls old new 0 → driveReport r old new s = holdRamp r 5 s) ∧
      (¬Falls old new 0 → Rises old new 4 → driveReport r old new s = holdRamp r 6 s) ∧
      (¬Falls old new 0 → ¬Rises old new 4 → driveReport r old new s = s) := by
  have hfault : ¬((s.rampDyn.get r).state.isActive && (!old.getLsbD 3 && new.getLsbD 3)) = true := by
    rw [Bool.and_eq_true]
    exact fun h => h3 (rises_iff.1 h.2)
  have hstowed : ¬(decide ((s.rampDyn.get r).state = .homing) && (!old.getLsbD 1 && new.getLsbD 1)) = true := by
    rw [Bool.and_eq_true]
    exact fun h => h1 ⟨of_decide_eq_true h.1, rises_iff.1 h.2⟩
  refine ⟨fun h => ?_, fun hready h => ?_, fun hready h => ?_⟩
  · exact (if_neg hfault).trans ((if_neg hstowed).trans (if_pos (falls_iff.2 h)))
  · exact (if_neg hfault).trans ((if_neg hstowed).trans ((if_neg (mt falls_iff.1 hready)).trans
      (if_pos (rises_iff.2 h))))
  · exact (if_neg hfault).trans ((if_neg hstowed).trans ((if_neg (mt falls_iff.1 hready)).trans
      (if_neg (mt rises_iff.1 h))))

theorem jobCommand?_drive {p : List Byte} (h : (s.ramps.get r).drive = some a) :
    jobCommand? (drive s r) p s = jobCommand a p s := by
  unfold drive
  rw [h]
  rfl

/-- SPEED 0 and DISABLE are queued to the drive, its enable output is ordered off, and it is released. -/
theorem stopDrive_eq (h : (s.ramps.get r).drive = some a) :
    releaseDrive r (orderEnable r false (sendDisable r (sendSpeed r 0 s))) =
      release a (.ramp r) (orderEnable r false
        (jobCommand a [0x32#8] (jobCommand a [0x30#8, 0x00#8, 0x00#8] s))) := by
  have hspeed : sendSpeed r 0 s = jobCommand a [0x30#8, 0x00#8, 0x00#8] s := jobCommand?_drive h
  have hdisable : sendDisable r (sendSpeed r 0 s) = jobCommand a [0x32#8] (sendSpeed r 0 s) :=
    jobCommand?_drive (by rw [hspeed]; simpa using h)
  rw [hdisable, hspeed]
  simp [releaseDrive, drive, h, release?]

/-- A report without a changed role point is none. -/
theorem roleReport_drive_eq (hrole : (s.stations.get a).role = .rampDrive)
    (hdrive : ∀ q : RampId, (s.ramps.get q).drive = some a ↔ q = r) :
    roleReport a old new s = driveReport r old new s := by
  by_cases hchanged : ∃ p < 5, old.getLsbD p ≠ new.getLsbD p
  · obtain ⟨p, hp, hne⟩ := hchanged
    exact roleReport_drive hrole hdrive hp hne
  · have hsame (p : Nat) (hp : p < 5) : old.getLsbD p = new.getLsbD p :=
      Decidable.byContradiction fun hne => hchanged ⟨p, hp, hne⟩
    have hrises (p : Nat) (hp : p < 5) : ¬Rises old new p := fun h => h.ne (hsame p hp)
    rw [roleReport_of_not_changed (by rw [hrole]; exact hsame)]
    have hready : ¬Falls old new 0 := fun h => h.ne (hsame 0 (by decide))
    exact ((driveReport_hold (hrises 3 (by decide)) fun h => hrises 1 (by decide) h.2).2.2 hready
      (hrises 4 (by decide))).symm

/-- A door with a command in force is reported to as one in motion, whether a role point has changed or not. -/
theorem roleReport_door_motion (hrole : (s.stations.get a).role = .door)
    (hdoor : ∀ e : DoorId, (s.doors.get e).station = some a ↔ e = d) (hcommand : (s.doorDyn.get d).command ≠ .none) :
    roleReport a old new s = doorMotionReport d old new s := by
  by_cases hchanged : ∃ p < 5, old.getLsbD p ≠ new.getLsbD p
  · obtain ⟨p, hp, hne⟩ := hchanged
    exact (roleReport_door hrole hdoor hp hne).trans (doorReport_motion hcommand)
  · have hsame (p : Nat) (hp : p < 5) : old.getLsbD p = new.getLsbD p :=
      Decidable.byContradiction fun hne => hchanged ⟨p, hp, hne⟩
    have hrises (p : Nat) (hp : p < 5) : ¬Rises old new p := fun h => h.ne (hsame p hp)
    rw [roleReport_of_not_changed (by rw [hrole]; exact hsame)]
    exact (doorMotionReport_idle (hrises 4 (by decide))
      (fun _ => ⟨hrises 0 (by decide), .inl (hrises 2 (by decide))⟩) fun _ => hrises 1 (by decide)).symm

/-- A door without command that is held FAILED, and whose CLOSED, OPEN and FAULT points keep, keeps its state. -/
theorem roleReport_door_held (hrole : (s.stations.get a).role = .door)
    (hdoor : ∀ e : DoorId, (s.doors.get e).station = some a ↔ e = d) (hcommand : (s.doorDyn.get d).command = .none)
    (hheld : (s.doorDyn.get d).held = true) (h0 : old.getLsbD 0 = new.getLsbD 0)
    (h1 : old.getLsbD 1 = new.getLsbD 1) (h4 : old.getLsbD 4 = new.getLsbD 4) : roleReport a old new s = s := by
  by_cases hchanged : ∃ p < 5, old.getLsbD p ≠ new.getLsbD p
  · obtain ⟨p, hp, hne⟩ := hchanged
    rw [roleReport_door hrole hdoor hp hne, doorReport_none hcommand, doorRestReport_held hheld h0 h1 h4]
  · refine roleReport_of_not_changed fun p hp => Decidable.byContradiction fun hne => hchanged ⟨p, ?_, hne⟩
    rwa [hrole] at hp

/-- R100: a door without command takes its derived state when a role point changes that may end its hold. -/
theorem roleReport_door_derives (hrole : (s.stations.get a).role = .door)
    (hdoor : ∀ e : DoorId, (s.doors.get e).station = some a ↔ e = d) (hcommand : (s.doorDyn.get d).command = .none)
    (hchanged : ¬(old.getLsbD 0 = new.getLsbD 0 ∧ old.getLsbD 1 = new.getLsbD 1 ∧ old.getLsbD 2 = new.getLsbD 2 ∧
      old.getLsbD 3 = new.getLsbD 3 ∧ old.getLsbD 4 = new.getLsbD 4))
    (h : (s.doorDyn.get d).held = false ∨
      ¬(old.getLsbD 0 = new.getLsbD 0 ∧ old.getLsbD 1 = new.getLsbD 1 ∧ old.getLsbD 4 = new.getLsbD 4)) :
    roleReport a old new s =
      changeDoor d (fun x => { x with state := derivedOf s d, held := false }) s := by
  have hsome : ∃ p < 5, old.getLsbD p ≠ new.getLsbD p := by
    by_contra hnone
    have hsame (p : Nat) (hp : p < 5) : old.getLsbD p = new.getLsbD p :=
      Decidable.byContradiction fun hne => hnone ⟨p, hp, hne⟩
    exact hchanged ⟨hsame 0 (by decide), hsame 1 (by decide), hsame 2 (by decide), hsame 3 (by decide),
      hsame 4 (by decide)⟩
  obtain ⟨p, hp, hne⟩ := hsome
  rw [roleReport_door hrole hdoor hp hne, doorReport_none hcommand, doorRestReport_derives h]

/-! ## Detectors and call panels (R106, R109) -/

theorem roleChanged_of_rises {role : Role} (hrole : 0 < rolePoints role) (h : Rises old new 0) :
    roleChanged role old new = true := roleChanged_iff.2 ⟨0, hrole, h.ne⟩

/-- What a station's zone, if it has one, does with a rise of point 0. -/
def pointZeroToZone (zone : Option ZoneId) (old new : Word16) (act : ZoneId → State → State) (s : State) : State :=
  match zone with
  | none => s
  | some z => if (!old.getLsbD 0 && new.getLsbD 0) = true then act z s else s

theorem pointZeroToZone_spec {role : Role} {zone : Option ZoneId} {act : ZoneId → State → State}
    (hrole : 0 < rolePoints role)
    (h : roleReport a old new s =
      if roleChanged role old new = true then pointZeroToZone zone old new act s else s) :
    (zone = none ∨ ¬Rises old new 0 → roleReport a old new s = s) ∧
      (zone = some z → Rises old new 0 → roleReport a old new s = act z s) := by
  rw [h]
  refine ⟨fun hidle => ?_, fun hzone hrises => ?_⟩
  · have hnone : pointZeroToZone zone old new act s = s := by
      cases zone with
      | none => rfl
      | some z => exact if_neg (mt rises_iff.1 (hidle.resolve_left (by simp)))
    rw [hnone, ite_self]
  · rw [if_pos (roleChanged_of_rises hrole hrises), hzone]
    exact if_pos (rises_iff.2 hrises)

theorem roleReport_detector (hrole : (s.stations.get a).role = .detector) :
    ((s.stations.get a).zone = none ∨ ¬Rises old new 0 → roleReport a old new s = s) ∧
      ((s.stations.get a).zone = some z → Rises old new 0 →
        roleReport a old new s = setFire z ⟨.frame, some a, some z, 0⟩ s) := by
  refine pointZeroToZone_spec (role := .detector) (act := fun z s => setFire z ⟨.frame, some a, some z, 0⟩ s)
    (by decide) ?_
  simp only [roleReport, hrole]
  rfl

theorem roleReport_callPanel (hrole : (s.stations.get a).role = .callPanel) :
    ((s.stations.get a).zone = none ∨ ¬Rises old new 0 → roleReport a old new s = s) ∧
      ((s.stations.get a).zone = some z → Rises old new 0 → roleReport a old new s = setClear z s) := by
  refine pointZeroToZone_spec (role := .callPanel) (act := setClear) (by decide) ?_
  simp only [roleReport, hrole]
  rfl

/-- The zone's clear flag is set. -/
def State.cleared (s : State) (z : ZoneId) : State :=
  { s with zoneDyn := Tab.put s.zoneDyn z { s.zoneDyn.get z with clear := true } }

theorem setClear_eq :
    setClear z s =
      if (s.zoneDyn.get z).clear = true then s
      else if (s.zoneDyn.get z).state = .countdown ∧ (s.zoneDyn.get z).awaitingClear = true then
        enterClosing z (s.cleared z)
      else s.cleared z := rfl

/-- R150: STOWED ends homing: the ramp is referenced at 0, its drive stopped and released. -/
theorem endHoming_eq (h : (s.rampDyn.get r).state = .homing) (hdrive : (s.ramps.get r).drive = some a) :
    endHoming r s =
      raiseInternal (s.ramps.get r).arrivedCode (some a) (some (s.ramps.get r).guardZone) 0
        (release a (.ramp r) (orderEnable r false
          (jobCommand a [0x32#8] (jobCommand a [0x30#8, 0x00#8, 0x00#8]
            { s with
              rampDyn := Tab.put s.rampDyn r
                { s.rampDyn.get r with
                  state := .idle, vset := 0, control := .stopped, clearance := .stopped, callRef := none
                  p := 0, referenced := true } })))) := by
  have hstop := stopDrive_eq (s := s.modRamp r fun d => { d.stopped .idle with p := 0, referenced := true }) hdrive
  refine (if_pos h).trans ?_
  dsimp only
  rw [hstop]
  simp [raiseRamp, drive, hdrive, State.modRamp, RampDyn.stopped, Tab.upd]

/-! ## Amplifiers (R132, R134, R135) -/

theorem amplifierReport_eq :
    (¬Rises old new 1 → Rises old new 0 →
      amplifierReport z old new s = recoverLine z (playingRises z s)) ∧
    (¬Rises old new 1 → Falls old new 0 →
      amplifierReport z old new s = recoverLine z (playingFalls z s)) ∧
    (¬Rises old new 1 → ¬Rises old new 0 → ¬Falls old new 0 →
      amplifierReport z old new s = recoverLine z s) := by
  unfold amplifierReport
  dsimp only
  refine ⟨fun h1 h0 => ?_, fun h1 h0 => ?_, fun h1 h0 hfall => ?_⟩
  · rw [if_neg (mt rises_iff.1 h1), if_pos (rises_iff.2 h0)]
  · rw [if_neg (mt rises_iff.1 h1), if_neg (mt rises_iff.1 h0.not_rises), if_pos (falls_iff.2 h0)]
  · rw [if_neg (mt rises_iff.1 h1), if_neg (mt rises_iff.1 h0), if_neg (mt falls_iff.1 hfall)]

/-- R135: with LINE_FAULT or PLAYING on, a line does not recover. -/
theorem recoverLine_of_point {p : Nat} (hamp : (s.zones.get z).amplifier = some a) (hp : p = 0 ∨ p = 1)
    (h : pointOn s a p = true) : recoverLine z s = s := by
  refine recoverLine_unhealthy fun hrecover => ?_
  obtain ⟨-, b, hb, -, h1, h0⟩ := canRecover_iff.1 hrecover
  obtain rfl : a = b := Option.some.inj (hamp.symm.trans hb)
  rcases hp with rfl | rfl
  · exact Bool.false_ne_true (h0.symm.trans h)
  · exact Bool.false_ne_true (h1.symm.trans h)

theorem playing_of_fault (h : (s.zoneLines.get z).state = .fault) : playingRises z s = s ∧ playingFalls z s = s := by
  simp [playingRises, playingFalls, h]

/-- R134: LINE_FAULT fails the line, and what PLAYING does is then without effect. -/
theorem amplifierReport_fault (hnew : (s.stationDyn.get a).filtered = new) (hamp : (s.zones.get z).amplifier = some a)
    (h : Rises old new 1) : amplifierReport z old new s = lineFails z .lineFault s := by
  have hfault : ((lineFails z .lineFault s).zoneLines.get z).state = .fault := by
    by_cases hline : (s.zoneLines.get z).state = .fault
    · rw [lineFails_of_fault hline, hline]
    · rw [(failed_lineFails hamp hline).line]
  have hcore : (lineFails z .lineFault s).core = s.core := Orderly.refl.lineFails.frame
  have hzones : (lineFails z .lineFault s).zones = s.zones := congrArg (·.1.zones) hcore
  have hdyn : (lineFails z .lineFault s).stationDyn = s.stationDyn := congrArg (·.1.stationDyn) hcore
  obtain ⟨hrises, hfalls⟩ := playing_of_fault hfault
  unfold amplifierReport
  dsimp only
  rw [if_pos (rises_iff.2 h), hrises, hfalls, ite_self, ite_self]
  refine recoverLine_of_point (a := a) (by rw [hzones]; exact hamp) (.inr rfl) ?_
  unfold pointOn
  rw [hdyn, hnew]
  exact h.2

/-- R132: a line whose PLAYING rises does not recover. -/
theorem amplifierReport_playing (hnew : (s.stationDyn.get a).filtered = new) (hamp : (s.zones.get z).amplifier = some a)
    (h1 : ¬Rises old new 1) (h : Rises old new 0) : amplifierReport z old new s = playingRises z s := by
  have hcore : (playingRises z s).core = s.core := Orderly.refl.playingRises.frame
  have hzones : (playingRises z s).zones = s.zones := congrArg (·.1.zones) hcore
  have hdyn : (playingRises z s).stationDyn = s.stationDyn := congrArg (·.1.stationDyn) hcore
  rw [amplifierReport_eq.1 h1 h]
  refine recoverLine_of_point (a := a) (by rw [hzones]; exact hamp) (.inl rfl) ?_
  unfold pointOn
  rw [hdyn, hnew]
  exact h.2

end RoleReports

/-- Settles O8: the report goes to the one record that names the station, and each kind of user judges it by the points
that rise or fall. -/
theorem roleReports : Obligations.RoleReports := by
  unfold Obligations.RoleReports
  refine ⟨⟨?unused, ?doors, ?flags, ?drives, ?amplifiers⟩, fun s a p => rfl, fun s a => decide_eq_true_iff⟩
  case unused =>
    intro s a old new
    dsimp only
    refine ⟨fun h => roleReport_of_not_changed ?_, fun hrole hnone => ?_, fun hrole hnone => ?_, fun hrole hnone => ?_⟩
    · intro p hp
      refine h p ?_
      revert hp
      cases (s.stations.get a).role <;> exact id
    · refine roleReport_unnamed (fun _ => ?_) ?_ ?_ ?_ ?_
      · exact List.filter_eq_nil_iff.2 fun d _ => by simpa using hnone d
      all_goals simp [hrole]
    · refine roleReport_unnamed ?_ (fun _ => ?_) ?_ ?_ ?_
      · simp [hrole]
      · exact List.filter_eq_nil_iff.2 fun r _ => by simpa using hnone r
      all_goals simp [hrole]
    · refine roleReport_unnamed ?_ ?_ (fun _ => ?_) ?_ ?_
      · simp [hrole]
      · simp [hrole]
      · exact List.filter_eq_nil_iff.2 fun z _ => by simpa using hnone z
      all_goals simp [hrole]
  case doors =>
    intro s a old new d hrole hnew hdoor
    have hstation : (s.doors.get d).station = some a := (hdoor d).2 rfl
    have hderived := derivedOf_eq hstation
    simp only [pointOn, hnew] at hderived
    dsimp only
    refine ⟨fun hcommand hheld => roleReport_door_held hrole hdoor hcommand hheld, fun hcommand hchanged hfree => ?_,
      fun hactive => ⟨fun hcommand h4 => ?_, fun hcommand h4 h0 => ?_, fun hcommand h4 h1 => ?_,
        fun hcommand h4 h0 h2 hretry => ?_, fun hcommand h4 h0 h2 => ?_, fun hcommand h4 h1 => ?_⟩⟩
    · rw [roleReport_door_derives hrole hdoor hcommand hchanged hfree, ← hderived]
      exact changeDoor_spec rfl
    · exact (roleReport_door_motion hrole hdoor hcommand).trans (doorMotionReport_fault hactive h4)
    · rw [roleReport_door_motion hrole hdoor (by simp [hcommand]), doorMotionReport_closed hactive hcommand h4 h0,
        motionState_eq hstation]
      rfl
    · rw [roleReport_door_motion hrole hdoor (by simp [hcommand]), doorMotionReport_opened hactive hcommand h4 h1,
        motionState_eq hstation]
      rfl
    · rw [roleReport_door_motion hrole hdoor (by simp [hcommand]), doorMotionReport_obstructed hcommand h4 h0 h2 hretry,
        obstructDoor_active hactive, ← motionState_eq hstation]
      refine ⟨fun hwarned => if_pos hwarned, fun hwarned => (if_neg ?_).trans rfl⟩
      rw [hwarned]
      exact Bool.false_ne_true
    · rw [roleReport_door_motion hrole hdoor (by simp [hcommand])]
      exact doorMotionReport_idle h4 (fun _ => ⟨h0, h2⟩) fun hopen => absurd (hcommand.symm.trans hopen) (by simp)
    · rw [roleReport_door_motion hrole hdoor (by simp [hcommand])]
      exact doorMotionReport_idle h4 (fun hclose => absurd (hcommand.symm.trans hclose) (by simp)) fun _ => h1
  case flags =>
    intro s a old new
    dsimp only
    refine ⟨fun hrole => (roleReport_detector (z := 0) hrole).1, fun z hrole => (roleReport_detector hrole).2,
      fun hrole => (roleReport_callPanel (z := 0) hrole).1, fun z hrole hzone h => ?_⟩
    rw [(roleReport_callPanel hrole).2 hzone h, setClear_eq]
    refine ⟨fun hclear => if_pos hclear, fun hclear hwait => ?_, fun hclear hbusy => ?_⟩
    · rw [hclear]
      exact if_pos hwait
    · have hnot : ¬((s.zoneDyn.get z).state = .countdown ∧ (s.zoneDyn.get z).awaitingClear = true) := by
        rintro ⟨hstate, hawaits⟩
        rw [hawaits] at hbusy
        exact hbusy.elim (fun h => h hstate) fun h => Bool.false_ne_true h.symm
      rw [hclear]
      exact if_neg hnot
  case drives =>
    intro s a old new r hrole hdrive
    have hnamed : (s.ramps.get r).drive = some a := (hdrive r).2 rfl
    dsimp only
    rw [roleReport_drive_eq hrole hdrive, ← isActive_iff]
    refine ⟨driveReport_still, driveReport_fault, fun hhoming h3 h1 => ?_, fun _ h3 h1 => driveReport_hold h3 h1⟩
    exact (driveReport_stowed hhoming h3 h1).trans (endHoming_eq hhoming hnamed)
  case amplifiers =>
    intro s a old new z hrole hnew hamp
    have hnamed : (s.zones.get z).amplifier = some a := (hamp z).2 rfl
    have hreport {p : Nat} (hp : p < 2) (hne : old.getLsbD p ≠ new.getLsbD p) :
        roleReport a old new s = amplifierReport z old new s := roleReport_amplifier hrole hamp hp hne
    have hfault (h1 : Rises old new 1) : roleReport a old new s = lineFails z .lineFault s :=
      (hreport (by decide) h1.ne).trans (amplifierReport_fault hnew hnamed h1)
    dsimp only
    refine ⟨fun h1 hline => ?_, fun h1 hline => ?_, fun h1 hfree hcarried hcalls => ?_, fun h1 h0 => ?_,
      fun h1 h0 => ?_, fun h1 h0 hfall h => ?_⟩
    · exact (hfault h1).trans (lineFails_of_fault hline)
    · rw [hfault h1]
      obtain ⟨hfailed, howner, hcall⟩ := failed_lineFails (cause := .lineFault) hnamed hline
      exact ⟨hfailed, howner, hcall⟩
    · exact (hfault h1).trans (lineFails_idle hnamed hfree hcarried hcalls)
    · exact (hreport (by decide) (Rises.ne h0)).trans (amplifierReport_playing hnew hnamed h1 h0)
    · exact (hreport (by decide) (Falls.ne h0)).trans (amplifierReport_eq.2.1 h1 h0)
    · exact (hreport (by decide) (Falls.ne h)).trans (amplifierReport_eq.2.2 h1 h0 hfall)

end Sys2Proof.Machine
end

section

set_option Elab.async false

namespace Sys2Proof.Machine

/-! # The STATION write (R18, R39, R40) -/

/-! ## Walks over all rows -/

/-- A walk over a list whose steps at other elements do not show in a view, as long as an invariant holds. -/
theorem foldl_view {α σ β : Type} {f : σ → α → σ} {view : σ → β} {I : σ → Prop} {l : List α} {s : σ}
    (hI : ∀ t, I t → ∀ j ∈ l, I (f t j)) (hs : I s) :
    I (l.foldl f s) ∧
      (∀ i, i ∉ l → (∀ t, I t → ∀ j ∈ l, j ≠ i → view (f t j) = view t) → view (l.foldl f s) = view s) ∧
      (∀ i ∈ l, l.Nodup → (∀ t, I t → ∀ j ∈ l, j ≠ i → view (f t j) = view t) →
        ∃ u, I u ∧ view u = view s ∧ view (l.foldl f s) = view (f u i)) := by
  induction l generalizing s with
  | nil => exact ⟨hs, fun _ _ _ => rfl, fun _ hi => absurd hi List.not_mem_nil⟩
  | cons j l ih =>
    have hfirst : I (f s j) := hI s hs j List.mem_cons_self
    obtain ⟨hend, hout, hin⟩ := ih (fun t ht k hk => hI t ht k (List.mem_cons_of_mem j hk)) hfirst
    refine ⟨hend, fun i hi hother => ?_, fun i hi hnodup hother => ?_⟩
    · rw [List.mem_cons, not_or] at hi
      exact (hout i hi.2 fun t ht k hk => hother t ht k (List.mem_cons_of_mem j hk)).trans
        (hother s hs j List.mem_cons_self (Ne.symm hi.1))
    · obtain ⟨hj, hnodup⟩ := List.nodup_cons.1 hnodup
      have hrest := fun t ht k hk => hother t ht k (List.mem_cons_of_mem j hk)
      by_cases hij : i = j
      · subst hij
        exact ⟨s, hs, rfl, hout i hj hrest⟩
      · have hmem : i ∈ l := (List.mem_cons.1 hi).resolve_left hij
        obtain ⟨u, hu, hview, hlast⟩ := hin i hmem hnodup hrest
        exact ⟨u, hu, hview.trans (hother s hs j List.mem_cons_self (Ne.symm hij)), hlast⟩

/-- A walk over all rows whose steps at other rows do not show in a view shows there as its step at the one row. -/
theorem foldl_finRange_view {n : Nat} {σ β : Type} {f : σ → Fin n → σ} {view : σ → β} (i : Fin n)
    (hother : ∀ t j, j ≠ i → view (f t j) = view t) (s : σ) :
    ∃ u : σ, view u = view s ∧ view ((List.finRange n).foldl f s) = view (f u i) := by
  obtain ⟨-, -, hin⟩ := foldl_view (f := f) (view := view) (I := fun _ => True) (l := List.finRange n) (s := s)
    (fun _ _ _ _ => trivial) trivial
  obtain ⟨u, -, hview, hlast⟩ := hin i (List.mem_finRange i) (List.nodup_finRange n) fun t _ j _ => hother t j
  exact ⟨u, hview, hlast⟩

section Recount

variable {s : State} {a : Addr} {c : Code}

/-! ## The counts of active maps across a write (R40) -/

theorem setMapCount_mapCond (a : Addr) (c d : Code) (n : Nat) :
    ((setMapCount a c n s).codes.get d).mapCond =
      if c = d ∧ ¬(s.mapCounts.get c = 0 ↔ n = 0) then decide (n ≠ 0) else (s.codes.get d).mapCond := by
  by_cases hsame : s.mapCounts.get c = 0 ↔ n = 0
  · rw [setMapCount_silent hsame, if_neg fun h => h.2 hsame]
  · rw [setMapCount_passing hsame, reportCondition_mapCond]
    simp [hsame]

/-- The step of a recount at one code. -/
def recountCode (a : Addr) (gone come : Nat) (s : State) (c : Code) : State :=
  if gone = come then s else setMapCount a c (s.mapCounts.get c - gone + come) s

theorem recountMaps_eq (old new : StationRecord) (was is : Word16) :
    recountMaps a old new was is s =
      (List.finRange 64).foldl (fun s c => recountCode a (mapCountOf old was c) (mapCountOf new is c) s c) s := rfl

/-- What shows of a code's count and condition. -/
def State.mapView (s : State) (c : Code) : Nat × Bool := (s.mapCounts.get c, (s.codes.get c).mapCond)

theorem recountCode_other {gone come : Nat} {d : Code} (h : d ≠ c) :
    (recountCode a gone come s d).mapView c = s.mapView c := by
  unfold recountCode
  split
  · rfl
  · simp [State.mapView, setMapCount_mapCounts, setMapCount_mapCond, h]

/-- R40: the condition of a code passes with its count. -/
theorem recountMaps_mapCond (old new : StationRecord) (was is : Word16) (c : Code) :
    let t := recountMaps a old new was is s
    ((s.mapCounts.get c = 0 ↔ t.mapCounts.get c = 0) → (t.codes.get c).mapCond = (s.codes.get c).mapCond) ∧
      (¬(s.mapCounts.get c = 0 ↔ t.mapCounts.get c = 0) →
        (t.codes.get c).mapCond = decide (t.mapCounts.get c ≠ 0)) := by
  intro t
  obtain ⟨u, hu, ht⟩ := foldl_finRange_view (view := (·.mapView c)) c
    (f := fun s c => recountCode a (mapCountOf old was c) (mapCountOf new is c) s c)
    (fun t d hd => recountCode_other hd) s
  have hview : t.mapView c = (recountCode a (mapCountOf old was c) (mapCountOf new is c) u c).mapView c := ht
  obtain ⟨hcount, hcond⟩ := Prod.mk.inj hview
  obtain ⟨hcountu, hcondu⟩ := Prod.mk.inj hu
  unfold recountCode at hcount hcond
  by_cases hsame : mapCountOf old was c = mapCountOf new is c
  · rw [if_pos hsame] at hcount hcond
    rw [hcount, hcountu, hcond, hcondu]
    exact ⟨fun _ => rfl, fun hne => absurd Iff.rfl hne⟩
  · rw [if_neg hsame] at hcount hcond
    rw [setMapCount_mapCounts, Tab.get_put_self] at hcount
    rw [setMapCount_mapCond, hcondu, hcountu] at hcond
    rw [hcountu] at hcount
    rw [hcount, hcond]
    refine ⟨fun hpass => if_neg fun h => h.2 hpass, fun hpass => if_pos ⟨rfl, hpass⟩⟩

/-- A recount reaches the counts and the codes alone. -/
theorem recountMaps_frame (old new : StationRecord) (was is : Word16) :
    recountMaps a old new was is s =
      { s with
        mapCounts := (recountMaps a old new was is s).mapCounts, codes := (recountMaps a old new was is s).codes } := by
  have hwalk (l : List Code) (t : State) : ∃ counts codes,
      l.foldl (fun s c => recountCode a (mapCountOf old was c) (mapCountOf new is c) s c) t =
        { t with mapCounts := counts, codes := codes } := by
    induction l generalizing t with
    | nil => exact ⟨_, _, rfl⟩
    | cons c l ih =>
      have hstep (gone come : Nat) : ∃ counts codes, recountCode a gone come t c =
          { t with mapCounts := counts, codes := codes } := by
        unfold recountCode
        split
        · exact ⟨_, _, rfl⟩
        · exact ⟨_, _, setMapCount_frame ..⟩
      obtain ⟨_, _, hfirst⟩ := hstep (mapCountOf old was c) (mapCountOf new is c)
      obtain ⟨counts, codes, hrest⟩ := ih (recountCode a (mapCountOf old was c) (mapCountOf new is c) t c)
      refine ⟨counts, codes, hrest.trans ?_⟩
      rw [hfirst]
  obtain ⟨counts, codes, h⟩ := hwalk (List.finRange 64) s
  rw [recountMaps_eq, h]

theorem recountMaps_untouched (old new : StationRecord) (was is : Word16) :
    Untouched s (recountMaps a old new was is s) :=
  Untouched.refl.foldl fun _ _ => .ite .refl Untouched.refl.setMapCount

theorem invalidateStation_untouched : Untouched s (invalidateStation a s) := .ite Untouched.refl.modMirror .refl

end Recount

/-! ## An accepted write -/

section StationWrite

variable {s u : State} {a : Addr} {r : StationRecord} {e : StationDyn}

/-- What a write of record `r` and dynamic items `e` leaves in `t`, when `u` is the state in which the users have been
told: the copy is invalidated, and the counts exchange the old record's maps for the new one's. -/
structure Rewritten (s : State) (a : Addr) (r : StationRecord) (e : StationDyn) (u t : State) : Prop where
  stationDyn : t.stationDyn = Tab.put s.stationDyn a e
  mirror : t.mirror =
    if (s.mirror.get (mirrorIndex a)).valid = true ∧ (s.mirror.get (mirrorIndex a)).tag = mirrorTag a then
      Tab.put s.mirror (mirrorIndex a) { s.mirror.get (mirrorIndex a) with valid := false }
    else s.mirror
  counts : ∀ c : Code, mapCountOf (s.stations.get a) (s.stationDyn.get a).filtered c ≤ s.mapCounts.get c →
    t.mapCounts.get c =
      s.mapCounts.get c - mapCountOf (s.stations.get a) (s.stationDyn.get a).filtered c + mapCountOf r e.filtered c
  mapCond : ∀ c : Code,
    ((s.mapCounts.get c = 0 ↔ t.mapCounts.get c = 0) → (t.codes.get c).mapCond = (s.codes.get c).mapCond) ∧
      (¬(s.mapCounts.get c = 0 ↔ t.mapCounts.get c = 0) →
        (t.codes.get c).mapCond = decide (t.mapCounts.get c ≠ 0))
  frame : t = { u with mirror := t.mirror, mapCounts := t.mapCounts, codes := t.codes }
  kept : t.kept =
    { s.kept with
      stations := Tab.put s.stations a r, stationDyn := t.stationDyn, mirror := t.mirror
      mapCounts := t.mapCounts, timerDyn := t.timerDyn }

theorem rewritten_recountMaps (hwatched : u.watched = (s.withStation a r e).watched)
    (huntouched : Untouched (s.withStation a r e) u) :
    Rewritten s a r e u
      (recountMaps a (s.stations.get a) r (s.stationDyn.get a).filtered e.filtered (invalidateStation a u)) := by
  have hmirror : u.mirror = s.mirror := (mirror_of_watched hwatched :)
  have hcounts : (invalidateStation a u).mapCounts = s.mapCounts := by
    rw [invalidateStation_frame]
    exact (mapCounts_of_watched hwatched :)
  have hcond (c : Code) : ((invalidateStation a u).codes.get c).mapCond = (s.codes.get c).mapCond := by
    rw [invalidateStation_frame]
    exact (conditions_of_watched hwatched c).1
  have hframe := recountMaps_frame (s := invalidateStation a u) (a := a) (s.stations.get a) r
    (s.stationDyn.get a).filtered e.filtered
  have hcount := fun c => recountMaps_counts (s := invalidateStation a u) a (s.stations.get a) r
    (s.stationDyn.get a).filtered e.filtered c
  have hmap := fun c => recountMaps_mapCond (s := invalidateStation a u) (a := a) (s.stations.get a) r
    (s.stationDyn.get a).filtered e.filtered c
  have hkept := huntouched.trans (invalidateStation_untouched.trans (recountMaps_untouched (s := invalidateStation a u)
    (a := a) (s.stations.get a) r (s.stationDyn.get a).filtered e.filtered))
  generalize recountMaps a (s.stations.get a) r (s.stationDyn.get a).filtered e.filtered (invalidateStation a u) = t at *
  refine ⟨hkept.stationDyn, ?_, fun c hc => ?_, fun c => ?_, ?_, ?_⟩
  · have hsame : t.mirror = (invalidateStation a u).mirror := by rw [hframe]
    rw [hsame, invalidateStation_eq, hmirror]
    split
    · rfl
    · exact hmirror
  · rw [hcount c (by rwa [hcounts]), hcounts]
  · have hc := hmap c
    rwa [hcounts, hcond] at hc
  · rw [invalidateStation_frame] at hframe
    have hsame : t.mirror = (invalidateStation a u).mirror := by rw [hframe]
    rw [hsame]
    exact hframe
  · rw [hkept.stationDyn]
    exact hkept

/-- The station's job and the Timer Bank have been told of the points that the reset to raw changes. -/
def State.retold (s : State) (a : Addr) (r : StationRecord) : State :=
  let d := s.stationDyn.get a
  timerReports a d.filtered d.raw (roleReport a d.filtered d.raw (s.withStation a r (d.settled r.checkTime)))

theorem rewritten_same_role (h : r.role = (s.stations.get a).role) :
    Rewritten s a r ((s.stationDyn.get a).settled r.checkTime) (s.retold a r) (writeStation a r s) := by
  rw [writeStation_same_role h]
  exact rewritten_recountMaps (by simp [State.retold]) Untouched.refl.roleReport.timerReports

/-- The record of the new role stands, the station is at power-on, and nobody owns it. -/
def State.reassigned (s : State) (a : Addr) (r : StationRecord) : State :=
  (s.withStation a r (StationDyn.powerOn r.checkTime)).setOwner a .free

theorem rewritten_new_role (h : r.role ≠ (s.stations.get a).role) :
    Rewritten s a r (StationDyn.powerOn r.checkTime) (s.reassigned a r) (writeStation a r s) := by
  rw [writeStation_new_role h]
  exact rewritten_recountMaps rfl rfl

/-! ## The record that a write stores (R18, R39) -/

section Fields

variable {f : StationFields}

theorem leastListed_stationCheckTimes (v : Nat) :
    leastListed stationCheckTimes v =
      if v = 0 then 0 else if v ≤ 100 then 100 else if v ≤ 200 then 200 else if v ≤ 400 then 400 else 800 := by
  simp [leastListed, stationCheckTimes]

theorem maybeIndex?_val {n : Nat} {o : Option Nat} {x : Option (Fin n)} (h : maybeIndex? n o = some x) :
    x.map (·.val) = o := by
  cases o with
  | none => cases h; rfl
  | some i =>
    by_cases hi : i < n
    · simp only [maybeIndex?, index?, hi, dite_true, Option.map_some, Option.some.injEq] at h
      subst h
      rfl
    · simp [maybeIndex?, index?, hi] at h

theorem maybeIndex?_of_lt {n : Nat} {o : Option Nat} (h : ∀ i, o = some i → i < n) :
    ∃ x, maybeIndex? n o = some x := by
  cases o with
  | none => exact ⟨none, rfl⟩
  | some i => exact ⟨some ⟨i, h i rfl⟩, by simp [maybeIndex?, index?, h i rfl]⟩

/-- What a map's fields say, and what the stored map says. -/
def fieldItems (m : MapFields) : Nat × Bool × Nat := (min 15 m.point, m.activeHigh, m.code)

def mapItems (m : EventMap) : Nat × Bool × Nat := (m.point.val, m.activeHigh, m.code.val)

theorem mapOf_items {m : MapFields} {x : EventMap} (h : mapOf m = some x) : mapItems x = fieldItems m := by
  unfold mapOf index? at h
  split at h
  · cases h
    simp [mapItems, fieldItems, clampPoint, Nat.min_comm]
  · cases h

theorem allOf_mapOf_items {l : List MapFields} {ms : List EventMap} (h : allOf mapOf l = some ms) :
    ms.map mapItems = l.map fieldItems := by
  induction l generalizing ms with
  | nil => cases h; rfl
  | cons m l ih =>
    unfold allOf at h
    split at h
    · next x xs hx hxs =>
      cases h
      simp [mapOf_items hx, ih hxs]
    · cases h

theorem allOf_mapOf_of_lt {l : List MapFields} (h : ∀ m ∈ l, m.code < 64) : ∃ ms, allOf mapOf l = some ms := by
  induction l with
  | nil => exact ⟨[], rfl⟩
  | cons m l ih =>
    obtain ⟨ms, hms⟩ := ih fun x hx => h x (List.mem_cons_of_mem m hx)
    have hcode : m.code < 64 := h m List.mem_cons_self
    have hm : mapOf m = some ⟨clampPoint m.point, m.activeHigh, ⟨m.code, hcode⟩⟩ := by simp [mapOf, index?, hcode]
    exact ⟨⟨clampPoint m.point, m.activeHigh, ⟨m.code, hcode⟩⟩ :: ms, by simp [allOf, hms, hm]⟩

/-- The fields of a write within their ranges. -/
structure Stored (f : StationFields) (r : StationRecord) : Prop where
  role : some r.role = f.role
  zone : (r.zone.map fun z => z.val) = f.zone
  attachment : some r.attachment = f.attachment
  rxEnable : r.rxEnable = f.rxEnable
  policy : some r.policy = f.policy
  mirrorAllowed : r.mirrorAllowed = f.mirrorAllowed
  freshness : r.freshness = min 255 (max 1 f.freshness)
  checkTime : r.checkTime = leastListed stationCheckTimes f.checkTime
  silenceLimit : r.silenceLimit = min 255 f.silenceLimit
  silenceCode : (r.silenceCode.map fun c => c.val) = f.silenceCode
  maps : r.maps.map mapItems = f.maps.map fieldItems
  few : f.maps.length ≤ 4

theorem stored_of_stationOf {r : StationRecord} (h : stationOf f = some r) : Stored f r := by
  simp only [stationOf, Option.pure_def, Option.bind_eq_bind, Option.bind_eq_some_iff, Option.some.injEq] at h
  obtain ⟨role, hrole, zone, hzone, attachment, hattachment, policy, hpolicy, code, hcode, maps, hmaps, rfl⟩ := h
  unfold mapsOf at hmaps
  split at hmaps
  · next hfew =>
    exact
      { role := hrole.symm, zone := maybeIndex?_val hzone, attachment := hattachment.symm, rxEnable := rfl
        policy := hpolicy.symm, mirrorAllowed := rfl, freshness := rfl, checkTime := rfl
        silenceLimit := by simp [clamp], silenceCode := maybeIndex?_val hcode, maps := allOf_mapOf_items hmaps
        few := hfew }
  · cases hmaps

/-- A field outside its list or range. -/
def Outside (f : StationFields) : Prop :=
  f.role = none ∨ f.attachment = none ∨ f.policy = none ∨ (∃ z : Nat, f.zone = some z ∧ 8 ≤ z) ∨
    (∃ c : Nat, f.silenceCode = some c ∧ 64 ≤ c) ∨ 4 < f.maps.length ∨ ∃ m ∈ f.maps, 64 ≤ m.code

theorem Stored.not_outside {r : StationRecord} (h : Stored f r) : ¬Outside f := by
  rintro (hrole | hattachment | hpolicy | ⟨z, hz, hout⟩ | ⟨c, hc, hout⟩ | hmany | ⟨m, hm, hout⟩)
  · cases h.role.trans hrole
  · cases h.attachment.trans hattachment
  · cases h.policy.trans hpolicy
  · obtain ⟨y, -, rfl⟩ := Option.map_eq_some_iff.1 (h.zone.trans hz)
    omega
  · obtain ⟨d, -, rfl⟩ := Option.map_eq_some_iff.1 (h.silenceCode.trans hc)
    omega
  · exact absurd h.few (Nat.not_le.2 hmany)
  · have hitems : fieldItems m ∈ r.maps.map mapItems := by
      rw [h.maps]
      exact List.mem_map_of_mem hm
    obtain ⟨x, -, hx⟩ := List.mem_map.1 hitems
    have hcode : x.code.val = m.code := congrArg (fun p : Nat × Bool × Nat => p.2.2) hx
    omega

theorem stationOf_of_not_outside (h : ¬Outside f) : ∃ r, stationOf f = some r := by
  simp only [Outside, not_or, not_exists, not_and, Nat.not_le, Nat.not_lt] at h
  obtain ⟨hrole, hattachment, hpolicy, hzone, hcode, hfew, hmaps⟩ := h
  obtain ⟨role, hrole⟩ := Option.ne_none_iff_exists'.1 hrole
  obtain ⟨attachment, hattachment⟩ := Option.ne_none_iff_exists'.1 hattachment
  obtain ⟨policy, hpolicy⟩ := Option.ne_none_iff_exists'.1 hpolicy
  obtain ⟨zone, hzone⟩ := maybeIndex?_of_lt hzone
  obtain ⟨code, hcode⟩ := maybeIndex?_of_lt hcode
  obtain ⟨maps, hmaps⟩ := allOf_mapOf_of_lt hmaps
  have hmaps' : mapsOf f.maps = some maps := (if_pos hfew).trans hmaps
  simp [stationOf, hrole, hattachment, hpolicy, hzone, hcode, hmaps']

theorem stationOf_outside (h : Outside f) : stationOf f = none := by
  cases hf : stationOf f with
  | none => rfl
  | some r => exact absurd h (stored_of_stationOf hf).not_outside

end Fields

/-! ## The request -/

section Requests

variable {h : Header} {f : StationFields}

theorem exec_stationWrite_refused {n : Nat} {reason : Reason} (hrun : s.resetHeld = false) (hauth : 3 ≤ h.authority)
    (hj : judgeStationWrite n f s = .no reason) :
    exec (.stationWrite h n f) s = .next (answer h .stationWrite (.refused reason none) s) := by
  have hauth' : ¬authorityOf h < leastAuthority (.stationWrite n f) := by
    rw [authorityOf_lt_iff]
    exact Nat.not_lt.2 hauth
  refine (exec_request hrun (.stationWrite n f)).trans (congrArg _ ?_)
  exact (congrArg (serve h _ _ · s) hj).trans (serve_refused hauth')

theorem exec_stationWrite_range {n : Nat} (hrun : s.resetHeld = false) (hauth : 3 ≤ h.authority)
    (hout : n = 0 ∨ 255 ≤ n ∨ stationOf f = none) :
    exec (.stationWrite h n f) s = .next (answer h .stationWrite (.refused .range none) s) := by
  refine exec_stationWrite_refused hrun hauth ?_
  unfold judgeStationWrite
  have hnone : addr? n = none ∨ stationOf f = none := by
    rcases hout with hzero | hbig | hf
    · exact .inl (addr?_of_outside (.inl hzero))
    · exact .inl (addr?_of_outside (.inr hbig))
    · exact .inr hf
  split
  · next ha hr =>
    rcases hnone with hn | hn
    · cases ha.symm.trans hn
    · cases hr.symm.trans hn
  · rfl

theorem judgeStationWrite_refused {reason : Reason} (hf : stationOf f = some r)
    (hrefused : stationWriteRefusal s a r = some reason) : judgeStationWrite (a.val + 1) f s = .no reason := by
  simp only [judgeStationWrite, addr?_succ, hf, hrefused]

theorem judgeStationWrite_taken (hf : stationOf f = some r) (hfree : stationWriteRefusal s a r = none) :
    judgeStationWrite (a.val + 1) f s = .yes (writeStation a r s) (.stationStored r) := by
  simp only [judgeStationWrite, addr?_succ, hf, hfree]

theorem exec_stationWrite_busy {reason : Reason} (hrun : s.resetHeld = false) (hauth : 3 ≤ h.authority)
    (hf : stationOf f = some r) (hrefused : stationWriteRefusal s a r = some reason) :
    exec (.stationWrite h (a.val + 1) f) s = .next (answer h .stationWrite (.refused reason none) s) :=
  exec_stationWrite_refused hrun hauth (judgeStationWrite_refused hf hrefused)

theorem exec_stationWrite_done (hrun : s.resetHeld = false) (hauth : 3 ≤ h.authority) (hf : stationOf f = some r)
    (hfree : stationWriteRefusal s a r = none) :
    exec (.stationWrite h (a.val + 1) f) s =
      .next (answer h .stationWrite (.done (.stationStored r)) (settle (writeStation a r s))) := by
  have hauth' : ¬authorityOf h < leastAuthority (.stationWrite (a.val + 1) f) := by
    rw [authorityOf_lt_iff]
    exact Nat.not_lt.2 hauth
  refine (exec_request hrun (.stationWrite (a.val + 1) f)).trans (congrArg _ ?_)
  exact (congrArg (serve h _ _ · s) (judgeStationWrite_taken hf hfree)).trans (serve_taken hauth')

theorem stationWriteRefusal_config (h : s.device = .config) : stationWriteRefusal s a r = none := if_pos h

theorem stationWriteRefusal_service (h : s.device ≠ .config) :
    stationWriteRefusal s a r =
      if s.owners.get a ≠ .free then some .busy
      else if r.role ≠ (s.stations.get a).role then some .state
      else none := if_neg h

end Requests

end StationWrite

/-- Settles O18: a write that keeps the role and one that changes it leave a `Rewritten` station; the fields outside
their ranges are those that `stationOf` refuses. -/
theorem stationWriteJudged : Obligations.StationWriteJudged := by
  unfold Obligations.StationWriteJudged
  refine ⟨⟨?config, ?service⟩, ?fields, fun s h n f hrun hauth hout => exec_stationWrite_range hrun hauth hout⟩
  case config =>
    intro s h a f r hrun hauth hconfig hf old d e l
    refine ⟨writeStation a r s, exec_stationWrite_done hrun hauth hf (stationWriteRefusal_config hconfig), ?_⟩
    by_cases hrole : r.role = old.role
    · have hwritten := rewritten_same_role hrole
      have he : e = d.settled r.checkTime := if_pos hrole
      refine ⟨he ▸ hwritten.stationDyn, fun hne => absurd hrole hne, hwritten.mirror, he ▸ hwritten.counts,
        fun c _ => hwritten.mapCond c, fun _ => ?_, fun hne => absurd hrole hne, hwritten.kept⟩
      rw [← timerReports_eq]
      exact hwritten.frame
    · have hwritten := rewritten_new_role hrole
      have he : e = StationDyn.powerOn r.checkTime := if_neg hrole
      refine ⟨he ▸ hwritten.stationDyn, fun _ => ?_, hwritten.mirror, he ▸ hwritten.counts,
        fun c _ => hwritten.mapCond c, fun hsame => absurd hsame hrole, fun _ => ?_, hwritten.kept⟩
      · rw [hwritten.frame]
        rfl
      · rw [hwritten.stationDyn]
        have howners : (writeStation a r s).owners = Tab.put s.owners a .free := by
          rw [hwritten.frame]
          rfl
        rw [howners]
        exact hwritten.frame
  case service =>
    intro s h a f r hrun hauth hservice hf
    refine ⟨fun howner => ?_, fun hfree hrole => ?_, fun hfree hrole => ?_⟩
    · refine exec_stationWrite_busy hrun hauth hf ?_
      rw [stationWriteRefusal_service hservice, if_pos howner]
    · refine exec_stationWrite_busy hrun hauth hf ?_
      rw [stationWriteRefusal_service hservice, if_neg (not_not.2 hfree), if_pos hrole]
    · have hwritten := rewritten_same_role hrole
      refine ⟨writeStation a r s, exec_stationWrite_done hrun hauth hf ?_, ?_, ?_, ?_, ?_⟩
      · rw [stationWriteRefusal_service hservice, if_neg (not_not.2 hfree), if_neg (not_not.2 hrole)]
      · exact congrArg Kept.stations hwritten.kept
      · rw [hwritten.stationDyn, Tab.get_put_self]
        rfl
      · rw [hwritten.stationDyn, Tab.get_put_self]
        rfl
      · rw [← timerReports_eq]
        exact hwritten.frame
  case fields =>
    intro f
    refine ⟨stationOf_outside, fun hinside => ?_⟩
    obtain ⟨r, hr⟩ := stationOf_of_not_outside hinside
    have hstored := stored_of_stationOf hr
    exact ⟨r, hr, hstored.role, hstored.zone, hstored.attachment, hstored.rxEnable, hstored.policy,
      hstored.mirrorAllowed, hstored.freshness, hstored.checkTime.trans (leastListed_stationCheckTimes _),
      hstored.silenceLimit, hstored.silenceCode, hstored.maps⟩

end Sys2Proof.Machine
end

section

set_option Elab.async false

namespace Sys2Proof.Machine

/-! # An expiry of the supervision clock, station by station (R34, R36, R37, R46, R49) -/

section Supervision

variable {s t u : State} {a b : Addr} {i : Fin 64}

/-! ## What the walks over the stations do to the station at hand -/

/-- The station counts, and the count reaches its limit. -/
def fallsSilent (s : State) (a : Addr) : Bool :=
  isSupervised s a && isHeard s a && decide ((s.stations.get a).silenceLimit ≤ (s.stationDyn.get a).silence + 1)

/-- A station's items after its silence has been counted. -/
def State.silenced (s : State) (a : Addr) : StationDyn :=
  let d := s.stationDyn.get a
  { d with
    silence := if (isSupervised s a && isHeard s a) = true then min 255 (d.silence + 1) else d.silence
    status := if fallsSilent s a = true then .silent else d.status }

/-- A station's items after its sample countdown. -/
def State.sampled (s : State) (a : Addr) : StationDyn :=
  let d := s.stationDyn.get a
  if (s.stations.get a).checkTime = 0 then d
  else if 2 ≤ d.countdown then { d with countdown := d.countdown - 1 }
  else
    { d with
      countdown := (s.stations.get a).checkTime / 100
      candidates := (d.raw ^^^ d.filtered) &&& ~~~d.candidates
      filtered := d.filtered ^^^ ((d.raw ^^^ d.filtered) &&& d.candidates) }

theorem fallsSilent_congr (hstations : t.stations = s.stations) (hdyn : t.stationDyn.get a = s.stationDyn.get a) :
    fallsSilent t a = fallsSilent s a := by
  simp only [fallsSilent, isSupervised, inUse, isHeard, hstations, hdyn]

theorem silenced_congr (hstations : t.stations = s.stations) (hdyn : t.stationDyn.get a = s.stationDyn.get a) :
    t.silenced a = s.silenced a := by
  unfold State.silenced fallsSilent isSupervised inUse isHeard
  rw [hstations, hdyn]

theorem sampled_congr (hstations : t.stations = s.stations) (hdyn : t.stationDyn.get a = s.stationDyn.get a) :
    t.sampled a = s.sampled a := by
  simp only [State.sampled, hstations, hdyn]

theorem withStationDyn_self : s.withStationDyn a (s.stationDyn.get a) = s :=
  congrArg (fun d => { s with stationDyn := d }) (Tab.put_get s.stationDyn a)

protected theorem Untouched.supervisionReport (h : Untouched s t) {silent : Bool} :
    Untouched s (supervisionReport a silent t) :=
  h.trans (.of_core (Orderly.refl.supervisionReport).frame)

theorem fallsSilent_iff :
    fallsSilent s a = true ↔ (isSupervised s a && isHeard s a) = true ∧
      (s.stations.get a).silenceLimit ≤ (s.stationDyn.get a).silence + 1 := by
  rw [fallsSilent, Bool.and_eq_true (isSupervised s a && isHeard s a), decide_eq_true_eq]

theorem silenced_idle (h : ¬(isSupervised s a && isHeard s a) = true) : s.silenced a = s.stationDyn.get a := by
  have hstays : ¬fallsSilent s a = true := fun hfalls => h (fallsSilent_iff.1 hfalls).1
  simp only [State.silenced, h, hstays, if_false, Bool.false_eq_true]

theorem silenced_below (h : (isSupervised s a && isHeard s a) = true) (hstays : ¬fallsSilent s a = true) :
    s.silenced a = (s.stationDyn.get a).risen := by
  simp only [State.silenced, h, hstays, if_true, if_false, StationDyn.risen, Bool.false_eq_true]

theorem silenced_falls (h : fallsSilent s a = true) :
    s.silenced a = { (s.stationDyn.get a).risen with status := .silent } := by
  simp only [State.silenced, (fallsSilent_iff.1 h).1, h, if_true, StationDyn.risen]

/-- Of what no job changes, the silence count of a station changes the station's items and its copy alone. -/
theorem countSilence_untouched : Untouched (s.withStationDyn a (s.silenced a)) (countSilence a s) := by
  by_cases hcounts : (isSupervised s a && isHeard s a) = true
  · by_cases hfalls : fallsSilent s a = true
    · rw [silenced_falls hfalls, countSilence_falls hcounts (fallsSilent_iff.1 hfalls).2]
      have htold : Untouched (s.fallen a) (supervisionReport a true (s.fallen a)) := Untouched.refl.supervisionReport
      exact (htold.trans invalidateStation_untouched).raiseInternal
    · have hbelow : (s.stationDyn.get a).silence + 1 < (s.stations.get a).silenceLimit :=
        Nat.lt_of_not_le fun hlimit => hfalls (fallsSilent_iff.2 ⟨hcounts, hlimit⟩)
      rw [silenced_below hcounts hfalls, countSilence_below hcounts hbelow]
      exact .refl
  · rw [silenced_idle hcounts, withStationDyn_self, countSilence_idle hcounts]
    exact .refl

theorem countSample_untouched : Untouched (s.withStationDyn a (s.sampled a)) (countSample a s) := by
  unfold State.sampled
  dsimp only
  by_cases hcheck : (s.stations.get a).checkTime = 0
  · rw [if_pos hcheck, withStationDyn_self, countSample_unfiltered hcheck]
    exact .refl
  · rw [if_neg hcheck]
    by_cases hcount : 2 ≤ (s.stationDyn.get a).countdown
    · rw [if_pos hcount, countSample_waits hcheck hcount]
      exact .refl
    · rw [if_neg hcount, countSample_ends hcheck (by omega)]
      have hpoints := Untouched.pointsBecome (t := s.withStationDyn a
        { s.stationDyn.get a with
          countdown := (s.stations.get a).checkTime / 100
          candidates := ((s.stationDyn.get a).raw ^^^ (s.stationDyn.get a).filtered) &&& ~~~(s.stationDyn.get a).candidates })
        a ((s.stationDyn.get a).filtered ^^^
          (((s.stationDyn.get a).raw ^^^ (s.stationDyn.get a).filtered) &&& (s.stationDyn.get a).candidates))
      refine Untouched.trans (t := State.modStation _ a _) ?_ hpoints
      simp only [State.modStation, State.withStationDyn, Tab.upd, Tab.get_put_self, Tab.put_put]
      exact .refl

/-! ## What an expiry leaves unchanged -/

/-- Of what no job changes, the stations' items, the mirror, the map counts and the timers alone may differ. -/
def Supervised (s t : State) : Prop :=
  t.kept =
    { s.kept with
      stationDyn := t.stationDyn, mirror := t.mirror, mapCounts := t.mapCounts, timerDyn := t.timerDyn }

namespace Supervised

protected theorem refl : Supervised s s := rfl

protected theorem trans (h : Supervised s t) (k : Supervised t u) : Supervised s u := by
  unfold Supervised at *
  rw [k, h]

theorem of_untouched (h : Untouched s t) : Supervised s t := by
  have hdyn := h.stationDyn
  unfold Supervised
  rw [hdyn]
  exact h

theorem of_withStationDyn {d : StationDyn} (h : Untouched (s.withStationDyn a d) t) : Supervised s t :=
  Supervised.trans (t := s.withStationDyn a d) rfl (of_untouched h)

protected theorem foldl {α : Type} {l : List α} {f : State → α → State} (h : Supervised s t)
    (hf : ∀ t x, Supervised t (f t x)) : Supervised s (l.foldl f t) := by
  induction l generalizing t with
  | nil => exact h
  | cons x l ih => exact ih (h.trans (hf t x))

theorem stations (h : Supervised s t) : t.stations = s.stations := congrArg Kept.stations h

end Supervised

/-- A walk over the stations that changes the items of the station at hand alone leaves each with its own change. -/
theorem foldl_stations_get {f : Addr → State → State} {g : State → Addr → StationDyn}
    (hf : ∀ s a, Untouched (s.withStationDyn a (g s a)) (f a s))
    (hg : ∀ (s t : State) a, t.stations = s.stations → t.stationDyn.get a = s.stationDyn.get a → g t a = g s a) :
    ((List.finRange 254).foldl (fun t a => f a t) s).stationDyn.get a = g s a := by
  obtain ⟨u, hu, ht⟩ := foldl_finRange_view (f := fun t a => f a t)
    (view := fun t : State => (t.stations, t.stationDyn.get a)) a
    (fun t b hb => Prod.ext (hf t b).stations (by
      dsimp only
      rw [(hf t b).stationDyn]
      exact Tab.get_put_of_ne _ hb _)) s
  obtain ⟨hstations, hdyn⟩ := Prod.mk.inj hu
  have hlast : ((List.finRange 254).foldl (fun t a => f a t) s).stationDyn.get a = (f a u).stationDyn.get a :=
    congrArg Prod.snd ht
  rw [hlast, (hf u a).stationDyn]
  exact (Tab.get_put_self ..).trans (hg s u a hstations hdyn)

/-! ## The mirror -/

theorem pointsBecome_mirror (a : Addr) (points : Word16) : (pointsBecome a points s).mirror = s.mirror := by
  by_cases hsame : (s.stationDyn.get a).filtered = points
  · rw [pointsBecome_same hsame.symm]
  · rw [pointsBecome_changed hsame]
    dsimp only
    generalize htold : timerReports a (s.stationDyn.get a).filtered points _ = told
    have hmirror : told.mirror = s.mirror := by
      subst htold
      rw [mirror_of_watched (timerReports_watched ..), mirror_of_watched (roleReport_watched ..)]
      rfl
    split
    · exact hmirror
    · exact (MapsJudged.foldl (fun t m => judgeMap_mapsJudged (s := t) a _ _ m) _).mirror.trans hmirror

theorem countSample_mirror : (countSample a s).mirror = s.mirror := by
  by_cases hcheck : (s.stations.get a).checkTime = 0
  · rw [countSample_unfiltered hcheck]
  · by_cases hcount : 2 ≤ (s.stationDyn.get a).countdown
    · rw [countSample_waits hcheck hcount]
      rfl
    · rw [countSample_ends hcheck (by omega)]
      exact pointsBecome_mirror a _

/-- A line holds the copy of a station when it is valid at the station's index with the station's tag. -/
theorem lineStation_eq_iff (l : MirrorLine) : lineStation i l = some a ↔ mirrorIndex a = i ∧ l.tag = mirrorTag a := by
  have hlt := i.isLt
  rw [lineStation_eq_some_iff]
  simp only [Fin.ext_iff, mirrorIndex, mirrorTag, address]
  omega

/-- The line shows the copy of a station that has fallen silent no more. -/
def MirrorLine.gone (l : MirrorLine) : MirrorLine := { l with valid := false }

theorem MirrorLine.gone_of_invalid {l : MirrorLine} (h : l.valid = false) : l.gone = l := by
  cases l
  cases h
  rfl

theorem invalidateStation_get :
    (invalidateStation a s).mirror.get i =
      if lineStation i (s.mirror.get i) = some a then (s.mirror.get i).gone else s.mirror.get i := by
  simp only [lineStation_eq_iff]
  rw [invalidateStation_eq]
  by_cases hi : mirrorIndex a = i
  · subst hi
    by_cases htag : (s.mirror.get (mirrorIndex a)).tag = mirrorTag a
    · by_cases hvalid : (s.mirror.get (mirrorIndex a)).valid = true
      · simp [htag, hvalid, MirrorLine.gone]
      · have hinvalid : (s.mirror.get (mirrorIndex a)).valid = false := by simpa using hvalid
        simp [htag, hinvalid, MirrorLine.gone_of_invalid hinvalid]
    · simp [htag]
  · split
    · simp [hi]
    · simp [hi]

theorem countSilence_mirror :
    (countSilence a s).mirror.get i =
      if lineStation i (s.mirror.get i) = some a ∧ fallsSilent s a = true then (s.mirror.get i).gone
      else s.mirror.get i := by
  by_cases hfalls : fallsSilent s a = true
  · obtain ⟨hcounts, hlimit⟩ := fallsSilent_iff.1 hfalls
    have hmirror : (supervisionReport a true (s.fallen a)).mirror = s.mirror := supervisionReport_mirror true
    rw [countSilence_falls hcounts hlimit, raiseInternal_mirror, invalidateStation_get, hmirror]
    simp [hfalls]
  · rw [if_neg fun h => hfalls h.2]
    by_cases hcounts : (isSupervised s a && isHeard s a) = true
    · rw [countSilence_below hcounts (Nat.lt_of_not_le fun hlimit => hfalls (fallsSilent_iff.2 ⟨hcounts, hlimit⟩))]
      rfl
    · rw [countSilence_idle hcounts]

/-- The copies of all stations that fall silent go. -/
theorem foldl_countSilence_mirror (l : List Addr) (hl : l.Nodup) :
    (l.foldl (fun t a => countSilence a t) s).mirror.get i =
      if ∃ a ∈ l, lineStation i (s.mirror.get i) = some a ∧ fallsSilent s a = true then (s.mirror.get i).gone
      else s.mirror.get i := by
  induction l generalizing s with
  | nil => simp
  | cons b l ih =>
    obtain ⟨hb, hl⟩ := List.nodup_cons.1 hl
    have htag : lineStation i ((countSilence b s).mirror.get i) = lineStation i (s.mirror.get i) := by
      rw [countSilence_mirror]
      split <;> rfl
    have hfalls (a : Addr) (ha : a ∈ l) : fallsSilent (countSilence b s) a = fallsSilent s a := by
      have hba : b ≠ a := fun h => hb (h ▸ ha)
      refine fallsSilent_congr countSilence_untouched.stations ?_
      rw [countSilence_untouched.stationDyn]
      exact Tab.get_put_of_ne _ hba _
    have hrest : (∃ a ∈ l, lineStation i (s.mirror.get i) = some a ∧ fallsSilent (countSilence b s) a = true) ↔
        ∃ a ∈ l, lineStation i (s.mirror.get i) = some a ∧ fallsSilent s a = true :=
      exists_congr fun a => and_congr_right fun ha => by rw [hfalls a ha]
    rw [List.foldl_cons, ih hl]
    simp only [htag, hrest]
    simp only [countSilence_mirror, List.mem_cons, exists_eq_or_imp]
    by_cases hfirst : lineStation i (s.mirror.get i) = some b ∧ fallsSilent s b = true
    · simp [hfirst, MirrorLine.gone]
    · simp [hfirst]

/-! ## The expiry as a whole -/

/-- The state in which the silences have been counted. -/
def State.counted (s : State) : State :=
  (List.finRange 254).foldl (fun t a => countSilence a t)
    { s with supervisionDue := nextMultiple supervisionPeriod s.now }

/-- The state in which the stations have also been sampled. -/
def State.countedAndSampled (s : State) : State := (List.finRange 254).foldl (fun t a => countSample a t) s.counted

theorem counted_stationDyn : s.counted.stationDyn.get a = s.silenced a :=
  foldl_stations_get (f := countSilence) (g := State.silenced) (fun _ _ => countSilence_untouched)
    (fun _ _ _ hstations hdyn => silenced_congr hstations hdyn)

theorem supervised_counted :
    Supervised { s with supervisionDue := nextMultiple supervisionPeriod s.now } s.counted :=
  Supervised.refl.foldl fun _ _ => .of_withStationDyn countSilence_untouched

theorem superviseAll_eq :
    superviseAll s =
      (List.finRange 8).foldl (fun t z => recoverLine z t) (reofferBusy (ageMirror s.countedAndSampled)) := rfl

theorem foldl_recoverLine_core (l : List ZoneId) : (l.foldl (fun t z => recoverLine z t) s).core = s.core := by
  induction l generalizing s with
  | nil => rfl
  | cons z l ih => exact ih.trans (Orderly.refl.recoverLine).frame

theorem reofferBusy_core : (reofferBusy s).core = s.core := rfl
theorem ageMirror_stationDyn : (ageMirror s).stationDyn = s.stationDyn := rfl
theorem supervised_ageMirror : Supervised s (ageMirror s) := rfl

theorem stationDyn_of_core (h : t.core = s.core) : t.stationDyn = s.stationDyn := congrArg (·.1.stationDyn) h
theorem mirror_of_core (h : t.core = s.core) : t.mirror = s.mirror := congrArg (·.1.mirror) h

/-- After the ageing of the mirror nothing changes what no job changes. -/
theorem superviseAll_core : (superviseAll s).core = (ageMirror s.countedAndSampled).core := by
  rw [superviseAll_eq, foldl_recoverLine_core, reofferBusy_core]

theorem superviseAll_stationDyn :
    (superviseAll s).stationDyn.get a = (s.withStationDyn a (s.silenced a)).sampled a := by
  have hdyn : (superviseAll s).stationDyn = s.countedAndSampled.stationDyn :=
    (stationDyn_of_core superviseAll_core).trans ageMirror_stationDyn
  rw [hdyn]
  refine (foldl_stations_get (f := countSample) (g := State.sampled) (fun _ _ => countSample_untouched)
    fun _ _ _ hstations hdyn => sampled_congr hstations hdyn).trans (sampled_congr supervised_counted.stations ?_)
  rw [counted_stationDyn]
  exact (Tab.get_put_self ..).symm

theorem superviseAll_mirror :
    (superviseAll s).mirror.get i =
      let l := s.mirror.get i
      if l.valid = false then l
      else if ∃ a, lineStation i l = some a ∧ fallsSilent s a = true then l.gone
      else { l with age := min 255 (l.age + 1) } := by
  have hmirror : (superviseAll s).mirror = (ageMirror s.countedAndSampled).mirror := mirror_of_core superviseAll_core
  have hsampled : s.countedAndSampled.mirror = s.counted.mirror := by
    have hwalk (l : List Addr) (t : State) : (l.foldl (fun t a => countSample a t) t).mirror = t.mirror := by
      induction l generalizing t with
      | nil => rfl
      | cons a l ih => exact (ih _).trans countSample_mirror
    exact hwalk (List.finRange 254) s.counted
  have hcounted : s.counted.mirror.get i =
      if ∃ a, lineStation i (s.mirror.get i) = some a ∧ fallsSilent s a = true then (s.mirror.get i).gone
      else s.mirror.get i := by
    refine (foldl_countSilence_mirror (List.finRange 254) (List.nodup_finRange 254)).trans ?_
    simp only [List.mem_finRange, true_and]
    rfl
  rw [hmirror, ageMirror_eq, Tab.get_of, hsampled, hcounted]
  dsimp only
  by_cases hgone : ∃ a, lineStation i (s.mirror.get i) = some a ∧ fallsSilent s a = true
  · rw [if_pos hgone, if_pos hgone]
    cases hvalid : (s.mirror.get i).valid with
    | false => simp [MirrorLine.gone_of_invalid hvalid, hvalid]
    | true => simp [MirrorLine.gone]
  · rw [if_neg hgone, if_neg hgone]
    cases (s.mirror.get i).valid <;> rfl

theorem superviseAll_supervised :
    Supervised { s with supervisionDue := nextMultiple supervisionPeriod s.now } (superviseAll s) := by
  have hsampled : Supervised s.counted s.countedAndSampled :=
    Supervised.refl.foldl fun _ _ => .of_withStationDyn countSample_untouched
  exact supervised_counted.trans (hsampled.trans (supervised_ageMirror.trans
    (.of_untouched (.of_core superviseAll_core))))

/-! ## A sample, point by point (R34) -/

/-- What a sample does to one point. -/
theorem sample_bit (raw old seen : Word16) (n : Fin 16) :
    let filtered := old ^^^ ((raw ^^^ old) &&& seen)
    let candidates := (raw ^^^ old) &&& ~~~seen
    (raw.getLsbD n.val = old.getLsbD n.val →
      filtered.getLsbD n.val = old.getLsbD n.val ∧ candidates.getLsbD n.val = false) ∧
    (raw.getLsbD n.val ≠ old.getLsbD n.val → seen.getLsbD n.val = false →
      filtered.getLsbD n.val = old.getLsbD n.val ∧ candidates.getLsbD n.val = true) ∧
    (raw.getLsbD n.val ≠ old.getLsbD n.val → seen.getLsbD n.val = true →
      filtered.getLsbD n.val = raw.getLsbD n.val ∧ candidates.getLsbD n.val = false) := by
  have hn := n.isLt
  simp only [BitVec.getLsbD_xor, BitVec.getLsbD_and, BitVec.getLsbD_not, hn, decide_true, Bool.true_and]
  cases raw.getLsbD n.val <;> cases old.getLsbD n.val <;> cases seen.getLsbD n.val <;> decide

end Supervision

/-- Settles O17: the walks over the stations leave each with its own silence count and sample, the mirror line by line
without the copies of the stations that fall silent, and the rest untouched (`Supervised`). -/
theorem supervisionExpiry : Obligations.SupervisionExpiry := by
  unfold Obligations.SupervisionExpiry
  intro s hrun counts falls
  have hcounts (a : Addr) : counts a ↔ (isSupervised s a && isHeard s a) = true := supervised_iff.symm
  have hfalls (a : Addr) : falls a ↔ fallsSilent s a = true := by
    rw [fallsSilent_iff, ← hcounts]
  refine ⟨superviseAll s, concluded_eq hrun rfl, fun a => ?_, fun i => ?_, superviseAll_supervised⟩
  · intro check d e
    have he : e = (s.withStationDyn a (s.silenced a)).sampled a := superviseAll_stationDyn
    have hd : (s.withStationDyn a (s.silenced a)).stationDyn.get a = s.silenced a := Tab.get_put_self ..
    have hsilence : e.raw = d.raw ∧ e.condition = d.condition ∧ e.value = d.value ∧
        e.silence = (s.silenced a).silence ∧ e.status = (s.silenced a).status := by
      rw [he, State.sampled, hd]
      split
      · exact ⟨rfl, rfl, rfl, rfl, rfl⟩
      · split <;> exact ⟨rfl, rfl, rfl, rfl, rfl⟩
    obtain ⟨hraw, hcondition, hvalue, hcount, hstatus⟩ := hsilence
    refine ⟨hraw, hcondition, hvalue, fun h => ?_, fun h => ?_, fun h => ?_, fun h => ?_, fun hcheck => ?_,
      fun hcheck hlong => ?_, fun hcheck hshort => ?_⟩
    · exact hcount.trans (if_pos ((hcounts a).1 h))
    · exact hcount.trans (if_neg (mt (hcounts a).2 h))
    · exact hstatus.trans (if_pos ((hfalls a).1 h))
    · exact hstatus.trans (if_neg (mt (hfalls a).2 h))
    · have hsampled : e = s.silenced a := he.trans ((if_pos hcheck).trans hd)
      rw [hsampled]
      exact ⟨rfl, rfl, rfl⟩
    · have hsampled : e = { s.silenced a with countdown := (s.silenced a).countdown - 1 } := by
        rw [he, State.sampled, hd]
        exact (if_neg hcheck).trans (if_pos hlong)
      rw [hsampled]
      exact ⟨rfl, rfl, rfl⟩
    · have hnot : ¬2 ≤ d.countdown := by omega
      have hsampled : e =
          { s.silenced a with
            countdown := check / 100
            candidates := (d.raw ^^^ d.filtered) &&& ~~~d.candidates
            filtered := d.filtered ^^^ ((d.raw ^^^ d.filtered) &&& d.candidates) } := by
        rw [he, State.sampled, hd]
        exact (if_neg hcheck).trans (if_neg hnot)
      rw [hsampled]
      exact ⟨rfl, fun n => sample_bit d.raw d.filtered d.candidates n⟩
  · intro l gone
    have hgone : gone ↔ ∃ a, lineStation i l = some a ∧ fallsSilent s a = true :=
      exists_congr fun a => and_congr_right fun _ => hfalls a
    have hline := superviseAll_mirror (s := s) (i := i)
    refine ⟨fun hvalid => hline.trans (if_pos hvalid), fun hvalid h => hline.trans ?_, fun hvalid h => hline.trans ?_⟩
    · have hnot : ¬(s.mirror.get i).valid = false := ne_false_of_eq_true hvalid
      exact (if_neg hnot).trans (if_pos (hgone.1 h))
    · have hnot : ¬(s.mirror.get i).valid = false := ne_false_of_eq_true hvalid
      exact (if_neg hnot).trans (if_neg (mt hgone.2 h))

end Sys2Proof.Machine
end

section

set_option Elab.async false

namespace Sys2Proof.Machine

/-! # The close of a zone (R111, R112, R114, R118) -/

/-! ## A zone that awaits no call, through the arbitration -/

/-- A zone in a procedure that awaits no call keeps its items: no notice is for it, and it has no rest state to take. -/
def unawaitedInvariant (z : ZoneId) (d : ZoneDyn) (hcall : d.callRef = none) (hactive : d.state.isRest = false) :
    ArbiterInvariant where
  Holds s := s.zoneDyn.get z = d
  okLine _ := True
  okZone y := y ≠ z
  of_eq h _ _ _ hzones := by rwa [hzones]
  modZoneLine h _ := h
  setOwner h _ := h
  modCall h _ := h
  removeCall h := h
  modZone h hy := by
    refine Eq.trans ?_ h
    simp [State.modZone, hy]
  carried _ _ := trivial
  sound _ _ := trivial
  resting h hrest := by
    rintro rfl
    rw [h, hactive] at hrest
    exact Bool.false_ne_true hrest
  awaiting h href := by
    rintro rfl
    rw [h, hcall] at href
    cases href

theorem cancelCall_zoneDyn {s : State} {z : ZoneId} {o : CallOrigin} {m : MsgId}
    (hcall : (s.zoneDyn.get z).callRef = none) (hactive : (s.zoneDyn.get z).state.isRest = false) :
    (cancelCall o m s).2.zoneDyn.get z = s.zoneDyn.get z :=
  ArbiterInvariant.Holds.cancelCall (inv := unawaitedInvariant z (s.zoneDyn.get z) hcall hactive) rfl

/-! ## A job's command does not see the doors -/

section SetDoors

variable {s : State} {doors : Vector DoorDyn 24}

/-- The doors' items become `doors`. -/
def State.setDoors (s : State) (doors : Vector DoorDyn 24) : State := { s with doorDyn := doors }

theorem ite_setDoors {c : Prop} [Decidable c] {t u : State} :
    (if c then t.setDoors doors else u.setDoors doors) = (if c then t else u).setDoors doors :=
  (apply_ite (·.setDoors doors) c t u).symm

theorem raiseCode_setDoors (x : Activation) : raiseCode x (s.setDoors doors) = (raiseCode x s).setDoors doors := by
  unfold raiseCode
  simp only [← ite_setDoors]
  rfl

theorem raiseInternal_setDoors (c : Option Code) (a : Option Addr) (z : Option ZoneId) (w : Word16) :
    raiseInternal c a z w (s.setDoors doors) = (raiseInternal c a z w s).setDoors doors := by
  cases c with
  | none => rfl
  | some c => exact raiseCode_setDoors _

theorem raiseMark_setDoors (set : CounterSet) (i : CounterId) (mark : Nat) :
    raiseMark set i mark (s.setDoors doors) = (raiseMark set i mark s).setDoors doors := by
  unfold raiseMark
  simp only [← ite_setDoors, ← raiseInternal_setDoors]
  rfl

theorem bump_setDoors (set : CounterSet) (i : CounterId) (n : Nat) :
    bump set i n (s.setDoors doors) = (bump set i n s).setDoors doors := by
  unfold bump
  simp only [← ite_setDoors, ← raiseMark_setDoors]
  rfl

theorem startTransmission_setDoors (p : Port) :
    startTransmission p (s.setDoors doors) = (startTransmission p s).setDoors doors := by
  have hport : (s.setDoors doors).port p = s.port p := rfl
  unfold startTransmission
  rw [hport]
  dsimp only
  split
  · split <;> rfl
  · rfl

theorem sendTx_setDoors (p : Port) (cls : TxClass) (f : TxFrame) :
    sendTx p cls f (s.setDoors doors) = (sendTx p cls f s).setDoors doors := by
  have hport : (s.setDoors doors).port p = s.port p := rfl
  have hrefuses : txRefuses p cls (s.setDoors doors) = txRefuses p cls s := rfl
  unfold sendTx offerTx
  rw [hport, hrefuses]
  dsimp only
  split
  · rfl
  · split
    · exact bump_setDoors ..
    · exact startTransmission_setDoors (s := s.modPort p fun u => { u with tx := u.tx ++ [⟨cls, f⟩] }) p

theorem jobCommand?_setDoors (a : Option Addr) (p : List Byte) :
    jobCommand? a p (s.setDoors doors) = (jobCommand? a p s).setDoors doors := by
  cases a with
  | none => rfl
  | some a =>
    have hsteer : steer a (s.setDoors doors) = steer a s := rfl
    show jobCommand a p _ = (jobCommand a p s).setDoors doors
    unfold jobCommand
    rw [hsteer]
    split
    · exact sendTx_setDoors ..
    · exact bump_setDoors ..

end SetDoors

section Members

variable {s t : State} {z : ZoneId} {d e : DoorId} {a : Addr}

theorem mem_members : d ∈ members s z ↔ (s.doors.get d).station.isSome = true ∧ (s.doors.get d).zone = z := by
  simp [members]

theorem nodup_members : (members s z).Nodup := (List.nodup_finRange 24).filter _

/-! ## Claims of the members' stations (R112) -/

/-- A refused claim changes nothing. -/
theorem claim_of_refused {o : Owner} (h : ¬(claim a o s).1 = true) : (claim a o s).2 = s := by
  obtain ⟨hfree, hother⟩ := not_or.1 (mt (claim_granted s a o).2 h)
  exact congrArg Prod.snd ((if_neg hfree).trans (if_neg hother))

/-- The claim of one member door's station. -/
def claimMember (z : ZoneId) (s : State) (d : DoorId) : State :=
  let q := claimDoor z d s
  q.2.modDoor d fun x => { x with obstructions := 0, warned := false, skipped := if q.1 then .no else .claim }

/-- The owners after the claim of one station. -/
def State.claimed (s : State) (a : Addr) (z : ZoneId) : Vector Owner 254 :=
  if s.owners.get a = .free ∨ s.owners.get a = .zone z then Tab.put s.owners a (.zone z) else s.owners

/-- A door's items once its station has been claimed. -/
def State.claimedDoor (s : State) (a : Addr) (z : ZoneId) (d : DoorId) : DoorDyn :=
  { s.doorDyn.get d with
    obstructions := 0, warned := false
    skipped := if s.owners.get a = .free ∨ s.owners.get a = .zone z then .no else .claim }

theorem claimMember_of_station (h : (s.doors.get d).station = some a) :
    claimMember z s d =
      { s with owners := s.claimed a z, doorDyn := Tab.put s.doorDyn d (s.claimedDoor a z d) } := by
  have hclaim : claimDoor z d s = claim a (.zone z) s := by
    unfold claimDoor doorStation
    rw [h]
  unfold claimMember
  rw [hclaim]
  dsimp only
  by_cases hgranted : s.owners.get a = .free ∨ s.owners.get a = .zone z
  · have hyes : (claim a (.zone z) s).1 = true := (claim_granted s a _).2 hgranted
    rw [State.claimed, State.claimedDoor, claim_of_granted s a _ hyes, if_pos hgranted, if_pos hgranted]
    simp only [hyes]
    rfl
  · have hno : ¬(claim a (.zone z) s).1 = true := mt (claim_granted s a _).1 hgranted
    rw [State.claimed, State.claimedDoor, claim_of_refused hno, if_neg hgranted, if_neg hgranted]
    simp only [hno]
    rfl

/-- Between `s` and `t` only owners and doors differ. -/
def OwnersAndDoors (s t : State) : Prop := t = { s with owners := t.owners, doorDyn := t.doorDyn }

theorem claimMember_ownersAndDoors (h : OwnersAndDoors s t) (hd : d ∈ members s z) :
    OwnersAndDoors s (claimMember z t d) := by
  have hdoors : t.doors = s.doors := by rw [h]
  obtain ⟨a, ha⟩ := Option.isSome_iff_exists.1 (mem_members.1 hd).1
  rw [claimMember_of_station (a := a) (by rw [hdoors, ha]), OwnersAndDoors, h]

/-- A walk of claims over doors of different stations reaches each door and each station once. -/
theorem claimMembers_spec
    (hdistinct : ∀ d e : DoorId, d ∈ members s z → e ∈ members s z →
      (s.doors.get d).station = (s.doors.get e).station → d = e) :
    let t := claimMembers z s
    (∀ (d : DoorId) (a : Addr), d ∈ members s z → (s.doors.get d).station = some a →
      t.owners.get a = (s.claimed a z).get a ∧ t.doorDyn.get d = s.claimedDoor a z d) ∧
    (∀ d : DoorId, d ∉ members s z → t.doorDyn.get d = s.doorDyn.get d) ∧
    (∀ a : Addr, (∀ d ∈ members s z, (s.doors.get d).station ≠ some a) → t.owners.get a = s.owners.get a) ∧
    OwnersAndDoors s t := by
  intro t
  have hwalk {β : Type} (view : State → β) := foldl_view (f := claimMember z) (view := view) (I := OwnersAndDoors s)
    (l := members s z) (s := s) (fun _ ht _ hj => claimMember_ownersAndDoors ht hj) rfl
  have hstep {u : State} {e : DoorId} (hu : OwnersAndDoors s u) (he : e ∈ members s z) :
      ∃ b, (s.doors.get e).station = some b ∧
        claimMember z u e = { u with owners := u.claimed b z, doorDyn := Tab.put u.doorDyn e (u.claimedDoor b z e) } := by
    have hdoors : u.doors = s.doors := by rw [hu]
    obtain ⟨b, hb⟩ := Option.isSome_iff_exists.1 (mem_members.1 he).1
    exact ⟨b, hb, claimMember_of_station (by rw [hdoors, hb])⟩
  have howners {u : State} {b c : Addr} (hbc : b ≠ c) : (u.claimed b z).get c = u.owners.get c := by
    unfold State.claimed
    split
    · exact Tab.get_put_of_ne _ hbc _
    · rfl
  have keepsView {β : Type} (view : State → β) (h : ∀ v, OwnersAndDoors s v → ∀ e ∈ members s z,
      view (claimMember z v e) = view v) : view t = view s := by
    have hboth := (foldl_view (f := claimMember z) (view := view) (I := fun v => OwnersAndDoors s v ∧ view v = view s)
      (l := members s z) (s := s)
      (fun v hv e he => ⟨claimMember_ownersAndDoors hv.1 he, (h v hv.1 e he).trans hv.2⟩) ⟨rfl, rfl⟩).1
    exact hboth.2
  refine ⟨fun d a hd ha => ?_, fun d hd => ?_, fun a ha => ?_, (hwalk id).1⟩
  · obtain ⟨u, hu, hview, hlast⟩ := (hwalk fun v => (v.owners.get a, v.doorDyn.get d)).2.2 d hd nodup_members
      fun v hv e he hne => by
        obtain ⟨b, hb, heq⟩ := hstep hv he
        have hba : b ≠ a := fun h => hne (hdistinct e d he hd (by rw [hb, ha, h]))
        rw [heq]
        exact Prod.ext (howners hba) (Tab.get_put_of_ne _ hne _)
    obtain ⟨howner, hdoor⟩ := Prod.mk.inj hview
    obtain ⟨b, hb, heq⟩ := hstep hu hd
    obtain rfl : a = b := Option.some.inj (ha.symm.trans hb)
    rw [heq] at hlast
    obtain ⟨hlastOwner, hlastDoor⟩ := Prod.mk.inj hlast
    refine ⟨hlastOwner.trans ?_, hlastDoor.trans ((Tab.get_put_self ..).trans ?_)⟩
    · simp only [State.claimed, howner]
      split
      · simp
      · exact howner
    · simp only [State.claimedDoor, howner, hdoor]
  · refine (hwalk fun v => v.doorDyn.get d).2.1 d hd fun v hv e he hne => ?_
    obtain ⟨b, -, heq⟩ := hstep hv he
    rw [heq]
    exact Tab.get_put_of_ne _ hne _
  · refine keepsView (fun v => v.owners.get a) fun v hv e he => ?_
    obtain ⟨b, hb, heq⟩ := hstep hv he
    rw [heq]
    exact howners fun hba => ha e he (hba ▸ hb)

/-- The claims see nothing of the zones' items. -/
theorem claimMembers_modZone (f : ZoneDyn → ZoneDyn) :
    claimMembers z (s.modZone z f) = { claimMembers z s with zoneDyn := Tab.put s.zoneDyn z (f (s.zoneDyn.get z)) } := by
  have hstep (t : State) (d : DoorId) (zones : Vector ZoneDyn 8) :
      claimMember z { t with zoneDyn := zones } d = { claimMember z t d with zoneDyn := zones } := by
    cases hstation : (t.doors.get d).station with
    | none =>
      have hnone (u : State) (hu : (u.doors.get d).station = none) : claimDoor z d u = (true, u) := by
        unfold claimDoor doorStation
        rw [hu]
      unfold claimMember
      rw [hnone t hstation, hnone { t with zoneDyn := zones } hstation]
      rfl
    | some a =>
      rw [claimMember_of_station hstation, claimMember_of_station (s := { t with zoneDyn := zones }) hstation]
      rfl
  exact List.foldl_hom (fun t : State => { t with zoneDyn := Tab.put s.zoneDyn z (f (s.zoneDyn.get z)) })
    fun t d => (hstep t d _)

/-! ## The motions of the members that are ended (R112) -/

/-- The doors' items once the motions under `command` have ended. -/
def State.cancelled (s : State) (z : ZoneId) (command : DoorCommand) : Vector DoorDyn 24 :=
  Tab.of fun e =>
    if e ∈ members s z ∧ (s.doorDyn.get e).command = command then (s.doorDyn.get e).atRest (derivedOf s e) false
    else s.doorDyn.get e

/-- The end of the motion of one member door. -/
def cancelMotion (command : DoorCommand) (s : State) (d : DoorId) : State :=
  if (s.doorDyn.get d).command = command then settleDoor d s else s

theorem cancelMotion_setDoors {command : DoorCommand} {doors : Vector DoorDyn 24}
    (hactive : (s.zoneDyn.get z).state.isRest = false) (hd : d ∈ members s z) :
    cancelMotion command (s.setDoors doors) d =
      s.setDoors (if (doors.get d).command = command then Tab.put doors d ((doors.get d).atRest (derivedOf s d) false)
        else doors) := by
  unfold cancelMotion
  have hdoors : (s.setDoors doors).doorDyn = doors := rfl
  rw [hdoors]
  split
  · refine changeDoor_active ?_
    have hzone : doorZone (s.setDoors doors) d = z := (mem_members.1 hd).2
    rw [hzone]
    exact hactive
  · rfl

/-- While the zone is in a procedure the members' motions end without a change elsewhere. -/
theorem cancelMotions_eq {command : DoorCommand} (hactive : (s.zoneDyn.get z).state.isRest = false) :
    cancelMotions z command s = s.setDoors (s.cancelled z command) := by
  have hwalk (d : DoorId) := foldl_view (f := cancelMotion command) (view := fun t => t.doorDyn.get d)
    (I := fun t => ∃ doors, t = s.setDoors doors) (l := members s z) (s := s)
    (by
      rintro t ⟨doors, rfl⟩ e he
      exact ⟨_, cancelMotion_setDoors hactive he⟩)
    ⟨s.doorDyn, rfl⟩
  have hother (d : DoorId) (t : State) (ht : ∃ doors, t = s.setDoors doors) (e : DoorId) (he : e ∈ members s z)
      (hne : e ≠ d) : (cancelMotion command t e).doorDyn.get d = t.doorDyn.get d := by
    obtain ⟨doors, rfl⟩ := ht
    rw [cancelMotion_setDoors hactive he]
    show (ite _ _ doors : Vector DoorDyn 24).get d = doors.get d
    split
    · exact Tab.get_put_of_ne _ hne _
    · rfl
  have hend : ∃ doors, cancelMotions z command s = s.setDoors doors := (hwalk 0).1
  obtain ⟨doors, hdoors⟩ := hend
  rw [hdoors]
  refine congrArg s.setDoors (Tab.ext fun d => ?_)
  have hget : doors.get d = (cancelMotions z command s).doorDyn.get d := by rw [hdoors]; rfl
  rw [hget, State.cancelled, Tab.get_of]
  by_cases hd : d ∈ members s z
  · obtain ⟨u, ⟨v, rfl⟩, hview, hlast⟩ := (hwalk d).2.2 d hd nodup_members (hother d)
    have hsame : v.get d = s.doorDyn.get d := hview
    refine hlast.trans ?_
    rw [cancelMotion_setDoors hactive hd]
    show (ite _ _ v : Vector DoorDyn 24).get d = _
    rw [hsame]
    by_cases hcommand : (s.doorDyn.get d).command = command
    · rw [if_pos hcommand, if_pos ⟨hd, hcommand⟩]
      exact Tab.get_put_self ..
    · rw [if_neg hcommand, if_neg fun h => hcommand h.2]
      exact hsame
  · rw [if_neg fun h => hd h.1]
    exact (hwalk d).2.1 d hd (hother d)

/-! ## The upgrade of a routine close in CLOSING (R118) -/

/-- The upgrade sends CLOSE to the door. -/
def State.upgradeSends (s : State) (e : DoorId) : Bool :=
  decide ((s.doorDyn.get e).state ≠ .closed) && decide ((s.doorDyn.get e).command = .none) &&
    decide ((s.doorDyn.get e).skipped ≠ .claim)

theorem upgradeSends_iff :
    s.upgradeSends e = true ↔
      (s.doorDyn.get e).state ≠ .closed ∧ (s.doorDyn.get e).command = .none ∧ (s.doorDyn.get e).skipped ≠ .claim := by
  simp [State.upgradeSends, and_assoc]

/-- The door with a local skip cleared. -/
def DoorDyn.unskipped (x : DoorDyn) : DoorDyn :=
  { x with skipped := if x.skipped = .localControl then .no else x.skipped }

/-- A door's items after the upgrade. -/
def State.upgradedDoor (s : State) (e : DoorId) : DoorDyn :=
  if s.upgradeSends e = true then
    { (s.doorDyn.get e).unskipped with
      state := motionState s e .closing, command := .close
      closeTimer := .running (s.now + 100000 * (s.doors.get e).closeLimit), held := false }
  else (s.doorDyn.get e).unskipped

/-- R101: CLOSE sent to a door of a zone in a procedure. -/
theorem sendClose_active (hactive : (s.zoneDyn.get (doorZone s d)).state.isRest = false) :
    sendClose d s =
      jobCommand? (doorStation s d) [verbClose]
        (s.withDoor d
          { s.doorDyn.get d with
            state := motionState s d .closing, command := .close
            closeTimer := .running (s.now + 100000 * (s.doors.get d).closeLimit), held := false }) := by
  unfold sendClose
  dsimp only
  rw [changeDoor_active hactive]
  rfl

theorem upgradeDoor_eq (hactive : (s.zoneDyn.get (doorZone s d)).state.isRest = false) :
    upgradeDoor d s =
      if s.upgradeSends d = true then jobCommand? (doorStation s d) [verbClose] (s.withDoor d (s.upgradedDoor d))
      else s.withDoor d (s.upgradedDoor d) := by
  have hskips :
      (if (s.doorDyn.get d).skipped = .localControl then s.modDoor d fun x => { x with skipped := .no } else s) =
      s.withDoor d (s.doorDyn.get d).unskipped := by
    unfold DoorDyn.unskipped
    split
    · rfl
    · exact (congrArg s.setDoors (Tab.put_get s.doorDyn d)).symm
  have hupgrade : upgradeDoor d s =
      if s.upgradeSends d = true then sendClose d (s.withDoor d (s.doorDyn.get d).unskipped)
      else s.withDoor d (s.doorDyn.get d).unskipped := by
    rw [← hskips]
    rfl
  rw [hupgrade]
  unfold State.upgradedDoor
  split
  · rw [sendClose_active (s := s.withDoor d (s.doorDyn.get d).unskipped) hactive]
    simp only [State.withDoor, Tab.get_put_self, Tab.put_put]
    rfl
  · rfl

theorem upgradedDoor_congr (hdoors : t.doors = s.doors) (hdyn : t.stationDyn = s.stationDyn) (hnow : t.now = s.now)
    (hdoor : t.doorDyn.get e = s.doorDyn.get e) :
    t.upgradeSends e = s.upgradeSends e ∧ t.upgradedDoor e = s.upgradedDoor e := by
  have hmotion : motionState t e .closing = motionState s e .closing := by
    unfold motionState doorStation isHeard
    rw [hdoors, hdyn]
  have hsends : t.upgradeSends e = s.upgradeSends e := by
    unfold State.upgradeSends
    rw [hdoor]
  refine ⟨hsends, ?_⟩
  unfold State.upgradedDoor
  rw [hsends, hmotion, hdoors, hnow, hdoor]

/-- The upgrade of several doors: each takes its own items, and those to be closed are sent CLOSE in order. -/
theorem foldl_upgradeDoor (l : List DoorId) (hl : l.Nodup)
    (hactive : ∀ d ∈ l, (s.zoneDyn.get (doorZone s d)).state.isRest = false) :
    let t := l.foldl (fun s d => upgradeDoor d s) s
    t = (l.filter s.upgradeSends).foldl (fun u e => jobCommand? (doorStation s e) [verbClose] u) (s.setDoors t.doorDyn) ∧
      ∀ e, t.doorDyn.get e = if e ∈ l then s.upgradedDoor e else s.doorDyn.get e := by
  induction l generalizing s with
  | nil => exact ⟨rfl, fun e => by simp⟩
  | cons d l ih =>
    intro t
    obtain ⟨hd, hl⟩ := List.nodup_cons.1 hl
    have hstep := upgradeDoor_eq (hactive d List.mem_cons_self)
    have hfirst (u : State) (hu : upgradeDoor d s = u) :
        u.zoneDyn = s.zoneDyn ∧ u.doors = s.doors ∧ u.stationDyn = s.stationDyn ∧ u.now = s.now ∧
          u.doorDyn = Tab.put s.doorDyn d (s.upgradedDoor d) := by
      subst hu
      rw [hstep]
      split
      · simp [State.withDoor]
      · exact ⟨rfl, rfl, rfl, rfl, rfl⟩
    obtain ⟨hzones, hdoors, hdyn, hnow, hdoorDyn⟩ := hfirst _ rfl
    have hother (e : DoorId) (he : e ∈ l) : (upgradeDoor d s).doorDyn.get e = s.doorDyn.get e := by
      rw [hdoorDyn]
      exact Tab.get_put_of_ne _ (by rintro rfl; exact hd he) _
    have hrest := ih (s := upgradeDoor d s) hl fun e he => by
      rw [doorZone, hdoors, hzones]
      exact hactive e (List.mem_cons_of_mem d he)
    obtain ⟨hfold, hget⟩ := hrest
    have hfilter : l.filter (upgradeDoor d s).upgradeSends = l.filter s.upgradeSends :=
      List.filter_congr fun e he => (upgradedDoor_congr hdoors hdyn hnow (hother e he)).1
    refine ⟨?_, fun e => ?_⟩
    · have htail : t = (l.filter s.upgradeSends).foldl (fun u e => jobCommand? (doorStation s e) [verbClose] u)
          ((upgradeDoor d s).setDoors t.doorDyn) := by
        refine hfold.trans ?_
        rw [hfilter]
        simp only [doorStation, hdoors]
        rfl
      refine htail.trans ?_
      rw [hstep, List.filter_cons]
      split
      · rw [← jobCommand?_setDoors]
        rfl
      · rfl
    · refine (hget e).trans ?_
      by_cases he : e ∈ l
      · rw [if_pos he, if_pos (List.mem_cons_of_mem d he)]
        exact (upgradedDoor_congr hdoors hdyn hnow (hother e he)).2
      · rw [if_neg he, hdoorDyn, Tab.get_put]
        by_cases hde : d = e
        · subst hde
          rw [if_pos rfl, if_pos List.mem_cons_self]
        · rw [if_neg hde, if_neg fun h => he ((List.mem_cons.1 h).resolve_left (Ne.symm hde))]

end Members

/-! ## The call of a close (R112) -/

section Close

variable {s : State} {z : ZoneId} {h : Header} {cause : CloseCause}

/-- A request that is not accepted changes nothing. -/
theorem requestCall_refused {q : CallRequest} (hrefused : (requestCall q s).1.stamp? = none) :
    (requestCall q s).2 = s := by
  revert hrefused
  unfold requestCall
  split
  · exact fun _ => rfl
  · split
    · exact nofun
    · split
      · exact nofun
      · split
        · exact fun _ => rfl
        · split
          · exact nofun
          · exact fun _ => rfl

/-- The request for the zone's call, by the cause of its close. -/
def closeCall (s : State) (z : ZoneId) (fire : Bool) : CallRequest :=
  ⟨.zone z, if fire then (s.zones.get z).fireMsg else (s.zones.get z).warningMsg, [z],
    if fire then (s.zones.get z).firePriority else (s.zones.get z).routinePriority, 1⟩

theorem awaitCall_accepted {fire : Bool} {k : Nat} (hfire : decide ((s.zoneDyn.get z).cause = .fire) = fire)
    (hk : (requestCall (closeCall s z fire) s).1.stamp? = some k) :
    awaitCall z s =
      let q := requestCall (closeCall s z fire) s
      arbitrate { q.2 with
        zoneDyn := Tab.put q.2.zoneDyn z
          { q.2.zoneDyn.get z with
            callRef := some ⟨(closeCall s z fire).message, k⟩
            callWait := .running (q.2.now + 100000 * (s.zones.get z).callWait) } } := by
  subst hfire
  unfold awaitCall
  dsimp only
  split
  · next j hj =>
    obtain rfl : k = j := Option.some.inj (hk.symm.trans hj)
    rfl
  · next hnone => cases hk.symm.trans hnone

theorem awaitCall_refused {fire : Bool} (hfire : decide ((s.zoneDyn.get z).cause = .fire) = fire)
    (hrefused : (requestCall (closeCall s z fire) s).1.stamp? = none) :
    awaitCall z s = enterCountdown z (raiseInternal (s.zones.get z).partialCode none (some z) 1 s) := by
  subst hfire
  unfold awaitCall
  dsimp only
  split
  · next j hj => cases hrefused.symm.trans hj
  · have hsame : (requestCall (closeCall s z (decide ((s.zoneDyn.get z).cause = .fire))) s).2 = s :=
      requestCall_refused hrefused
    exact congrArg (fun t => enterCountdown z (raisePartial z none 1 t)) hsame

/-! ## The request -/

theorem exec_zoneClose_refused {n : Nat} {reason : Reason} (hrun : s.resetHeld = false) (hauth : 2 ≤ h.authority)
    (hj : judgeZoneClose n cause s = .no reason) :
    exec (.zoneClose h n cause) s = .next (answer h .zoneClose (.refused reason none) s) := by
  have hauth' : ¬authorityOf h < leastAuthority (.zoneClose n cause) := by
    rw [authorityOf_lt_iff]
    exact Nat.not_lt.2 hauth
  refine (exec_request hrun (.zoneClose n cause)).trans (congrArg _ ?_)
  exact (congrArg (serve h _ _ · s) hj).trans (serve_refused hauth')

theorem judgeZoneClose_val :
    judgeZoneClose z.val cause s =
      inServiceOnly s (.yes (zoneCloseJudged z cause s).2
        (zoneData z (!(zoneCloseJudged z cause s).1) (zoneCloseJudged z cause s).2)) := by
  unfold judgeZoneClose withIndex
  rw [index?_val]

theorem exec_zoneClose_config (hrun : s.resetHeld = false) (hauth : 2 ≤ h.authority) (hconfig : s.device = .config) :
    exec (.zoneClose h z.val cause) s = .next (answer h .zoneClose (.refused .state none) s) := by
  refine exec_zoneClose_refused hrun hauth (judgeZoneClose_val.trans ?_)
  simp [inServiceOnly, inService, hconfig]

theorem exec_zoneClose_range {n : Nat} (hrun : s.resetHeld = false) (hauth : 2 ≤ h.authority) (hn : 8 ≤ n) :
    exec (.zoneClose h n cause) s = .next (answer h .zoneClose (.refused .range none) s) := by
  refine exec_zoneClose_refused hrun hauth ?_
  unfold judgeZoneClose withIndex
  rw [index?_of_le hn]

/-- A close is judged in service, and its reply shows the zone as the close leaves it. -/
theorem exec_zoneClose_done {taken : Bool} {t : State} (hrun : s.resetHeld = false) (hauth : 2 ≤ h.authority)
    (hservice : s.device ≠ .config) (hj : zoneCloseJudged z cause s = (taken, t)) :
    exec (.zoneClose h z.val cause) s =
      .next (answer h .zoneClose (.done (.zone (t.zoneDyn.get z).state (t.zoneDyn.get z).cause (!taken))) (settle t)) := by
  have hauth' : ¬authorityOf h < leastAuthority (.zoneClose z.val cause) := by
    rw [authorityOf_lt_iff]
    exact Nat.not_lt.2 hauth
  have hjudged : judgeZoneClose z.val cause s = .yes t (zoneData z (!taken) t) := by
    rw [judgeZoneClose_val, hj]
    exact if_pos (decide_eq_true hservice)
  refine (exec_request hrun (.zoneClose z.val cause)).trans (congrArg _ ?_)
  exact (congrArg (serve h _ _ · s) hjudged).trans (serve_taken hauth')

/-! ## What a close does, by the zone's state (R111, R112, R118) -/

/-- The zone's cause that a close of a cause sets. -/
def zoneCause : CloseCause → Cause
  | .routine => .routine
  | .fire => .fire

theorem zoneCloseJudged_rest
    (hstate : (s.zoneDyn.get z).state = .opened ∨ (s.zoneDyn.get z).state = .partly ∨
      (s.zoneDyn.get z).state = .closed) :
    zoneCloseJudged z cause s = (true, beginClose z (zoneCause cause) s) := by
  unfold zoneCloseJudged
  dsimp only
  obtain h | h | h := hstate
  all_goals
    rw [h]
    exact rfl

theorem zoneCloseJudged_opening (hstate : (s.zoneDyn.get z).state = .opening) :
    zoneCloseJudged z cause s = (true, reverseOpening z (zoneCause cause) s) := by
  unfold zoneCloseJudged
  dsimp only
  rw [hstate]
  exact rfl

theorem zoneCloseJudged_running
    (hstate : (s.zoneDyn.get z).state = .calling ∨ (s.zoneDyn.get z).state = .countdown ∨
      (s.zoneDyn.get z).state = .closing) :
    zoneCloseJudged z cause s =
      if cause = .fire ∧ (s.zoneDyn.get z).cause = .routine then (true, upgradeClose z s) else (false, s) := by
  unfold zoneCloseJudged
  dsimp only
  obtain h | h | h := hstate
  all_goals rw [h]

/-- The zone with its items. -/
def State.withZone (s : State) (z : ZoneId) (d : ZoneDyn) : State := { s with zoneDyn := Tab.put s.zoneDyn z d }

/-- The zone's items as a close of a cause leaves them in CALLING. -/
def ZoneDyn.called (d : ZoneDyn) (cause : Cause) : ZoneDyn := { d with state := .calling, cause := cause, clear := false }

theorem beginClose_eq (c : Cause) :
    beginClose z c s =
      awaitCall z { claimMembers z s with zoneDyn := Tab.put s.zoneDyn z ((s.zoneDyn.get z).called c) } := by
  unfold beginClose enterCalling
  dsimp only
  rw [claimMembers_modZone]
  simp only [State.modZone, Tab.upd, Tab.get_put_self, Tab.put_put]
  rfl

theorem reverseOpening_eq (c : Cause) (hstate : (s.zoneDyn.get z).state = .opening) :
    reverseOpening z c s =
      awaitCall z { cancelMotions z .open s with zoneDyn := Tab.put s.zoneDyn z ((s.zoneDyn.get z).called c) } := by
  have hactive : (s.zoneDyn.get z).state.isRest = false := by
    rw [hstate]
    rfl
  have hactive' : ((s.modZone z fun d => { d with cause := c }).zoneDyn.get z).state.isRest = false := by
    simp [State.modZone, hactive]
  unfold reverseOpening enterCalling
  dsimp only
  rw [cancelMotions_eq hactive, cancelMotions_eq hactive']
  simp only [State.setDoors, State.modZone, Tab.upd, Tab.get_put_self, Tab.put_put]
  rfl

theorem claimMembers_zones : (claimMembers z s).zones = s.zones :=
  congrArg (·.1.zones) (Orderly.refl (e := .items)).claimMembers.frame

/-- The zone's close is now a fire close. -/
def State.fireClose (s : State) (z : ZoneId) : State := s.modZone z fun d => { d with cause := .fire }

theorem fireClose_get : (s.fireClose z).zoneDyn.get z = { s.zoneDyn.get z with cause := .fire } := by
  simp [State.fireClose, State.modZone]

/-- An upgrade, by the state of the zone. -/
theorem upgradeClose_eq :
    ((s.zoneDyn.get z).state = .calling → upgradeClose z s = awaitCall z (abandonCall z (s.fireClose z))) ∧
      ((s.zoneDyn.get z).state = .countdown →
        upgradeClose z s =
          let left := min (s.zoneDyn.get z).remaining (s.zones.get z).fireWarn
          let t := (s.fireClose z).modZone z fun d => { d with remaining := left, awaitingClear := false }
          if left = 0 then enterClosing z t else t) ∧
      ((s.zoneDyn.get z).state = .closing →
        upgradeClose z s = (members s z).foldl (fun s d => upgradeDoor d s) (s.fireClose z)) := by
  have hstate : ((s.fireClose z).zoneDyn.get z).state = (s.zoneDyn.get z).state := by rw [fireClose_get]
  have hremaining : ((s.fireClose z).zoneDyn.get z).remaining = (s.zoneDyn.get z).remaining := by rw [fireClose_get]
  rw [← hstate, ← hremaining]
  have hupgrade : upgradeClose z s =
      match ((s.fireClose z).zoneDyn.get z).state with
      | .calling => awaitCall z (abandonCall z (s.fireClose z))
      | .countdown =>
        let left := min ((s.fireClose z).zoneDyn.get z).remaining (s.zones.get z).fireWarn
        let t := (s.fireClose z).modZone z fun d => { d with remaining := left, awaitingClear := false }
        if left = 0 then enterClosing z t else t
      | .closing => (members s z).foldl (fun s d => upgradeDoor d s) (s.fireClose z)
      | _ => s.fireClose z := rfl
  refine ⟨fun h => hupgrade.trans ?_, fun h => hupgrade.trans ?_, fun h => hupgrade.trans ?_⟩
  all_goals rw [h]

theorem upgradeClose_countdown (hstate : (s.zoneDyn.get z).state = .countdown) :
    upgradeClose z s =
      let left := min (s.zoneDyn.get z).remaining (s.zones.get z).fireWarn
      let t := s.withZone z { s.zoneDyn.get z with cause := .fire, remaining := left, awaitingClear := false }
      if left = 0 then enterClosing z t else t := by
  refine (upgradeClose_eq.2.1 hstate).trans ?_
  simp only [State.fireClose, State.modZone, Tab.upd, Tab.get_put_self, Tab.put_put]
  rfl

/-- A call given up: the zone awaits none, and the call is cancelled where there is one. -/
theorem abandonCall_fireClose (hstate : (s.zoneDyn.get z).state = .calling) :
    let upgraded := s.withZone z { s.zoneDyn.get z with cause := .fire, callRef := none, callWait := .stopped }
    ((s.zoneDyn.get z).callRef = none → abandonCall z (s.fireClose z) = upgraded) ∧
      (∀ ref : CallRef, (s.zoneDyn.get z).callRef = some ref →
        abandonCall z (s.fireClose z) = (cancelCall (.zone z) ref.message upgraded).2) ∧
      ∀ (o : CallOrigin) (m : MsgId), ((cancelCall o m upgraded).2.zoneDyn.get z).cause = .fire ∧
        (cancelCall o m upgraded).2.zones = s.zones := by
  intro upgraded
  have hcallRef : ((s.fireClose z).zoneDyn.get z).callRef = (s.zoneDyn.get z).callRef := by rw [fireClose_get]
  have hitems : upgraded.zoneDyn.get z =
      { s.zoneDyn.get z with cause := .fire, callRef := none, callWait := .stopped } := Tab.get_put_self ..
  refine ⟨fun hnone => ?_, fun ref href => ?_, fun o m => ⟨?_, ?_⟩⟩
  · have habandoned : abandonCall z (s.fireClose z) =
        (s.fireClose z).modZone z fun d => { d with callWait := .stopped } := by
      unfold abandonCall
      rw [hcallRef, hnone]
    rw [habandoned]
    simp only [State.fireClose, State.modZone, Tab.upd, Tab.get_put_self, Tab.put_put, upgraded, State.withZone,
      ← hnone]
  · have habandoned : abandonCall z (s.fireClose z) = (cancelCall (.zone z) ref.message
        ((s.fireClose z).modZone z fun d => { d with callRef := none, callWait := .stopped })).2 := by
      unfold abandonCall
      rw [hcallRef, href]
    rw [habandoned]
    simp only [State.fireClose, State.modZone, Tab.upd, Tab.get_put_self, Tab.put_put, upgraded, State.withZone]
  · rw [cancelCall_zoneDyn (by rw [hitems]) (by rw [hitems, hstate]; rfl), hitems]
  · exact congrArg (·.1.zones) (Orderly.refl (s := upgraded)).cancelCall.frame

/-- The zone's items while the doors are sent CLOSE. -/
theorem foldl_jobCommand?_zoneDyn (l : List DoorId) (station : DoorId → Option Addr) (p : List Byte) :
    (l.foldl (fun u e => jobCommand? (station e) p u) s).zoneDyn = s.zoneDyn := by
  induction l generalizing s with
  | nil => rfl
  | cons e l ih => exact ih.trans (jobCommand?_zoneDyn ..)

theorem upgradeClose_closing (hstate : (s.zoneDyn.get z).state = .closing) :
    let t := upgradeClose z s
    t.zoneDyn = Tab.put s.zoneDyn z { s.zoneDyn.get z with cause := .fire } ∧
      t = ((members s z).filter s.upgradeSends).foldl (fun u e => jobCommand? (s.doors.get e).station [0x10#8] u)
        { s with zoneDyn := t.zoneDyn, doorDyn := t.doorDyn } ∧
      ∀ e, t.doorDyn.get e = if e ∈ members s z then s.upgradedDoor e else s.doorDyn.get e := by
  intro t
  have hactive : ((s.fireClose z).zoneDyn.get z).state.isRest = false := by
    rw [fireClose_get, hstate]
    rfl
  obtain ⟨hfold, hget⟩ := foldl_upgradeDoor (s := s.fireClose z) (members s z) nodup_members fun d hd => by
    have hzone : doorZone (s.fireClose z) d = z := (mem_members.1 hd).2
    rw [hzone]
    exact hactive
  rw [← upgradeClose_eq.2.2 hstate] at hfold hget
  have hzones : t.zoneDyn = Tab.put s.zoneDyn z { s.zoneDyn.get z with cause := .fire } :=
    (congrArg State.zoneDyn hfold).trans (foldl_jobCommand?_zoneDyn ..)
  refine ⟨hzones, ?_, hget⟩
  rw [hzones]
  exact hfold

/-! ## The reply -/

/-- The request is answered DONE with the zone as `t` has it. -/
def CloseReplied (h : Header) (z : ZoneId) (cause : CloseCause) (s : State) (noEffect : Bool) (t : State) : Prop :=
  exec (.zoneClose h z.val cause) s =
    .next (answer h .zoneClose (.done (.zone (t.zoneDyn.get z).state (t.zoneDyn.get z).cause noEffect)) (settle t))

/-- The request is answered as the zone stands once it awaits its call, or its call is refused. -/
def CloseAwaits (h : Header) (z : ZoneId) (cause : CloseCause) (s : State) (call : CallRequest) (cfg : ZoneRecord)
    (called : State) : Prop :=
  let q := requestCall call called
  (∀ k : Nat, q.1.stamp? = some k →
    CloseReplied h z cause s false (arbitrate { q.2 with
      zoneDyn := Tab.put q.2.zoneDyn z
        { q.2.zoneDyn.get z with
          callRef := some ⟨call.message, k⟩, callWait := .running (q.2.now + 100000 * cfg.callWait) } })) ∧
  (q.1.stamp? = none →
    CloseReplied h z cause s false (enterCountdown z (raiseInternal cfg.partialCode none (some z) 1 called)))

theorem closeAwaits_of_judged {called : State} (hrun : s.resetHeld = false) (hauth : 2 ≤ h.authority)
    (hservice : s.device ≠ .config) (hj : zoneCloseJudged z cause s = (true, awaitCall z called))
    (hcause : (called.zoneDyn.get z).cause = zoneCause cause) (hzones : called.zones = s.zones) :
    CloseAwaits h z cause s (closeCall s z (decide (cause = .fire))) (s.zones.get z) called := by
  have hfire : decide ((called.zoneDyn.get z).cause = .fire) = decide (cause = .fire) := by
    rw [hcause]
    cases cause <;> rfl
  have hcall : closeCall called z (decide (cause = .fire)) = closeCall s z (decide (cause = .fire)) := by
    unfold closeCall
    rw [hzones]
  have hreplied {t : State} (ht : awaitCall z called = t) : CloseReplied h z cause s false t :=
    exec_zoneClose_done (taken := true) hrun hauth hservice (hj.trans (by rw [ht]))
  rw [← hcall, ← hzones]
  exact ⟨fun k hk => hreplied (awaitCall_accepted hfire hk),
    fun hrefused => hreplied (awaitCall_refused hfire hrefused)⟩

end Close

/-- Settles O39: the zone's state decides the branch of `zoneCloseJudged`; the claims and the ended motions are walks
over the member doors, and a zone that has given up its call keeps its items through the cancellation. -/
theorem zoneClose : Obligations.ZoneClose := by
  unfold Obligations.ZoneClose
  refine ⟨⟨?request, ?claims⟩, ?motions⟩
  case request =>
    intro s h z cause hrun hauth d cfg c msg priority replied running awaits
    have hc : c = zoneCause cause := by cases cause <;> rfl
    have hcall : closeCall s z (decide (cause = .fire)) = ⟨.zone z, msg, [z], priority, 1⟩ := by cases cause <;> rfl
    have hawaits {called : State} (hservice : s.device ≠ .config)
        (hj : zoneCloseJudged z cause s = (true, awaitCall z called))
        (hcause : (called.zoneDyn.get z).cause = c) (hzones : called.zones = s.zones) : awaits called := by
      have h := closeAwaits_of_judged (h := h) hrun hauth hservice hj (hcause.trans hc) hzones
      rw [hcall] at h
      exact h
    have hdone {t : State} {taken : Bool} (hservice : s.device ≠ .config)
        (hj : zoneCloseJudged z cause s = (taken, t)) : replied (!taken) t := exec_zoneClose_done hrun hauth hservice hj
    have hupgraded (hrunning : running) (hroutine : d.cause = .routine) (hfire : cause = .fire) :
        zoneCloseJudged z cause s = (true, upgradeClose z s) :=
      (zoneCloseJudged_running hrunning).trans (if_pos ⟨hfire, hroutine⟩)
    refine ⟨exec_zoneClose_config hrun hauth, fun n hn => exec_zoneClose_range hrun hauth hn,
      fun hservice hrunning hsame => ?_, fun hservice hrest => ?_, fun hservice hopening => ?_,
      fun hservice hcalling hroutine hfire => ⟨fun hnone => ?_, fun ref href => ?_⟩,
      fun hservice hcountdown hroutine hfire hleft => ?_, fun hservice hcountdown hroutine hfire hleft => ?_,
      fun hservice hclosing hroutine hfire => ⟨upgradeClose z s, hdone (taken := true) hservice
        (hupgraded (.inr (.inr hclosing)) hroutine hfire), ?_, ?_, fun e he => ?_,
        fun e a he ha => ⟨fun hstays => ?_, fun hsent => ?_⟩⟩⟩
    · refine hdone (taken := false) hservice ((zoneCloseJudged_running hrunning).trans (if_neg ?_))
      rintro ⟨rfl, hroutine⟩
      exact hsame.elim nofun fun hother => hother hroutine
    · refine hawaits hservice (called := { claimMembers z s with zoneDyn := Tab.put s.zoneDyn z (d.called c) }) ?_ ?_
        claimMembers_zones
      · rw [zoneCloseJudged_rest hrest, beginClose_eq, hc]
      · exact congrArg ZoneDyn.cause (Tab.get_put_self ..)
    · refine hawaits hservice (called := { cancelMotions z .open s with zoneDyn := Tab.put s.zoneDyn z (d.called c) })
        ?_ ?_ ?_
      · rw [zoneCloseJudged_opening hopening, reverseOpening_eq _ hopening, hc]
      · exact congrArg ZoneDyn.cause (Tab.get_put_self ..)
      · have hactive : (s.zoneDyn.get z).state.isRest = false := by
          rw [show (s.zoneDyn.get z).state = .opening from hopening]
          rfl
        rw [cancelMotions_eq hactive]
        rfl
    · obtain ⟨habandoned, -, -⟩ := abandonCall_fireClose hcalling
      refine hawaits hservice (called := s.withZone z { d with cause := .fire, callRef := none, callWait := .stopped })
        ?_ ?_ rfl
      · rw [hupgraded (.inl hcalling) hroutine hfire, upgradeClose_eq.1 hcalling, habandoned hnone]
      · rw [hc, hfire]
        exact congrArg ZoneDyn.cause (Tab.get_put_self ..)
    · obtain ⟨-, habandoned, hkept⟩ := abandonCall_fireClose hcalling
      obtain ⟨hcause, hzones⟩ := hkept (.zone z) ref.message
      refine hawaits hservice (called := (cancelCall (.zone z) ref.message
        (s.withZone z { d with cause := .fire, callRef := none, callWait := .stopped })).2) ?_ ?_ hzones
      · rw [hupgraded (.inl hcalling) hroutine hfire, upgradeClose_eq.1 hcalling, habandoned ref href]
      · rw [hc, hfire]
        exact hcause
    · refine hdone (taken := true) hservice ((hupgraded (.inr (.inl hcountdown)) hroutine hfire).trans ?_)
      rw [upgradeClose_countdown hcountdown]
      exact congrArg _ (if_neg (Nat.pos_iff_ne_zero.1 hleft))
    · refine hdone (taken := true) hservice ((hupgraded (.inr (.inl hcountdown)) hroutine hfire).trans ?_)
      rw [upgradeClose_countdown hcountdown]
      refine congrArg _ ((if_pos hleft).trans ?_)
      rw [hleft]
      rfl
    · exact (upgradeClose_closing hclosing).1
    · exact (upgradeClose_closing hclosing).2.1
    · exact ((upgradeClose_closing hclosing).2.2 e).trans (if_neg he)
    · have hnot : ¬s.upgradeSends e = true := mt upgradeSends_iff.1 hstays
      refine ((upgradeClose_closing hclosing).2.2 e).trans ((if_pos he).trans ?_)
      rw [State.upgradedDoor, if_neg hnot]
      rfl
    · refine ((upgradeClose_closing hclosing).2.2 e).trans ((if_pos he).trans ?_)
      rw [State.upgradedDoor, if_pos (upgradeSends_iff.2 hsent), motionState_eq ha]
      rfl
  case claims =>
    intro s z hdistinct
    obtain ⟨hmember, hdoors, howners, hframe⟩ := claimMembers_spec hdistinct
    refine ⟨fun d a hd ha => ?_, hdoors, howners, hframe⟩
    obtain ⟨howner, hdoor⟩ := hmember d a hd ha
    refine ⟨fun hgranted => howner.trans ?_, fun hrefused => howner.trans ?_, fun hgranted => hdoor.trans ?_,
      fun hrefused => hdoor.trans ?_⟩
    · rw [State.claimed, if_pos hgranted]
      exact Tab.get_put_self ..
    · rw [State.claimed, if_neg hrefused]
    · rw [State.claimedDoor, if_pos hgranted]
    · rw [State.claimedDoor, if_neg hrefused]
  case motions =>
    intro s z command hactive
    rw [cancelMotions_eq hactive]
    have hget (e : DoorId) : (s.setDoors (s.cancelled z command)).doorDyn.get e =
        if e ∈ members s z ∧ (s.doorDyn.get e).command = command then
          (s.doorDyn.get e).atRest (derivedOf s e) false
        else s.doorDyn.get e := Tab.get_of ..
    refine ⟨rfl, fun e he => (hget e).trans (if_neg ?_), fun e a he hcommand ha => (hget e).trans ?_⟩
    · rintro ⟨hmember, hcommand⟩
      exact he.elim (· hmember) (· hcommand)
    · have hderived : derivedOf s e = derivedDoor s a := by
        unfold derivedOf doorStation
        rw [ha]
      rw [if_pos ⟨he, hcommand⟩, hderived]
      rfl

end Sys2Proof.Machine
end

section

set_option Elab.async false

namespace Sys2Proof.Machine

/-! # The lines of the Query Mirror: filling and purging (R43, R44, R49, R51) -/

section MirrorLines

variable {s : State} {h : Header} {a : Addr} {r : Report} {src : FillSource}

/-! ## The outcome of a request whose authority suffices -/

/-- A request that is judged and taken is answered with the data of its reply, read after the judgement of R78. -/
theorem exec_request_taken {q : Request} {t : State} {data : State → Data} (hrun : s.resetHeld = false)
    (hauth : leastAuthority q ≤ h.authority) (hj : judgeRequest h q s = .taken t data) :
    exec (requestInstr h q) s = .next (answer h (requestName q) (.done (data (settle t))) (settle t)) := by
  rw [exec_request hrun, hj, serve_taken]
  rw [authorityOf_lt_iff]
  exact Nat.not_lt.2 hauth

theorem exec_request_refused {q : Request} {reason : Reason} (hrun : s.resetHeld = false)
    (hauth : leastAuthority q ≤ h.authority) (hj : judgeRequest h q s = .no reason) :
    exec (requestInstr h q) s = .next (answer h (requestName q) (.refused reason none) s) := by
  rw [exec_request hrun, hj]
  refine congrArg _ (serve_refused ?_)
  rw [authorityOf_lt_iff]
  exact Nat.not_lt.2 hauth

theorem withIndex_val {n : Nat} (i : Fin n) (f : Fin n → Judged) : withIndex i.val f = f i := by
  rw [withIndex, index?_val]

theorem withIndex_of_le {n i : Nat} (hi : n ≤ i) (f : Fin n → Judged) : withIndex i f = .no .range := by
  rw [withIndex, index?_of_le hi]

/-! ## Filling (R44) -/

/-- The deck line is UP and GOOD. -/
theorem isSound_iff (d : Deck) :
    isSound s d = true ↔ (s.port (deckPort d)).up = true ∧ (s.quality.at d).grade = .good := by
  rw [isSound, Bool.not_eq_true', ← Bool.not_eq_true, isImpaired_iff, not_not]

/-- A frame fills its station's line when mirroring is allowed and a single deck line is sound. -/
theorem fills_iff :
    fills s a = true ↔ (s.stations.get a).mirrorAllowed = true ∧
      ((s.stations.get a).attachment = .both ∨ ((s.stations.get a).attachment = .a ∧ isSound s .a = true) ∨
        ((s.stations.get a).attachment = .b ∧ isSound s .b = true)) := by
  cases h : (s.stations.get a).attachment <;> simp [fills, singleDeck, h]

theorem fillMirror_of_not_fills (h : ¬fills s a = true) : fillMirror a r src s = s := if_neg h

/-- The line that is filled counts an eviction when it held another station's copy. -/
theorem fillMirror_of_fills (h : fills s a = true) :
    fillMirror a r src s =
      if (s.mirror.get (mirrorIndex a)).valid = true ∧ (s.mirror.get (mirrorIndex a)).tag ≠ mirrorTag a then
        bump .global 2 1 { s with mirror := Tab.put s.mirror (mirrorIndex a) (filledLine a r src) }
      else { s with mirror := Tab.put s.mirror (mirrorIndex a) (filledLine a r src) } := if_pos h

/-! ## Purging (R49, R51) -/

theorem holdsCopy_iff :
    holdsCopy s a = true ↔
      (s.mirror.get (mirrorIndex a)).valid = true ∧ (s.mirror.get (mirrorIndex a)).tag = mirrorTag a := by
  simp [holdsCopy]

/-- The state after a purge that leaves the lines `m`, answered with the number `n` of lines it invalidated. -/
def purgedTo (h : Header) (s : State) (n : Nat) (m : Vector MirrorLine 64) : Host.Outcome State Fault Refusal :=
  .next (answer h .mirrorPurge (.done (.purged n)) (settle { s with mirror := m }))

theorem exec_mirrorPurge_done {scope : PurgeScope} {n : Nat} {m : Vector MirrorLine 64} (hrun : s.resetHeld = false)
    (hauth : 2 ≤ h.authority) (hj : judgeMirrorPurge scope s = .yes { s with mirror := m } (.purged n)) :
    exec (.mirrorPurge h scope) s = purgedTo h s n m :=
  exec_request_taken (q := .mirrorPurge scope) (data := fun _ => .purged n) hrun hauth hj

theorem exec_mirrorPurge_range {scope : PurgeScope} (hrun : s.resetHeld = false) (hauth : 2 ≤ h.authority)
    (hj : judgeMirrorPurge scope s = .no .range) :
    exec (.mirrorPurge h scope) s = .next (answer h .mirrorPurge (.refused .range none) s) :=
  exec_request_refused (q := .mirrorPurge scope) hrun hauth hj

/-- A purge of ADDRESS invalidates the line that holds the station's copy. -/
theorem judgeMirrorPurge_held (hcopy : holdsCopy s a = true) :
    judgeMirrorPurge (.address (a.val + 1)) s =
      .yes { s with mirror := Tab.put s.mirror (mirrorIndex a) { s.mirror.get (mirrorIndex a) with valid := false } }
        (.purged 1) := by
  simp only [judgeMirrorPurge, addr?_succ, invalidateStation_eq, if_pos (holdsCopy_iff.1 hcopy), if_pos hcopy]

theorem judgeMirrorPurge_notHeld (hcopy : ¬holdsCopy s a = true) :
    judgeMirrorPurge (.address (a.val + 1)) s = .yes s (.purged 0) := by
  simp only [judgeMirrorPurge, addr?_succ, invalidateStation_eq, if_neg (mt holdsCopy_iff.2 hcopy), if_neg hcopy]

theorem judgeMirrorPurge_index {i : Fin 64} :
    judgeMirrorPurge (.index i.val) s =
      .yes (s.modMirror i (·.invalid)) (.purged (if (s.mirror.get i).valid = true then 1 else 0)) :=
  withIndex_val ..

/-- The invalidation of a line that is not valid changes nothing. -/
theorem modMirror_invalid_of_not_valid {i : Fin 64} (hvalid : ¬(s.mirror.get i).valid = true) :
    s.modMirror i (·.invalid) = s := by
  have hline : (s.mirror.get i).invalid = s.mirror.get i :=
    MirrorLine.gone_of_invalid (Bool.not_eq_true _ ▸ hvalid)
  rw [State.modMirror, Tab.upd, hline, Tab.put_get]

end MirrorLines

/-- Settles O19: a fill by whether `fills` allows it; a purge by its scope and by whether the line it names is one that
it invalidates. -/
theorem mirrorFillAndPurge : Obligations.MirrorFillAndPurge := by
  unfold Obligations.MirrorFillAndPurge
  refine ⟨?fill, ?purge⟩
  case fill =>
    intro s a r src i cfg sound allowed
    have hallowed : fills s a = true ↔ allowed := by
      rw [fills_iff, isSound_iff, isSound_iff]
    exact ⟨rfl, rfl, fun hnot => fillMirror_of_not_fills (mt hallowed.1 hnot),
      fun hyes => fillMirror_of_fills (hallowed.2 hyes)⟩
  case purge =>
    intro s h hrun hauth off sent
    refine ⟨exec_mirrorPurge_done hrun hauth rfl, fun a => ?_, fun i => ?_, fun n hn => ?_, fun n hn => ?_⟩
    · by_cases hcopy : holdsCopy s a = true
      · exact (exec_mirrorPurge_done hrun hauth (judgeMirrorPurge_held hcopy)).trans
          (if_pos (holdsCopy_iff.1 hcopy)).symm
      · exact (exec_mirrorPurge_done hrun hauth (judgeMirrorPurge_notHeld hcopy)).trans
          (if_neg (mt holdsCopy_iff.2 hcopy)).symm
    · by_cases hvalid : (s.mirror.get i).valid = true
      · rw [if_pos hvalid]
        refine exec_mirrorPurge_done hrun hauth (judgeMirrorPurge_index.trans ?_)
        rw [if_pos hvalid]
        rfl
      · rw [if_neg hvalid]
        refine exec_mirrorPurge_done hrun hauth (judgeMirrorPurge_index.trans ?_)
        rw [if_neg hvalid, modMirror_invalid_of_not_valid hvalid]
    · refine exec_mirrorPurge_range hrun hauth ?_
      simp only [judgeMirrorPurge, addr?_of_outside hn]
    · exact exec_mirrorPurge_range hrun hauth (withIndex_of_le hn _)

end Sys2Proof.Machine
end

section

-- One proof after another: the many short ones of this section would otherwise each hold a thread while they wait.
set_option Elab.async false

namespace Sys2Proof.Machine

/-! # What the judgement of R78 counts (R165)

Of the global counters a judgement counts the alerts it sends and the dispatches that are refused, no other. The jobs
that an offer starts count the transmit drops of the ports alone. `KeepsTally s t` says so of a run of operations from
`s` to `t`; each operation that a judgement may lead to has one rule, a chain of the rules of what it does. -/

section Tally

variable {s t u : State}

/-- A rise of one counter leaves every other as it was. -/
theorem counter_bump_of_ne {set other : CounterSet} {i j : CounterId} {n : Nat} (h : set = other → i ≠ j) :
    counter (bump set i n s) other j = counter s other j := by
  unfold counter
  rw [bump_counters, BySet.at_put]
  split
  · next heq =>
    subst heq
    exact Tab.get_put_of_ne _ (h rfl) _
  · rfl

theorem portSet_ne_global (p : Port) : portSet p ≠ .global := by
  cases p <;> nofun

/-- Of the global counters none but the alerts sent and the refused dispatches differs between `s` and `t`. -/
structure KeepsTally (s t : State) : Prop where
  counter_eq : ∀ i : CounterId, i ≠ ctrAlerts → i ≠ ctrRefused → counter t .global i = counter s .global i

namespace KeepsTally

protected theorem refl : KeepsTally s s := ⟨fun _ _ _ => rfl⟩

protected theorem trans (h : KeepsTally s t) (k : KeepsTally t u) : KeepsTally s u :=
  ⟨fun i ha hr => (k.counter_eq i ha hr).trans (h.counter_eq i ha hr)⟩

/-- A change of anything but the counters. -/
theorem then_eq (h : KeepsTally s t) (counters : u.counters = t.counters := by simp) : KeepsTally s u :=
  h.trans ⟨fun i _ _ => by rw [counter, counters, counter]⟩

/-- Either branch of a test. -/
protected theorem ite {c : Prop} [Decidable c] (ht : KeepsTally s t) (hu : KeepsTally s u) :
    KeepsTally s (if c then t else u) := by
  split
  · exact ht
  · exact hu

protected theorem foldl {α : Type} {l : List α} {f : State → α → State} (h : KeepsTally s t)
    (hf : ∀ t x, KeepsTally t (f t x)) : KeepsTally s (l.foldl f t) := by
  induction l generalizing t with
  | nil => exact h
  | cons x l ih => exact ih (h.trans (hf t x))

/-! ## The shared operations -/

protected theorem modCode (h : KeepsTally s t) {c f} : KeepsTally s (t.modCode c f) := h.then_eq
protected theorem modZone (h : KeepsTally s t) {z f} : KeepsTally s (t.modZone z f) := h.then_eq
protected theorem modDoor (h : KeepsTally s t) {d f} : KeepsTally s (t.modDoor d f) := h.then_eq
protected theorem modRamp (h : KeepsTally s t) {r f} : KeepsTally s (t.modRamp r f) := h.then_eq
protected theorem modZoneLine (h : KeepsTally s t) {z f} : KeepsTally s (t.modZoneLine z f) := h.then_eq
protected theorem modCall (h : KeepsTally s t) {k f} : KeepsTally s (t.modCall k f) := h.then_eq
protected theorem removeCall (h : KeepsTally s t) {k} : KeepsTally s (removeCall k t) := h.then_eq rfl
protected theorem enterCall (h : KeepsTally s t) {q} : KeepsTally s (enterCall q t) := h.then_eq rfl
protected theorem modAlerts (h : KeepsTally s t) {f} : KeepsTally s (t.modAlerts f) := h.then_eq
protected theorem modGa (h : KeepsTally s t) {f} : KeepsTally s (t.modGa f) := h.then_eq
protected theorem clearLatch (h : KeepsTally s t) {c} : KeepsTally s (clearLatch c t) := h.modCode
protected theorem raiseInternal (h : KeepsTally s t) {c a z d} : KeepsTally s (raiseInternal c a z d t) := h.then_eq
protected theorem claim (h : KeepsTally s t) {a o} : KeepsTally s (claim a o t).2 := h.then_eq
protected theorem release? (h : KeepsTally s t) {a o} : KeepsTally s (release? a o t) := h.then_eq
protected theorem orderEnable (h : KeepsTally s t) {r on} : KeepsTally s (orderEnable r on t) := h.then_eq
protected theorem orderDoorHold (h : KeepsTally s t) {z on} : KeepsTally s (orderDoorHold z on t) := h.then_eq

protected theorem bumpPort (h : KeepsTally s t) {p i} : KeepsTally s (bumpPort p i t) :=
  h.trans ⟨fun _ _ _ => counter_bump_of_ne fun hset => absurd hset (portSet_ne_global p)⟩

/-- An alert sent or a refused dispatch is counted. -/
protected theorem bumpGlobal (h : KeepsTally s t) {i} (hi : i = ctrAlerts ∨ i = ctrRefused) :
    KeepsTally s (bumpGlobal i t) :=
  h.trans ⟨fun _ halerts hrefused => counter_bump_of_ne fun _ heq =>
    hi.elim (fun ha => halerts (heq.symm.trans ha)) fun hr => hrefused (heq.symm.trans hr)⟩

protected theorem sendTx (h : KeepsTally s t) {p cls f} : KeepsTally s (sendTx p cls f t) := by
  unfold Machine.sendTx offerTx
  dsimp only
  split
  · exact h.then_eq
  · split
    · exact h.bumpPort
    · exact h.then_eq

protected theorem jobCommand (h : KeepsTally s t) {a b} : KeepsTally s (jobCommand a b t) := by
  unfold Machine.jobCommand
  split
  · exact h.sendTx
  · exact h.bumpPort

protected theorem jobCommand? (h : KeepsTally s t) {a b} : KeepsTally s (jobCommand? a b t) := by
  cases a with
  | none => exact h
  | some a => exact h.jobCommand

/-! ## Ramps: the hold and the start of a motion -/

protected theorem holdRamp (h : KeepsTally s t) {r cause} : KeepsTally s (holdRamp r cause t) := by
  unfold Machine.holdRamp
  split
  · exact h.modRamp.jobCommand?.raiseInternal
  · exact h.modRamp.jobCommand?.raiseInternal
  · exact h.modRamp.jobCommand?.jobCommand?.orderEnable.release?.raiseInternal
  · exact h

protected theorem rampHoldOffer (h : KeepsTally s t) {r} : KeepsTally s (rampHoldOffer r t) := by
  unfold Machine.rampHoldOffer
  split
  · exact h.holdRamp
  · exact h.foldl fun _ _ => KeepsTally.refl.holdRamp

protected theorem rampNotice (h : KeepsTally s t) {r ref} : KeepsTally s (rampNotice r ref t) :=
  .ite h.modRamp.orderEnable.jobCommand?.modRamp h

/-! ## Zones and doors, all that starts no call -/

protected theorem changeDoor (h : KeepsTally s t) {d f} : KeepsTally s (changeDoor d f t) :=
  .ite h.modDoor.modZone h.modDoor

protected theorem sendClose (h : KeepsTally s t) {d} : KeepsTally s (sendClose d t) := h.changeDoor.jobCommand?

protected theorem sendOpen (h : KeepsTally s t) {d} : KeepsTally s (sendOpen d t) := h.changeDoor.jobCommand?

protected theorem claimMembers (h : KeepsTally s t) {z} : KeepsTally s (claimMembers z t) := by
  refine h.foldl fun u d => KeepsTally.modDoor ?_
  unfold claimDoor
  split
  · exact .refl
  · exact KeepsTally.refl.claim

protected theorem releaseMembers (h : KeepsTally s t) {z} : KeepsTally s (releaseMembers z t) :=
  h.foldl fun _ _ => KeepsTally.refl.release?

protected theorem cancelMotions (h : KeepsTally s t) {z cmd} : KeepsTally s (cancelMotions z cmd t) :=
  h.foldl fun _ _ => .ite KeepsTally.refl.changeDoor .refl

protected theorem endClose (h : KeepsTally s t) {z} : KeepsTally s (endClose z t) := by
  have rest {l : List DoorId} {f : ZoneDyn → ZoneDyn} := ((h.releaseMembers (z := z)).foldl (l := l)
    (f := fun s d => s.modDoor d fun x => { x with skipped := .no }) fun _ _ => KeepsTally.refl.modDoor).modZone
    (z := z) (f := f)
  exact .ite rest.raiseInternal rest.raiseInternal

protected theorem closingDoor (h : KeepsTally s t) {z d} : KeepsTally s (closingDoor z d t) :=
  .ite h (.ite h.modDoor (.ite h h.sendClose))

protected theorem enterClosing (h : KeepsTally s t) {z} : KeepsTally s (enterClosing z t) :=
  have walked := h.orderDoorHold.modZone.foldl fun _ _ => KeepsTally.refl.closingDoor
  .ite walked.endClose walked

protected theorem enterCountdown (h : KeepsTally s t) {z} : KeepsTally s (enterCountdown z t) :=
  .ite (.ite h.modZone.enterClosing h.modZone.modZone) h.modZone

protected theorem zoneNotice (h : KeepsTally s t) {z ref b} : KeepsTally s (zoneNotice z ref b t) :=
  .ite (KeepsTally.ite h.modZone h.modZone.raiseInternal).enterCountdown h

protected theorem notify (h : KeepsTally s t) {c n} : KeepsTally s (notify c n t) := by
  unfold Machine.notify
  split
  · exact h.zoneNotice
  · exact h.rampNotice
  · exact h
  · exact h
  · exact h

/-! ## Zone lines and calls (R129 to R136) -/

protected theorem completeCall (h : KeepsTally s t) {k} : KeepsTally s (completeCall k t) := by
  unfold Machine.completeCall
  split
  · exact h
  · exact (h.foldl fun _ _ => KeepsTally.refl.modZoneLine).removeCall.notify

protected theorem stopLine (h : KeepsTally s t) {z} : KeepsTally s (stopLine z t) := by
  unfold Machine.stopLine
  split
  · exact h.modZoneLine.jobCommand?
  · exact h.modZoneLine.jobCommand?
  · exact h.modZoneLine

protected theorem failLine (h : KeepsTally s t) {z cause} : KeepsTally s (failLine z cause t) := by
  unfold Machine.failLine
  refine .ite h (KeepsTally.raiseInternal ?_)
  have stopped {c : Prop} [Decidable c] : KeepsTally s (if c then sendStop z t else t) := .ite h.jobCommand? h
  split
  · exact stopped.modZoneLine.release?
  · exact stopped.modZoneLine.release?.modCall

protected theorem playLine (h : KeepsTally s t) {c z} : KeepsTally s (playLine c z t) := by
  unfold Machine.playLine
  split
  · exact h.failLine
  · exact .ite h.claim.modZoneLine.jobCommand h.claim.failLine

protected theorem tryPlay (h : KeepsTally s t) {k} : KeepsTally s (tryPlay k t) := by
  unfold Machine.tryPlay
  split
  · exact h
  · have played {c : CallRecord} {l : List ZoneId} {f : CallRecord → CallRecord} :
        KeepsTally s ((l.foldl (fun u z => Machine.playLine c z u) t).modCall k f) :=
      (h.foldl fun _ _ => KeepsTally.refl.playLine).modCall
    refine .ite ?_ h
    dsimp only
    split
    · exact played
    · exact .ite played.completeCall played

protected theorem restartCall (h : KeepsTally s t) {k} : KeepsTally s (restartCall k t) := h.modCall.tryPlay

protected theorem endRepetition (h : KeepsTally s t) {k} : KeepsTally s (endRepetition k t) := by
  unfold Machine.endRepetition
  split
  · exact h
  · exact .ite h.modCall.completeCall (.ite h.modCall.restartCall h.modCall.modCall)

protected theorem refreshCall (h : KeepsTally s t) {k} : KeepsTally s (refreshCall k t) := by
  unfold Machine.refreshCall
  split
  · exact h
  · refine .ite h.completeCall ?_
    split
    case h_1 | h_2 => exact h
    case h_3 => exact .ite h h.modCall
    case h_4 | h_5 => exact .ite h.tryPlay (.ite h.modCall (.ite h.modCall h.endRepetition))

protected theorem preemptCall (h : KeepsTally s t) {k wanted winner} :
    KeepsTally s (preemptCall k wanted winner t) := by
  refine KeepsTally.modCall (KeepsTally.foldl (h.modCall.foldl fun _ _ => KeepsTally.refl.stopLine) fun _ _ => ?_)
  exact .ite KeepsTally.refl.modZoneLine (.ite KeepsTally.refl.modZoneLine .refl)

protected theorem takeLines (h : KeepsTally s t) {wanted winner} : KeepsTally s (takeLines wanted winner t) := by
  refine h.foldl fun _ _ => ?_
  split
  · exact KeepsTally.refl.modZoneLine
  · exact .ite .refl KeepsTally.refl.preemptCall

protected theorem startCall (h : KeepsTally s t) {c} : KeepsTally s (startCall c t) := by
  have sound : KeepsTally s (dropFaultZones c t) := .ite h h.modCall
  exact .ite sound.completeCall sound.takeLines.restartCall

protected theorem growCall (h : KeepsTally s t) {c reserved} : KeepsTally s (growCall c reserved t).2 := by
  unfold Machine.growCall
  dsimp only
  split
  · exact h
  · exact (h.foldl fun _ _ => .ite KeepsTally.refl.modCall .refl).takeLines.refreshCall

protected theorem judgeCall (h : KeepsTally s t) {k reserved} : KeepsTally s (judgeCall k reserved t).2 := by
  unfold Machine.judgeCall
  split
  · exact h
  · split
    case h_1 =>
      dsimp only
      split
      · exact h.startCall
      · exact h
    case h_2 | h_3 | h_4 => exact h.growCall
    case h_5 => exact h

/-- The walk of a pass, from any zones reserved. -/
theorem walk {ks : List Nat} {reserved : List ZoneId} (h : KeepsTally s t) :
    KeepsTally s (ks.foldl (fun (x : List ZoneId × State) k => Machine.judgeCall k x.1 x.2) (reserved, t)).2 := by
  induction ks generalizing reserved t with
  | nil => exact h
  | cons k ks ih => exact ih h.judgeCall

protected theorem arbitrateFor (h : KeepsTally s t) {n} : KeepsTally s (arbitrateFor n t) := by
  induction n generalizing t with
  | zero => exact h
  | succ n ih =>
    have pass : KeepsTally s (onePass t) := h.walk
    exact .ite pass (ih pass)

protected theorem arbitrate (h : KeepsTally s t) : KeepsTally s (arbitrate t) := h.arbitrateFor

/-! ## Requests for calls (R127, R138) -/

protected theorem requestCall (h : KeepsTally s t) {q} : KeepsTally s (requestCall q t).2 := by
  unfold Machine.requestCall
  split
  · exact h
  · split
    · exact h.modCall
    · split
      · exact h.enterCall
      · split
        · exact h
        · split
          · exact h.removeCall.notify.enterCall
          · exact h

protected theorem postCall (h : KeepsTally s t) {q} : KeepsTally s (postCall q t).2 := by
  unfold Machine.postCall
  dsimp only
  split
  · exact h.requestCall
  · exact h.requestCall.arbitrate

protected theorem cancelCall (h : KeepsTally s t) {o m} : KeepsTally s (cancelCall o m t).2 := by
  unfold Machine.cancelCall
  split
  · exact h
  · exact ((h.foldl fun _ _ => KeepsTally.refl.stopLine).foldl
      fun _ _ => KeepsTally.refl.modZoneLine).removeCall.notify.arbitrate

/-! ## The zone procedures that an offer starts (R111, R112, R118 to R120) -/

protected theorem awaitCall (h : KeepsTally s t) {z} : KeepsTally s (awaitCall z t) := by
  unfold Machine.awaitCall
  dsimp only
  split
  · exact h.requestCall.modZone.arbitrate
  · exact h.requestCall.raiseInternal.enterCountdown

protected theorem enterCalling (h : KeepsTally s t) {z} : KeepsTally s (enterCalling z t) := h.modZone.awaitCall

protected theorem abandonCall (h : KeepsTally s t) {z} : KeepsTally s (abandonCall z t) := by
  unfold Machine.abandonCall
  split
  · exact h.modZone
  · exact h.modZone.cancelCall

protected theorem upgradeDoor (h : KeepsTally s t) {d} : KeepsTally s (upgradeDoor d t) :=
  .ite (KeepsTally.ite h.modDoor h).sendClose (.ite h.modDoor h)

protected theorem upgradeClose (h : KeepsTally s t) {z} : KeepsTally s (upgradeClose z t) := by
  unfold Machine.upgradeClose
  dsimp only
  split
  · exact h.modZone.abandonCall.awaitCall
  · exact .ite h.modZone.modZone.enterClosing h.modZone.modZone
  · exact h.modZone.foldl fun _ _ => KeepsTally.refl.upgradeDoor
  · exact h.modZone

protected theorem zoneCloseJudged (h : KeepsTally s t) {z c} : KeepsTally s (zoneCloseJudged z c t).2 := by
  unfold Machine.zoneCloseJudged
  dsimp only
  split
  case h_1 | h_2 | h_3 => exact h.modZone.claimMembers.enterCalling
  case h_4 => exact h.modZone.cancelMotions.enterCalling
  case h_5 | h_6 | h_7 =>
    split
    · exact h.upgradeClose
    · exact h

protected theorem endOpen (h : KeepsTally s t) {z} : KeepsTally s (endOpen z t) :=
  have ended {f : ZoneDyn → ZoneDyn} {q : CallRequest} :=
    (h.releaseMembers (z := z)).modZone.modZone (f := f) |>.postCall (q := q)
  .ite ended ended.raiseInternal

protected theorem enterOpening (h : KeepsTally s t) {z} : KeepsTally s (enterOpening z t) :=
  have walked := h.modZone.orderDoorHold.foldl fun _ _ => .ite KeepsTally.refl.sendOpen .refl
  .ite walked.endOpen walked

protected theorem beginOpen (h : KeepsTally s t) {z} : KeepsTally s (beginOpen z t) := h.claimMembers.enterOpening

protected theorem reverseClose (h : KeepsTally s t) {z} : KeepsTally s (reverseClose z t) :=
  (h.abandonCall.modZone.cancelMotions.foldl fun _ _ => KeepsTally.refl.modDoor).enterOpening

protected theorem zoneOpenJudged (h : KeepsTally s t) {z} : KeepsTally s (zoneOpenJudged z t).2 := by
  unfold Machine.zoneOpenJudged
  dsimp only
  split
  · exact h
  · split
    case h_1 | h_2 | h_3 =>
      dsimp only
      exact h.beginOpen
    case h_4 => exact h
    case h_5 | h_6 | h_7 =>
      split
      · dsimp only
        exact h.reverseClose
      · exact h

/-! ## The judgement (R77 to R80, R84, R88) -/

protected theorem sendAlert (h : KeepsTally s t) {c n g a} : KeepsTally s (sendAlert c n g a t) :=
  h.sendTx.bumpGlobal (.inl rfl)

protected theorem acceptAlarm (h : KeepsTally s t) {o d} : KeepsTally s (acceptAlarm o d t) := by
  unfold Machine.acceptAlarm
  exact h.modGa.sendAlert.modAlerts

protected theorem acceptEscalation (h : KeepsTally s t) : KeepsTally s (acceptEscalation t) := by
  unfold Machine.acceptEscalation
  exact h.clearLatch.sendAlert.modAlerts

protected theorem acceptCode (h : KeepsTally s t) {c} : KeepsTally s (acceptCode c t) := by
  unfold Machine.acceptCode
  exact h.clearLatch.sendAlert.modAlerts

protected theorem nextAcceptance (h : KeepsTally s t) (hu : nextAcceptance t = some u) : KeepsTally s u := by
  unfold Machine.nextAcceptance at hu
  split at hu
  · cases hu
  · split at hu
    · exact Option.some.inj hu ▸ h.acceptAlarm
    · split at hu
      · exact Option.some.inj hu ▸ h.acceptEscalation
      · split at hu
        · cases hu
        · split at hu
          · exact Option.some.inj hu ▸ h.acceptCode
          · cases hu

protected theorem acceptFor (h : KeepsTally s t) {n} : KeepsTally s (acceptFor n t) := by
  induction n generalizing t with
  | zero => exact h
  | succ n ih =>
    unfold Machine.acceptFor
    split
    · exact h
    · next hu => exact ih (h.nextAcceptance hu)

protected theorem offerTo (h : KeepsTally s t) {c tgt} : KeepsTally s (offerTo c tgt t).2 := by
  unfold Machine.offerTo
  split
  · exact h.zoneCloseJudged
  · exact h.zoneCloseJudged
  · exact h.zoneOpenJudged
  · exact h.rampHoldOffer
  · exact h.postCall

protected theorem sendNotice (h : KeepsTally s t) {c b} : KeepsTally s (sendNotice c b t) := .ite h.sendAlert h

protected theorem actOnAnswer (h : KeepsTally s t) {c ans} : KeepsTally s (actOnAnswer c ans t) := by
  unfold Machine.actOnAnswer
  split
  · exact h.modCode
  · exact h.modCode.sendNotice
  · exact (h.modCode.bumpGlobal (.inr rfl)).sendNotice

protected theorem offerFor (h : KeepsTally s t) {n} : KeepsTally s (offerFor n t) := by
  induction n generalizing t with
  | zero => exact h
  | succ n ih =>
    unfold Machine.offerFor
    split
    · exact h
    · exact ih h.offerTo.actOnAnswer

protected theorem settleFor (h : KeepsTally s t) {n} : KeepsTally s (settleFor n t) := by
  induction n generalizing t with
  | zero => exact h
  | succ n ih => exact .ite (ih h.acceptFor.offerFor) h

protected theorem settle (h : KeepsTally s t) : KeepsTally s (settle t) := h.settleFor

/-- A reply that finds no place is dropped and counted by the Bridge Port. -/
protected theorem answer (h : KeepsTally s t) {hd n r} : KeepsTally s (answer hd n r t) := h.sendTx.settle

end KeepsTally

/-! # MIRROR READ (R52) -/

@[simp] theorem settle_mirror : (settle s).mirror = s.mirror := mirror_of_watched (settle_watched s)

@[simp] theorem answer_mirror (h : Header) (name : ReqName) (r : Result) : (answer h name r s).mirror = s.mirror := by
  simp [answer]

/-- The hits, misses and evictions are neither alerts sent nor refused dispatches. -/
theorem KeepsTally.mirror_counters (h : KeepsTally s t) {i : CounterId} (hi : i.val ≤ 2) :
    counter t .global i = counter s .global i := by
  refine h.counter_eq i ?_ ?_ <;> rintro rfl <;> exact absurd hi (by decide)

end Tally

/-- Settles O20: the read takes the state as it is, and of what its judgements and its reply change (`settle_watched`,
`KeepsTally`) nothing is the mirror's. -/
theorem mirrorReadShowsLine : Obligations.MirrorReadShowsLine := by
  unfold Obligations.MirrorReadShowsLine
  intro s h hrun
  refine ⟨fun i => ?_, fun n hn => ?_, settle_mirror, fun i r hi => ⟨?_, ?_⟩⟩
  · exact exec_request_taken (q := .mirrorRead i.val)
      (data := fun _ => .mirrorLine (s.mirror.get i) (lineAddress i (s.mirror.get i))) hrun (Nat.zero_le _)
      (withIndex_val ..)
  · exact exec_request_refused (q := .mirrorRead n) hrun (Nat.zero_le _) (withIndex_of_le hn _)
  · rw [answer_mirror, settle_mirror]
  · exact KeepsTally.refl.settle.answer.mirror_counters hi

end Sys2Proof.Machine
end

section

-- One proof after another: the many short ones of this section would otherwise each hold a thread while they wait.
set_option Elab.async false

namespace Sys2Proof.Machine

/-! # A hold of every ramp, and what it leaves alone (R152) -/

section RampHolds

variable {s t u : State} {r : RampId}

/-- A ramp after a hold: it stands still when it was in CLEARING, MOVING or HOMING. -/
def RampDyn.onHold (d : RampDyn) : RampDyn :=
  match d.state with
  | .clearing | .moving => d.stopped .held
  | .homing => { d.stopped .unreferenced with referenced := false }
  | _ => d

theorem RampDyn.onHold_still {d : RampDyn} (h : d.state.isActive = false) : d.onHold = d := by
  cases hstate : d.state <;> simp_all [RampDyn.onHold, RampState.isActive]

theorem RampDyn.onHold_state (d : RampDyn) :
    d.onHold.state = match d.state with
      | .clearing | .moving => .held
      | .homing => .unreferenced
      | other => other := by
  cases hstate : d.state <;> simp [RampDyn.onHold, RampDyn.stopped, hstate]

theorem RampDyn.onHold_inactive (d : RampDyn) : d.onHold.state.isActive = false := by
  rw [RampDyn.onHold_state]
  cases d.state <;> rfl

theorem holdRamp_rampDyn (cause : Nat) : (holdRamp r cause s).rampDyn = Tab.upd s.rampDyn r (·.onHold) := by
  by_cases hactive : (s.rampDyn.get r).state.isActive = true
  · unfold holdRamp
    split
    · next hstate => simp [sendSpeed, raiseRamp, Tab.upd, RampDyn.onHold, hstate]
    · next hstate => simp [sendSpeed, raiseRamp, Tab.upd, RampDyn.onHold, hstate]
    · next hstate => simp [sendSpeed, sendDisable, releaseDrive, raiseRamp, Tab.upd, RampDyn.onHold, hstate]
    · next hclearing hmoving hhoming =>
      obtain h | h | h := isActive_iff.1 hactive
      exacts [absurd h hclearing, absurd h hmoving, absurd h hhoming]
  · rw [holdRamp_still hactive, Tab.upd, RampDyn.onHold_still (Bool.eq_false_iff.2 hactive), Tab.put_get]

theorem holdAll_rampDyn (cause : Nat) : (holdAll cause s).rampDyn.get r = (s.rampDyn.get r).onHold := by
  obtain ⟨u, hview, hlast⟩ := foldl_finRange_view (f := fun v q => holdRamp q cause v)
    (view := fun v => v.rampDyn.get r) r (fun t q hq => by rw [holdRamp_rampDyn, Tab.get_upd_of_ne _ hq]) s
  refine hlast.trans ?_
  rw [holdRamp_rampDyn, Tab.get_upd_self]
  exact congrArg RampDyn.onHold hview

/-! ## What else a hold reaches -/

theorem raiseCode_config (h : s.device = .config) (x : Activation) : raiseCode x s = s := if_pos h

theorem raiseInternal_config (h : s.device = .config) (c : Option Code) (a : Option Addr) (z : Option ZoneId)
    (w : Word16) : raiseInternal c a z w s = s := by
  cases c with
  | none => rfl
  | some c => exact raiseCode_config h _

theorem raiseMark_config (h : s.device = .config) (set : CounterSet) (i : CounterId) (m : Nat) :
    raiseMark set i m s = s := by
  simp only [raiseMark, raiseInternal_config h, ite_self]

/-- A count's mark is an activation, which CONFIG does not take. -/
theorem bump_codes_config (h : s.device = .config) (set : CounterSet) (i : CounterId) (n : Nat) :
    (bump set i n s).codes = s.codes := by
  unfold bump
  dsimp only
  split_ifs
  · exact (congrArg State.codes (raiseMark_config (s := setCounter _ _ _ s) h ..)).trans rfl
  · exact (congrArg State.codes (raiseMark_config (s := setCounter _ _ _ s) h ..)).trans rfl
  · rfl

/-- What a hold keeps: the core of the state, every output but the enables of ramps, which it may de-energise, and in
CONFIG the codes. -/
structure HoldKeeps (s t : State) : Prop where
  core : t.core = s.core
  outputs : ∀ m : LineId, t.outputs.get m = s.outputs.get m ∨
    ((s.lines.get m).fn.isRampEnable = true ∧ t.outputs.get m = false)
  codes : s.device = .config → t.codes = s.codes

namespace HoldKeeps

theorem lines (h : HoldKeeps s t) : t.lines = s.lines := congrArg (·.1.lines) h.core

theorem device (h : HoldKeeps s t) : t.device = s.device := congrArg (·.1.device) h.core

protected theorem refl : HoldKeeps s s := ⟨rfl, fun _ => .inl rfl, fun _ => rfl⟩

protected theorem trans (h : HoldKeeps s t) (k : HoldKeeps t u) : HoldKeeps s u where
  core := k.core.trans h.core
  outputs m := by
    obtain hk | ⟨hfn, hoff⟩ := k.outputs m
    · rw [hk]
      exact h.outputs m
    · exact .inr ⟨h.lines ▸ hfn, hoff⟩
  codes hconfig := (k.codes (h.device.trans hconfig)).trans (h.codes hconfig)

theorem then_eq (h : HoldKeeps s t) (core : u.core = t.core := by simp) (outputs : u.outputs = t.outputs := by simp)
    (codes : t.device = .config → u.codes = t.codes := by simp) : HoldKeeps s u :=
  h.trans ⟨core, fun m => .inl (congrArg (·.get m) outputs), codes⟩

protected theorem foldl {α : Type} {l : List α} {f : State → α → State} (h : HoldKeeps s t)
    (hf : ∀ t x, HoldKeeps t (f t x)) : HoldKeeps s (l.foldl f t) := by
  induction l generalizing t with
  | nil => exact h
  | cons x l ih => exact ih (h.trans (hf t x))

protected theorem bumpPort (h : HoldKeeps s t) {p : Port} {i : CounterId} : HoldKeeps s (bumpPort p i t) :=
  h.then_eq (codes := fun hconfig => bump_codes_config hconfig ..)

protected theorem sendTx (h : HoldKeeps s t) {p : Port} {cls : TxClass} {f : TxFrame} :
    HoldKeeps s (sendTx p cls f t) := by
  refine h.then_eq (codes := fun hconfig => ?_)
  unfold Machine.sendTx offerTx
  dsimp only
  split_ifs
  · rfl
  · exact bump_codes_config hconfig ..
  · exact startTransmission_codes ..

protected theorem jobCommand? (h : HoldKeeps s t) {a : Option Addr} {p : List Byte} :
    HoldKeeps s (jobCommand? a p t) := by
  cases a with
  | none => exact h
  | some a =>
    unfold Machine.jobCommand? Machine.jobCommand
    dsimp only
    split
    · exact h.sendTx
    · exact h.bumpPort

protected theorem modRamp (h : HoldKeeps s t) {f : RampDyn → RampDyn} : HoldKeeps s (t.modRamp r f) := h.then_eq
protected theorem releaseDrive (h : HoldKeeps s t) : HoldKeeps s (releaseDrive r t) :=
  h.then_eq (release?_core ..) (release?_outputs ..) fun _ => release?_codes ..

protected theorem raiseRamp (h : HoldKeeps s t) {c : Option Code} {w : Word16} : HoldKeeps s (raiseRamp r c w t) :=
  h.then_eq (raiseInternal_core ..) (raiseInternal_outputs ..) fun hconfig => by
    rw [Machine.raiseRamp, raiseInternal_config hconfig]

/-- The order to de-energise reaches the line of the ramp's record alone, and only while it is a ramp enable. -/
protected theorem orderOff (h : HoldKeeps s t) : HoldKeeps s (orderEnable r false t) := by
  refine h.trans ⟨orderEnable_core .., fun m => ?_, fun _ => orderEnable_codes ..⟩
  unfold orderEnable
  split
  · exact .inl rfl
  · next n _ =>
    unfold orderOutput
    split_ifs with hfn hon
    · exact .inl rfl
    · cases hon
    · cases hon
    · by_cases hmn : n = m
      · subst hmn
        refine .inr ⟨?_, Tab.get_put_self ..⟩
        rw [of_not_not hfn]
        rfl
      · exact .inl (Tab.get_put_of_ne _ hmn _)

protected theorem holdRamp (h : HoldKeeps s t) {cause : Nat} : HoldKeeps s (holdRamp r cause t) := by
  unfold Machine.holdRamp
  split
  · exact h.modRamp.jobCommand?.raiseRamp
  · exact h.modRamp.jobCommand?.raiseRamp
  · exact h.modRamp.jobCommand?.jobCommand?.orderOff.releaseDrive.raiseRamp
  · exact h

protected theorem holdAll (h : HoldKeeps s t) {cause : Nat} : HoldKeeps s (holdAll cause t) :=
  h.foldl fun _ _ => HoldKeeps.refl.holdRamp

end HoldKeeps

end RampHolds

end Sys2Proof.Machine
end

section

-- One proof after another: the many short ones of this section would otherwise each hold a thread while they wait.
set_option Elab.async false

namespace Sys2Proof.Machine

/-! # The Direct Line Unit (R55 to R60) -/

/-! ## What the Timer Bank changes when a source changes (R66, R67) -/

section Bank

variable {s t u : State} {ch : ChannelId}

/-- The Timer Bank's items and the codes alone may differ. -/
def BankOnly (s t : State) : Prop := t = { s with timerDyn := t.timerDyn, codes := t.codes }

namespace BankOnly

protected theorem refl : BankOnly s s := rfl

protected theorem trans (h : BankOnly s t) (k : BankOnly t u) : BankOnly s u := by
  unfold BankOnly at *
  rw [k, h]

protected theorem ite {c : Prop} [Decidable c] (ht : BankOnly s t) (hu : BankOnly s u) :
    BankOnly s (if c then t else u) := by
  split
  · exact ht
  · exact hu

protected theorem foldl {α : Type} {l : List α} {f : State → α → State} (h : BankOnly s t)
    (hf : ∀ t x, BankOnly t (f t x)) : BankOnly s (l.foldl f t) := by
  induction l generalizing t with
  | nil => exact h
  | cons x l ih => exact ih (h.trans (hf t x))

protected theorem modTimer {f : TimerDyn → TimerDyn} : BankOnly s (s.modTimer ch f) := rfl

protected theorem raiseChannel : BankOnly s (raiseChannel ch s) := by
  have hraise (c : Option Code) (a : Option Addr) (z : Option ZoneId) (w : Word16) :
      BankOnly s (raiseInternal c a z w s) := by
    unfold BankOnly
    rw [raiseInternal_frame]
  unfold Machine.raiseChannel
  dsimp only
  split
  · exact hraise ..
  · exact hraise ..

protected theorem channelSource {active : Bool} : BankOnly s (channelSource ch active s) := by
  unfold Machine.channelSource
  refine .ite ?_ .refl
  split
  · exact .refl
  · exact .refl
  · exact .ite (.ite .modTimer (BankOnly.modTimer.trans .raiseChannel)) .refl
  · exact .ite (.ite .modTimer .refl) .modTimer

protected theorem sourceChanged {src : TimerSource} {active : Bool} : BankOnly s (sourceChanged src active s) :=
  BankOnly.refl.foldl fun _ _ => .ite .channelSource .refl

theorem kept (h : BankOnly s t) : t.kept = { s.kept with timerDyn := t.timerDyn } := congrArg State.kept h

theorem eq {α : Type} {item : State → α} (h : BankOnly s t)
    (hitem : ∀ d c, item { s with timerDyn := d, codes := c } = item s := by intros; rfl) : item t = item s :=
  (congrArg item h).trans (hitem _ _)

end BankOnly

/-- While no channel is RUNNING a change of a source reaches none. -/
theorem sourceChanged_idle (h : ∀ ch : ChannelId, (s.timerDyn.get ch).running = false) (src : TimerSource)
    (active : Bool) : sourceChanged src active s = s :=
  List.foldl_fixed' (fun ch => by rw [channelSource_idle active (.inl (h ch)), ite_self]) _

end Bank

section Lines

variable {s t u : State} {n : LineId}

/-! ## The functions of a line -/

theorem isInput_iff {fn : LineFn} :
    fn.isInput = true ↔ fn = .generalIn ∨ fn = .stopLoop ∨ fn = .alarmButton ∨ fn = .unassigned := by
  cases fn <;> simp [LineFn.isInput]

theorem isRampEnable_iff {fn : LineFn} : fn.isRampEnable = true ↔ ∃ r : RampId, fn = .rampEnable r := by
  cases fn <;> simp [LineFn.isRampEnable]

theorem isOutput_iff {fn : LineFn} :
    fn.isOutput = true ↔ (∃ r : RampId, fn = .rampEnable r) ∨ ∃ z : ZoneId, fn = .doorHold z := by
  cases fn <;> simp [LineFn.isOutput]

/-! ## The stop loop (R58) -/

theorem stopLoopOpen_iff :
    stopLoopOpen s = true ↔ ∃ n : LineId, (s.lines.get n).fn = .stopLoop ∧ (s.lineDyn.get n).filtered = false := by
  simp [stopLoopOpen]

theorem stopLoopOpen_congr (hlines : t.lines = s.lines)
    (hfiltered : ∀ n : LineId, (t.lineDyn.get n).filtered = (s.lineDyn.get n).filtered) :
    stopLoopOpen t = stopLoopOpen s := by
  simp only [stopLoopOpen, hlines, hfiltered]

/-! ## A filtered change reaches the user of the line's function, then the Timer Bank (R55 to R59) -/

/-- The filtered value of a line has taken the value given. -/
def State.withFiltered (s : State) (n : LineId) (active : Bool) : State :=
  { s with lineDyn := Tab.put s.lineDyn n { s.lineDyn.get n with filtered := active, candidate := none } }

theorem lineChanges_generalIn {c : Code} {active : Bool} (hfn : (s.lines.get n).fn = .generalIn)
    (hcode : (s.lines.get n).code = some c) :
    lineChanges n active s =
      sourceChanged (.line n) active (generalInChanged n c active (s.withFiltered n active)) := by
  unfold lineChanges
  rw [hfn, hcode]
  rfl

theorem lineChanges_stopLoop {active : Bool} (hfn : (s.lines.get n).fn = .stopLoop) :
    lineChanges n active s = sourceChanged (.line n) active (judgeLoop s (s.withFiltered n active)) := by
  unfold lineChanges
  rw [hfn]
  rfl

theorem lineChanges_alarmButton {active : Bool} (hfn : (s.lines.get n).fn = .alarmButton) :
    lineChanges n active s =
      sourceChanged (.line n) active
        (if active then (alarmRaise .internal (BitVec.ofNat 16 n.val) (s.withFiltered n active)).2
        else s.withFiltered n active) := by
  unfold lineChanges
  rw [hfn]
  rfl

theorem lineChanges_unused {active : Bool}
    (hfn : (s.lines.get n).fn = .unassigned ∨ ((s.lines.get n).fn = .generalIn ∧ (s.lines.get n).code = none)) :
    lineChanges n active s = sourceChanged (.line n) active (s.withFiltered n active) := by
  unfold lineChanges
  obtain hfn | ⟨hfn, hcode⟩ := hfn
  · rw [hfn]
    rfl
  · rw [hfn, hcode]
    rfl

/-- A change of a GENERAL_IN line reaches the counts and the codes alone. -/
theorem generalInChanged_frame (c : Code) (active : Bool) :
    generalInChanged n c active s =
      { s with
        lineCounts := (generalInChanged n c active s).lineCounts, codes := (generalInChanged n c active s).codes } := by
  unfold generalInChanged
  dsimp only
  split
  · rw [raiseCode_frame, setLineCount_frame]
  · rw [setLineCount_frame]

/-- Of what no job changes, the counts of active lines and the timers alone may differ. -/
def LineOnly (s t : State) : Prop := t.kept = { s.kept with lineCounts := t.lineCounts, timerDyn := t.timerDyn }

namespace LineOnly

protected theorem trans (h : LineOnly s t) (k : LineOnly t u) : LineOnly s u := by
  unfold LineOnly at *
  rw [k, h]

theorem of_kept (h : t.kept = s.kept) : LineOnly s t := by
  have hcounts : t.lineCounts = s.lineCounts := congrArg Kept.lineCounts h
  have htimers : t.timerDyn = s.timerDyn := congrArg Kept.timerDyn h
  unfold LineOnly
  rw [h, hcounts, htimers]
  rfl

theorem of_bankOnly (h : BankOnly s t) : LineOnly s t := by
  have hcounts : t.lineCounts = s.lineCounts := h.eq
  unfold LineOnly
  rw [h.kept, hcounts]
  rfl

protected theorem generalInChanged {c : Code} {active : Bool} : LineOnly s (generalInChanged n c active s) := by
  unfold LineOnly
  rw [generalInChanged_frame]
  rfl

theorem lineDyn (h : LineOnly s t) : t.lineDyn = s.lineDyn := congrArg Kept.lineDyn h

end LineOnly

/-- Of what no job changes, a filtered change of an input line reaches the line's filter, the counts of active lines
and the timers alone. -/
theorem lineChanges_lineOnly (hin : (s.lines.get n).fn.isInput = true) (active : Bool) :
    LineOnly (s.withFiltered n active) (lineChanges n active s) := by
  have htold {u : State} (hu : LineOnly (s.withFiltered n active) u) :
      LineOnly (s.withFiltered n active) (sourceChanged (.line n) active u) :=
    hu.trans (.of_bankOnly .sourceChanged)
  obtain hfn | hfn | hfn | hfn := isInput_iff.1 hin
  · cases hcode : (s.lines.get n).code with
    | none =>
      rw [lineChanges_unused (.inr ⟨hfn, hcode⟩)]
      exact htold (.of_kept rfl)
    | some c =>
      rw [lineChanges_generalIn hfn hcode]
      exact htold .generalInChanged
  · rw [lineChanges_stopLoop hfn]
    exact htold (.of_kept (congrArg Prod.fst (Orderly.refl (e := .items)).judgeLoop.frame))
  · rw [lineChanges_alarmButton hfn]
    refine htold ?_
    split
    · exact .of_kept Orderly.refl.alarmRaise.frame
    · exact .of_kept rfl
  · rw [lineChanges_unused (.inl hfn)]
    exact htold (.of_kept rfl)

/-! ## A pin changes (R55, R60) -/

/-- The pin of a line has taken a level, and the line's reading with it. -/
def State.withPin (s : State) (n : LineId) (high : Bool) : State :=
  { s with
    pins := Tab.put s.pins n high
    lineDyn := Tab.put s.lineDyn n { s.lineDyn.get n with reading := readingOf (s.lines.get n) high } }

theorem withPin_withFiltered_lineDyn (high active : Bool) :
    ((s.withPin n high).withFiltered n active).lineDyn =
      Tab.put s.lineDyn n ⟨readingOf (s.lines.get n) high, active, none, (s.lineDyn.get n).countdown⟩ := by
  simp only [State.withPin, State.withFiltered, Tab.get_put_self, Tab.put_put]

theorem pinTakes_same {high : Bool} (h : s.pins.get n = high) : pinTakes n high s = s := if_pos h

theorem pinTakes_output {high : Bool} (h : s.pins.get n ≠ high) (hout : (s.lines.get n).fn.isOutput = true) :
    pinTakes n high s = { s with pins := Tab.put s.pins n high } := by
  unfold pinTakes
  rw [if_neg h]
  obtain ⟨r, hfn⟩ | ⟨z, hfn⟩ := isOutput_iff.1 hout
  · simp [hfn, LineFn.isInput, encoderPin]
  · simp [hfn, LineFn.isInput, encoderPin]

/-- The change reaches the reading; without a filter a reading that differs is a filtered change. -/
theorem pinTakes_input {high : Bool} (h : s.pins.get n ≠ high) (hin : (s.lines.get n).fn.isInput = true) :
    pinTakes n high s =
      if (s.lines.get n).checkTime = 0 ∧ (s.lineDyn.get n).filtered ≠ readingOf (s.lines.get n) high then
        lineChanges n (readingOf (s.lines.get n) high) (s.withPin n high)
      else s.withPin n high := by
  unfold pinTakes
  rw [if_neg h]
  dsimp only
  rw [if_pos hin]
  simp only [readLine, Tab.get_put_self, State.modLine, Tab.get_upd_self]
  rfl

theorem withPin_get (high : Bool) :
    (s.withPin n high).lineDyn.get n = { s.lineDyn.get n with reading := readingOf (s.lines.get n) high } :=
  Tab.get_put_self ..

/-! ## A sample (R56) -/

/-- The countdown of a line's filter is reloaded, its candidate as given. -/
def State.withSample (s : State) (n : LineId) (candidate : Option Bool) : State :=
  { s with
    lineDyn := Tab.put s.lineDyn n
      { s.lineDyn.get n with candidate := candidate, countdown := (s.lines.get n).checkTime } }

theorem withSample_withFiltered_lineDyn (candidate : Option Bool) (active : Bool) :
    ((s.withSample n candidate).withFiltered n active).lineDyn =
      Tab.put s.lineDyn n ⟨(s.lineDyn.get n).reading, active, none, (s.lines.get n).checkTime⟩ := by
  simp only [State.withSample, State.withFiltered, Tab.get_put_self, Tab.put_put]

theorem sampleLine_unfiltered (h : (s.lines.get n).checkTime = 0) : sampleLine n s = s := by
  simp [sampleLine, h]

theorem sampleLine_input (hin : (s.lines.get n).fn.isInput = true) (hcheck : 0 < (s.lines.get n).checkTime) :
    sampleLine n s =
      if (s.lineDyn.get n).reading = (s.lineDyn.get n).filtered then s.withSample n none
      else if (s.lineDyn.get n).candidate = some (s.lineDyn.get n).reading then
        lineChanges n (s.lineDyn.get n).reading (s.withSample n (s.lineDyn.get n).candidate)
      else s.withSample n (some (s.lineDyn.get n).reading) := by
  have hput (f : LineDyn → LineDyn) :
      (s.modLine n fun d => { d with countdown := (s.lines.get n).checkTime }).modLine n f =
        { s with
          lineDyn := Tab.put s.lineDyn n (f { s.lineDyn.get n with countdown := (s.lines.get n).checkTime }) } := by
    simp only [State.modLine, Tab.upd, Tab.get_put_self, Tab.put_put]
  unfold sampleLine
  dsimp only
  rw [if_pos ⟨hin, hcheck⟩, hput, hput]
  rfl

end Lines

/-- Settles O21: a pin by the function of its line (`pinTakes_same`, `pinTakes_output`, `pinTakes_input`), a sample by
its table (`sampleLine_input`); what a filtered change reaches is `lineChanges_lineOnly`. -/
theorem inputLineFilter : Obligations.InputLineFilter := by
  unfold Obligations.InputLineFilter
  refine ⟨fun s n high => ?_, fun s n hrun => ?_⟩
  · intro e reading pins
    refine ⟨fun hsame => ?_, fun hdiffers hout => ?_, fun hdiffers hfn => ?_⟩
    · exact congrArg (fun u => Host.Outcome.next (settle u)) (pinTakes_same hsame)
    · exact congrArg (fun u => Host.Outcome.next (settle u)) (pinTakes_output hdiffers hout)
    · have hin : e.fn.isInput = true := isInput_iff.2 hfn
      refine ⟨pinTakes n high s, rfl, ?_⟩
      have hpin : pinTakes n high s =
          if e.checkTime = 0 ∧ (s.lineDyn.get n).filtered ≠ reading then lineChanges n reading (s.withPin n high)
          else s.withPin n high := pinTakes_input hdiffers hin
      rw [hpin]
      split
      · next hchange =>
        have hline := lineChanges_lineOnly (s := s.withPin n high) hin reading
        generalize lineChanges n reading (s.withPin n high) = t at hline ⊢
        have hdyn : t.lineDyn = Tab.put s.lineDyn n ⟨reading, reading, none, (s.lineDyn.get n).countdown⟩ :=
          hline.lineDyn.trans (withPin_withFiltered_lineDyn ..)
        have hget : t.lineDyn.get n = ⟨reading, reading, none, (s.lineDyn.get n).countdown⟩ := by
          rw [hdyn, Tab.get_put_self]
        refine ⟨congrArg LineDyn.reading hget, ?_, (congrArg LineDyn.countdown hget).trans rfl, fun m hm => ?_, ?_⟩
        · exact (congrArg LineDyn.filtered hget).trans (if_pos hchange.1).symm
        · rw [hdyn, Tab.get_put_of_ne _ (Ne.symm hm)]
        · rw [hline.lineDyn]
          exact hline
      · next hstays =>
        have hget := withPin_get (s := s) (n := n) high
        refine ⟨congrArg LineDyn.reading hget, ?_, (congrArg LineDyn.countdown hget).trans rfl,
          fun m hm => Tab.get_put_of_ne _ (Ne.symm hm) _, rfl⟩
        refine (congrArg LineDyn.filtered hget).trans ?_
        by_cases hcheck : e.checkTime = 0
        · rw [if_pos hcheck]
          exact of_not_not fun h => hstays ⟨hcheck, h⟩
        · rw [if_neg hcheck]
  · intro e d
    refine ⟨fun hcheck => concluded_eq hrun (sampleLine_unfiltered hcheck), fun hfn hcheck => ?_⟩
    have hin : e.fn.isInput = true := isInput_iff.2 hfn
    refine ⟨sampleLine n s, concluded_eq hrun rfl, fun hsame => ?_, fun hdiffers hnew => ?_,
      fun hdiffers hagain => ?_⟩
    · rw [sampleLine_input hin hcheck, if_pos hsame]
      rfl
    · rw [sampleLine_input hin hcheck, if_neg hdiffers, if_neg hnew]
      rfl
    · rw [sampleLine_input hin hcheck, if_neg hdiffers, if_pos hagain]
      have hline := lineChanges_lineOnly (s := s.withSample n d.candidate) hin d.reading
      generalize lineChanges n d.reading (s.withSample n d.candidate) = t at hline ⊢
      refine ⟨?_, ?_⟩
      · exact hline.lineDyn.trans (withSample_withFiltered_lineDyn ..)
      · rw [hline.lineDyn]
        exact hline

end Sys2Proof.Machine
end

section

-- One proof after another: the many short ones of this section would otherwise each hold a thread while they wait.
set_option Elab.async false

namespace Sys2Proof.Machine

/-! # The users of an input line (R57 to R59, R72, R73, R87) -/

section Conditions

variable {s : State} {c d : Code}

/-! ## Latches and counts (R57, R72, R73) -/

theorem modCode_latch (f : CodeState → CodeState) (hf : ∀ k, (f k).latch = k.latch) :
    ((s.modCode c f).codes.get d).latch = (s.codes.get d).latch := by
  rw [State.modCode_codes, Tab.get_upd]
  split
  · next hcd => rw [hf, hcd]
  · rfl

/-- The part is in CONFIG or the code is present with sense EDGE: a condition report sets no latch then (R74). -/
def Quiet (s : State) (c : Code) : Prop :=
  s.device ≠ .config → (s.vectors.get c).present = true ∧ (s.vectors.get c).sense = .edge

theorem reportCondition_latch (h : Quiet s c) (src : CondSource) (holds : Bool) (a : Attributes) :
    ((reportCondition src c holds a s).codes.get d).latch = (s.codes.get d).latch := by
  have htail (x : Bool) (u : State) (hdevice : u.device = s.device) (hvectors : u.vectors = s.vectors) :
      (if x && inService u then
        if !(u.vectors.get c).present then vectorFault c a u
        else if (u.vectors.get c).level ≠ 0 ∧ (u.vectors.get c).gate = .dispatch ∧ (u.vectors.get c).sense = .level then
          setLatch c (u.codes.get c).attrs u
        else u
      else u) = u := by
    split_ifs with hnow habsent hlevel
    · obtain ⟨hpresent, -⟩ := h (by simp_all [inService])
      simp_all
    · obtain ⟨-, hsense⟩ := h (by simp_all [inService])
      simp_all
    · rfl
    · rfl
  have hrecorded (k : CodeState) : (k.withCond src holds).latch = k.latch := by cases src <;> rfl
  unfold reportCondition
  dsimp only
  split
  · exact modCode_latch _ hrecorded
  · by_cases hnew : (holds && !(s.codes.get c).condOf src) = true
    · rw [if_pos hnew, htail, modCode_latch, modCode_latch _ hrecorded]
      · exact fun _ => rfl
      · rfl
      · rfl
    · rw [if_neg hnew, htail, modCode_latch _ hrecorded]
      · rfl
      · rfl

/-- A count of lines that passes to or from 0 is reported (R57). -/
theorem setLineCount_passing {n : Nat} (h : ¬(s.lineCounts.get c = 0 ↔ n = 0)) :
    setLineCount c n s =
      reportCondition .line c (decide (n ≠ 0)) lineCondAttrs { s with lineCounts := Tab.put s.lineCounts c n } := by
  have hne : ¬(decide (s.lineCounts.get c = 0) = decide (n = 0)) := by rwa [decide_eq_decide]
  exact if_neg hne

theorem setLineCount_silent {n : Nat} (h : s.lineCounts.get c = 0 ↔ n = 0) :
    setLineCount c n s = { s with lineCounts := Tab.put s.lineCounts c n } := by
  have heq : decide (s.lineCounts.get c = 0) = decide (n = 0) := by rwa [decide_eq_decide]
  exact if_pos heq

theorem setLineCount_latch (h : Quiet s c) (n : Nat) :
    ((setLineCount c n s).codes.get d).latch = (s.codes.get d).latch := by
  by_cases hsame : s.lineCounts.get c = 0 ↔ n = 0
  · rw [setLineCount_silent hsame]
  · rw [setLineCount_passing hsame]
    exact reportCondition_latch (s := { s with lineCounts := Tab.put s.lineCounts c n }) h ..

/-- An activation of a code present with a level and sense EDGE sets its latch (R73). -/
theorem raiseCode_edge {x : Activation} (hdevice : s.device ≠ .config) (hcode : 3 ≤ x.code.val)
    (hpresent : (s.vectors.get x.code).present = true) (hlevel : (s.vectors.get x.code).level ≠ 0)
    (hsense : (s.vectors.get x.code).sense = .edge) : raiseCode x s = setLatch x.code x.attrs s := by
  have hhigh : ¬x.code.val ≤ 2 := by omega
  simp [raiseCode, hdevice, hhigh, hpresent, hlevel, hsense]

end Conditions

section Users

variable {s : State} {n : LineId} {c : Code}

/-- The activation that a line's change makes (R57). -/
def lineActivation (n : LineId) (c : Code) : Activation := ⟨c, ⟨.internal, none, none, BitVec.ofNat 16 n.val⟩, true⟩

theorem generalInChanged_begins :
    generalInChanged n c true s = raiseCode (lineActivation n c) (setLineCount c (s.lineCounts.get c + 1) s) := rfl

theorem generalInChanged_ends : generalInChanged n c false s = setLineCount c (s.lineCounts.get c - 1) s := rfl

/-- The count of active lines of a code stands at `k`. -/
def State.withCount (s : State) (c : Code) (k : Nat) : State := { s with lineCounts := Tab.put s.lineCounts c k }

theorem generalInChanged_first (h : s.lineCounts.get c = 0) :
    generalInChanged n c true s =
      raiseCode (lineActivation n c) (reportCondition .line c true lineCondAttrs (s.withCount c 1)) := by
  rw [generalInChanged_begins, h]
  exact congrArg (raiseCode _) (setLineCount_passing (by omega))

theorem generalInChanged_further (h : 0 < s.lineCounts.get c) :
    generalInChanged n c true s = raiseCode (lineActivation n c) (s.withCount c (s.lineCounts.get c + 1)) := by
  rw [generalInChanged_begins]
  exact congrArg (raiseCode _) (setLineCount_silent (by omega))

theorem generalInChanged_last (h : s.lineCounts.get c = 1) :
    generalInChanged n c false s = reportCondition .line c false lineCondAttrs (s.withCount c 0) := by
  rw [generalInChanged_ends, h]
  exact setLineCount_passing (by omega)

theorem generalInChanged_fewer (h : 2 ≤ s.lineCounts.get c) :
    generalInChanged n c false s = s.withCount c (s.lineCounts.get c - 1) := by
  rw [generalInChanged_ends]
  exact setLineCount_silent (by omega)

theorem generalInChanged_lineCounts (active : Bool) :
    (generalInChanged n c active s).lineCounts.get c =
      if active then s.lineCounts.get c + 1 else s.lineCounts.get c - 1 := by
  cases active
  · rw [generalInChanged_ends, setLineCount_lineCounts, Tab.get_put_self]
    rfl
  · rw [generalInChanged_begins, raiseCode_lineCounts, setLineCount_lineCounts, Tab.get_put_self]
    rfl

/-- An activation for a code present with a level and sense EDGE leaves its latch set and its attributes those of the
line; a release leaves the latch as it was (R57, R73). -/
theorem generalInChanged_edge (hdevice : s.device ≠ .config) (hcode : 3 ≤ c.val)
    (hpresent : (s.vectors.get c).present = true) (hlevel : (s.vectors.get c).level ≠ 0)
    (hsense : (s.vectors.get c).sense = .edge) (active : Bool) :
    ((generalInChanged n c active s).codes.get c).latch = (active || (s.codes.get c).latch) ∧
      (active = true →
        ((generalInChanged n c active s).codes.get c).attrs = ⟨.internal, none, none, BitVec.ofNat 16 n.val⟩) := by
  cases active
  · rw [generalInChanged_ends, setLineCount_latch fun _ => ⟨hpresent, hsense⟩]
    exact ⟨rfl, nofun⟩
  · have hraise : raiseCode (lineActivation n c) (setLineCount c (s.lineCounts.get c + 1) s) =
        setLatch c (lineActivation n c).attrs (setLineCount c (s.lineCounts.get c + 1) s) := by
      have hvectors : (setLineCount c (s.lineCounts.get c + 1) s).vectors = s.vectors := by rw [setLineCount_frame]
      exact raiseCode_edge (by rw [setLineCount_frame]; exact hdevice) hcode (by rw [hvectors]; exact hpresent)
        (by rw [hvectors]; exact hlevel) (by rw [hvectors]; exact hsense)
    rw [generalInChanged_begins, hraise]
    simp [setLatch, lineActivation]

/-! ## The stop loop (R58) -/

theorem judgeLoop_opens {t : State} (hclosed : stopLoopOpen s = false) (hopen : stopLoopOpen t = true) :
    judgeLoop s t = holdAll 2 (deEnergiseEnables t) := if_pos (by simp [hclosed, hopen])

theorem judgeLoop_stays {t : State} (h : stopLoopOpen t = true → stopLoopOpen s = true) : judgeLoop s t = t := by
  refine if_neg fun hopens => ?_
  rw [Bool.and_eq_true, Bool.not_eq_true'] at hopens
  obtain ⟨hclosed, hopen⟩ := hopens
  exact Bool.eq_false_iff.1 hclosed (h hopen)

theorem withFiltered_get (active : Bool) : ((s.withFiltered n active).lineDyn.get n).filtered = active := by
  rw [State.withFiltered, Tab.get_put_self]

theorem withFiltered_get_of_ne {m : LineId} (h : m ≠ n) (active : Bool) :
    (s.withFiltered n active).lineDyn.get m = s.lineDyn.get m := Tab.get_put_of_ne _ (Ne.symm h) _

theorem stopLoopOpen_falls (hfn : (s.lines.get n).fn = .stopLoop) : stopLoopOpen (s.withFiltered n false) = true :=
  stopLoopOpen_iff.2 ⟨n, hfn, withFiltered_get false⟩

/-- After a rise of a line the loop is open just while another one is inactive. -/
theorem stopLoopOpen_rises :
    stopLoopOpen (s.withFiltered n true) = true ↔
      ∃ m : LineId, m ≠ n ∧ (s.lines.get m).fn = .stopLoop ∧ (s.lineDyn.get m).filtered = false := by
  rw [stopLoopOpen_iff]
  constructor
  · rintro ⟨m, hfn, hlow⟩
    have hne : m ≠ n := by
      rintro rfl
      rw [withFiltered_get] at hlow
      cases hlow
    rw [withFiltered_get_of_ne hne] at hlow
    exact ⟨m, hne, hfn, hlow⟩
  · rintro ⟨m, hne, hfn, hlow⟩
    refine ⟨m, hfn, ?_⟩
    rwa [withFiltered_get_of_ne hne]

/-! ## The general alarm (R87) -/

theorem alarmRaise_config (h : s.device = .config) (o : Origin) (w : Word16) :
    (alarmRaise o w s).2 = bump .global 7 1 s := by
  rw [alarmRaise, if_pos h]
  rfl

theorem alarmRaise_inactive (hdevice : s.device ≠ .config) (hga : s.ga.active = false) (o : Origin) (w : Word16) :
    (alarmRaise o w s).2 = holdAll 1 (postCall alarmCall (s.modGa fun _ => ⟨true, some (o, w)⟩)).2 := by
  have hoff : ¬s.ga.active = true := Bool.eq_false_iff.1 hga
  rw [alarmRaise, if_neg hdevice, if_neg hoff]

/-- The call and the holds are the jobs', which leave the alarm's items alone. -/
theorem alarmRaise_ga (hdevice : s.device ≠ .config) (hga : s.ga.active = false) (o : Origin) (w : Word16) :
    (alarmRaise o w s).2.ga = ⟨true, some (o, w)⟩ := by
  rw [alarmRaise_inactive hdevice hga]
  exact congrArg (·.2.2) (Orderly.refl (e := .jobs)).postCall.holdAll.frame

theorem alarmRaise_holds (hdevice : s.device ≠ .config) (hga : s.ga.active = false) (o : Origin) (w : Word16)
    (r : RampId) : ((alarmRaise o w s).2.rampDyn.get r).state.isActive = false := by
  rw [alarmRaise_inactive hdevice hga, holdAll_rampDyn]
  exact RampDyn.onHold_inactive _

/-! ## A pin change that is a filtered change -/

theorem pinTakes_changes {high : Bool} (hpin : s.pins.get n ≠ high) (hin : (s.lines.get n).fn.isInput = true)
    (hcheck : (s.lines.get n).checkTime = 0) (hdiffers : (s.lineDyn.get n).filtered ≠ readingOf (s.lines.get n) high) :
    pinTakes n high s = lineChanges n (readingOf (s.lines.get n) high) (s.withPin n high) := by
  rw [pinTakes_input hpin hin, if_pos ⟨hcheck, hdiffers⟩]

theorem readingOf_enabled {e : LineEntry} (h : e.enable = true) (high : Bool) :
    readingOf e high = (high == e.activeHigh) := by
  simp [readingOf, h]

end Users

end Sys2Proof.Machine
end

section

-- One proof after another: the many short ones of this section would otherwise each hold a thread while they wait.
set_option Elab.async false

namespace Sys2Proof.Machine

/-! # Input lines that raise, the stop loop, and the output lines (R57 to R60, R87, R152) -/

section RaisingLines

variable {s : State} {n : LineId} {high : Bool}

/-- An unfiltered line that is not yet as its pin shows it takes the change at once. -/
theorem pinTakes_reads (hin : (s.lines.get n).fn.isInput = true) (hcheck : (s.lines.get n).checkTime = 0)
    (hon : (s.lines.get n).enable = true) (hpin : s.pins.get n ≠ high)
    (hfiltered : (s.lineDyn.get n).filtered = !(high == (s.lines.get n).activeHigh)) :
    pinTakes n high s = lineChanges n (high == (s.lines.get n).activeHigh) (s.withPin n high) := by
  have hreading := readingOf_enabled hon high
  rw [pinTakes_changes hpin hin hcheck (by rw [hfiltered, hreading]; exact Bool.not_ne_self _), hreading]

/-- With no channel RUNNING a change of a GENERAL_IN line is that of its counts and codes. -/
theorem lineChanges_generalIn_idle {c : Code} {active : Bool} (hfn : (s.lines.get n).fn = .generalIn)
    (hcode : (s.lines.get n).code = some c) (hidle : ∀ ch : ChannelId, (s.timerDyn.get ch).running = false) :
    lineChanges n active s = generalInChanged n c active (s.withFiltered n active) := by
  rw [lineChanges_generalIn hfn hcode, sourceChanged_idle]
  rw [generalInChanged_frame]
  exact hidle

end RaisingLines

/-- Settles O22: a line's change is told to its user (`lineChanges_generalIn`, `lineChanges_alarmButton`,
`lineChanges_stopLoop`, `lineChanges_unused`), then to the Timer Bank, which touches its items and the codes alone
(`BankOnly`). -/
theorem inputLineRaises : Obligations.InputLineRaises := by
  unfold Obligations.InputLineRaises
  refine ⟨⟨?general, ?alarm⟩, ?told, fun s n high => ?pin, fun s n hrun => ?sample⟩
  case general =>
    intro s n high c e v hfn hcode hcheck hon hpin hfiltered hidle hc hpresent hlevel hsense hdevice
    have htakes : pinTakes n high s =
        generalInChanged n c (high == e.activeHigh) ((s.withPin n high).withFiltered n (high == e.activeHigh)) :=
      (pinTakes_reads (isInput_iff.2 (.inl hfn)) hcheck hon hpin hfiltered).trans
        (lineChanges_generalIn_idle hfn hcode hidle)
    obtain ⟨hlatch, hattrs⟩ :=
      generalInChanged_edge (s := (s.withPin n high).withFiltered n (high == e.activeHigh)) (n := n) hdevice hc hpresent
        hlevel hsense (high == e.activeHigh)
    refine ⟨_, congrArg (fun u => Host.Outcome.next (settle u)) htakes, hlatch, fun h => hattrs (beq_iff_eq.2 h), ?_⟩
    rw [generalInChanged_lineCounts]
    simp only [beq_iff_eq]
    rfl
  case alarm =>
    intro s n high e hfn hcheck hon hpin hfiltered
    have htakes : pinTakes n high s = _ :=
      (pinTakes_reads (isInput_iff.2 (.inr (.inr (.inl hfn)))) hcheck hon hpin hfiltered).trans
        (lineChanges_alarmButton hfn)
    refine ⟨_, congrArg (fun u => Host.Outcome.next (settle u)) htakes, fun hoff => ?_, fun hon hdevice hga => ?_,
      fun hon hconfig => ?_⟩
    · have hlow : (high == (s.lines.get n).activeHigh) = false := beq_eq_false_iff_ne.2 hoff
      rw [hlow]
      exact BankOnly.sourceChanged.eq (item := State.ga)
    · have hhigh : (high == (s.lines.get n).activeHigh) = true := beq_iff_eq.2 hon
      rw [hhigh]
      refine ⟨?_, fun r => ?_⟩
      · exact (BankOnly.sourceChanged.eq (item := State.ga)).trans
          (alarmRaise_ga (s := (s.withPin n high).withFiltered n true) hdevice hga _ _)
      · rw [BankOnly.sourceChanged.eq (item := State.rampDyn)]
        exact alarmRaise_holds (s := (s.withPin n high).withFiltered n true) hdevice hga _ _ r
    · have hhigh : (high == (s.lines.get n).activeHigh) = true := beq_iff_eq.2 hon
      have hraise := alarmRaise_config (s := (s.withPin n high).withFiltered n true) hconfig .internal
        (BitVec.ofNat 16 n.val)
      rw [hhigh, if_pos rfl, hraise]
      refine ⟨(BankOnly.sourceChanged.eq (item := State.ga)).trans (bump_ga ..), ?_⟩
      rw [BankOnly.sourceChanged.eq (item := State.counters), bump_counters, bump_counters]
      rfl
  case told =>
    intro s n active e t told
    refine ⟨fun c hfn hcode => ?_, fun hfn => ?_, fun hfn => ?_, fun hfn => lineChanges_unused hfn⟩
    · intro k counted holds raised
      have hchange := lineChanges_generalIn (active := active) hfn hcode
      refine ⟨?_, ?_, ?_, ?_⟩ <;> rintro rfl hk
      · exact hchange.trans (congrArg (sourceChanged _ _) (generalInChanged_first (s := t) hk))
      · exact hchange.trans (congrArg (sourceChanged _ _) (generalInChanged_further (s := t) hk))
      · exact hchange.trans (congrArg (sourceChanged _ _) (generalInChanged_last (s := t) hk))
      · exact hchange.trans (congrArg (sourceChanged _ _) (generalInChanged_fewer (s := t) hk))
    · have hchange := lineChanges_alarmButton (active := active) hfn
      refine ⟨?_, ?_⟩
      · rintro rfl
        exact hchange
      · rintro rfl
        exact hchange
    · have hchange := lineChanges_stopLoop (active := active) hfn
      refine ⟨?_, ?_, ?_⟩
      · rintro rfl hclosed
        have hopen := stopLoopOpen_falls hfn
        exact ⟨hopen, hchange.trans (congrArg (sourceChanged _ _) (judgeLoop_opens hclosed hopen))⟩
      · rintro rfl hopen
        exact ⟨stopLoopOpen_falls hfn, hchange.trans (congrArg (sourceChanged _ _) (judgeLoop_stays fun _ => hopen))⟩
      · rintro rfl
        refine ⟨hchange.trans (congrArg (sourceChanged _ _) (judgeLoop_stays fun hopen => ?_)), stopLoopOpen_rises⟩
        obtain ⟨m, -, hm, hlow⟩ := stopLoopOpen_rises.1 hopen
        exact stopLoopOpen_iff.2 ⟨m, hm, hlow⟩
  case pin =>
    intro e reading hin hcheck hpin hdiffers
    exact congrArg (fun u => Host.Outcome.next (settle u)) (pinTakes_changes hpin hin hcheck hdiffers)
  case sample =>
    intro e d hin hcheck hdiffers hagain
    refine concluded_eq hrun ?_
    rw [sampleLine_input hin hcheck, if_neg hdiffers, if_pos hagain]
    rfl

/-! # Output orders (R60) and the opening of the stop loop (R58, R152) -/

section Outputs

variable {s : State} {n : LineId} {fn : LineFn}

theorem orderOutput_unfit {on : Bool} (h : (s.lines.get n).fn ≠ fn) : orderOutput n fn on s = s := if_pos h

theorem orderOutput_off (h : (s.lines.get n).fn = fn) : orderOutput n fn false s = s.setOutput n false :=
  if_neg (not_not_intro h)

theorem orderOutput_on (h : (s.lines.get n).fn = fn) (hservice : s.device ≠ .config)
    (hloop : fn.isRampEnable = true → stopLoopOpen s = false) : orderOutput n fn true s = s.setOutput n true := by
  have hpass : (inService s && (!fn.isRampEnable || !stopLoopOpen s)) = true := by
    cases henable : fn.isRampEnable with
    | false => simp [inService, hservice]
    | true => simp [inService, hservice, hloop henable]
  exact (if_neg (not_not_intro h)).trans (if_pos hpass)

theorem orderOutput_barred (h : s.device = .config ∨ (fn.isRampEnable = true ∧ stopLoopOpen s = true)) :
    orderOutput n fn true s = s := by
  have hbar : ¬(inService s && (!fn.isRampEnable || !stopLoopOpen s)) = true := by
    obtain hconfig | ⟨henable, hopen⟩ := h
    · simp [inService, hconfig]
    · simp [henable, hopen]
  by_cases hfn : (s.lines.get n).fn = fn
  · exact (if_neg (not_not_intro hfn)).trans (if_neg hbar)
  · exact orderOutput_unfit hfn

theorem orderEnable_named {r : RampId} (h : (s.ramps.get r).enableLine = some n) (on : Bool) :
    orderEnable r on s = orderOutput n (.rampEnable r) on s := by
  rw [orderEnable, h]

theorem orderDoorHold_named {z : ZoneId} (h : (s.zones.get z).doorHold = some n) (on : Bool) :
    orderDoorHold z on s = orderOutput n (.doorHold z) on s := by
  rw [orderDoorHold, h]

theorem drivenLevel_output (h : (s.lines.get n).fn.isOutput = true) :
    drivenLevel s n = some (s.outputs.get n == (s.lines.get n).activeHigh) := if_pos h

theorem drivenLevel_none (h : (s.lines.get n).fn.isOutput = false) : drivenLevel s n = none :=
  if_neg (Bool.eq_false_iff.1 h)

/-- The opening of the loop leaves every ramp enable DE-ENERGISED, the other outputs as they were. -/
theorem holdAll_deEnergiseEnables_outputs (cause : Nat) (m : LineId) :
    (holdAll cause (deEnergiseEnables s)).outputs.get m =
      if (s.lines.get m).fn.isRampEnable = true then false else s.outputs.get m := by
  have hdropped : (deEnergiseEnables s).outputs.get m =
      if (s.lines.get m).fn.isRampEnable = true then false else s.outputs.get m := Tab.get_of ..
  obtain hsame | ⟨henable, hoff⟩ := (HoldKeeps.refl (s := deEnergiseEnables s)).holdAll (cause := cause).outputs m
  · rw [hsame, hdropped]
  · rw [hoff]
    exact (if_pos henable).symm

theorem stopLoopOpen_holdAll (cause : Nat) : stopLoopOpen (holdAll cause s) = stopLoopOpen s := by
  have hcore := (HoldKeeps.refl (s := s)).holdAll (cause := cause) |>.core
  have hdyn : (holdAll cause s).lineDyn = s.lineDyn := congrArg (·.1.lineDyn) hcore
  exact stopLoopOpen_congr (congrArg (·.1.lines) hcore) fun m => by rw [hdyn]

end Outputs

section StopLoop

variable {s : State} {n : LineId} {high : Bool}

/-- A STOP_LOOP line whose pin takes its inactive level while the loop is closed opens it. -/
theorem pinTakes_opensLoop (hfn : (s.lines.get n).fn = .stopLoop) (hcheck : (s.lines.get n).checkTime = 0)
    (hon : (s.lines.get n).enable = true) (hlow : high ≠ (s.lines.get n).activeHigh) (hpin : s.pins.get n ≠ high)
    (hclosed : stopLoopOpen s = false) :
    pinTakes n high s =
      sourceChanged (.line n) false (holdAll 2 (deEnergiseEnables ((s.withPin n high).withFiltered n false))) := by
  have hreading : (high == (s.lines.get n).activeHigh) = false := beq_eq_false_iff_ne.2 hlow
  have hfiltered : (s.lineDyn.get n).filtered = true := by
    by_contra hoff
    exact Bool.eq_false_iff.1 hclosed (stopLoopOpen_iff.2 ⟨n, hfn, Bool.eq_false_iff.2 hoff⟩)
  have hclosed' : stopLoopOpen (s.withPin n high) = false := by
    refine (stopLoopOpen_congr (s := s) (t := s.withPin n high) rfl fun m => ?_).trans hclosed
    by_cases hm : m = n
    · subst hm
      rw [withPin_get]
    · exact congrArg LineDyn.filtered (Tab.get_put_of_ne _ (Ne.symm hm) _)
  rw [pinTakes_reads (isInput_iff.2 (.inr (.inl hfn))) hcheck hon hpin (by rw [hfiltered, hreading]; rfl), hreading]
  refine (lineChanges_stopLoop (s := s.withPin n high) hfn).trans ?_
  exact congrArg (sourceChanged _ _) (judgeLoop_opens hclosed' (stopLoopOpen_falls hfn))

end StopLoop

/-- Settles O23: the opening by `pinTakes_opensLoop`, the ramps by `holdAll_rampDyn`, the orders by the line they
name. -/
theorem stopLoopAndOutputs : Obligations.StopLoopAndOutputs := by
  unfold Obligations.StopLoopAndOutputs
  refine ⟨⟨?opening, ?enable, ?doorHold, ?driven⟩, fun s => stopLoopOpen_iff,
    fun fn => ⟨isInput_iff, isRampEnable_iff, isOutput_iff⟩⟩
  case opening =>
    intro s n high e hfn hcheck hon hlow hpin hclosed
    refine ⟨_, congrArg (fun u => Host.Outcome.next (settle u)) (pinTakes_opensLoop hfn hcheck hon hlow hpin hclosed),
      ?_, fun m => ?_, fun r => ?_⟩
    · have htold {u : State} : stopLoopOpen (sourceChanged (.line n) false u) = stopLoopOpen u :=
        BankOnly.sourceChanged.eq fun _ _ => stopLoopOpen_congr rfl fun _ => rfl
      rw [htold, stopLoopOpen_holdAll]
      exact stopLoopOpen_falls (s := s.withPin n high) hfn
    · rw [BankOnly.sourceChanged.eq (item := State.outputs)]
      exact holdAll_deEnergiseEnables_outputs ..
    · rw [BankOnly.sourceChanged.eq (item := State.rampDyn), holdAll_rampDyn]
      exact RampDyn.onHold_state _
  case enable =>
    intro s r n hline fits
    simp only [orderEnable_named hline]
    refine ⟨orderOutput_off, fun hfits hservice hclosed => orderOutput_on hfits hservice fun _ => hclosed,
      orderOutput_unfit, ?_⟩
    rintro (hunfit | hconfig | hopen)
    · exact orderOutput_unfit hunfit
    · exact orderOutput_barred (.inl hconfig)
    · exact orderOutput_barred (.inr ⟨rfl, hopen⟩)
  case doorHold =>
    intro s z n hline fits
    simp only [orderDoorHold_named hline]
    refine ⟨orderOutput_off, fun hfits hservice => orderOutput_on hfits hservice nofun, orderOutput_unfit, ?_⟩
    rintro (hunfit | hconfig)
    · exact orderOutput_unfit hunfit
    · exact orderOutput_barred (.inl hconfig)
  case driven =>
    intro s n
    refine ⟨fun hout hon => ?_, fun hout hoff => ?_, drivenLevel_none⟩
    · rw [drivenLevel_output hout, hon, Bool.true_beq]
    · rw [drivenLevel_output hout, hoff, Bool.false_beq]

end Sys2Proof.Machine
end

section

-- One proof after another: the many short ones of this section would otherwise each hold a thread while they wait.
set_option Elab.async false

namespace Sys2Proof.Machine

/-! # The requests for a timer channel (R63, R64, R67) -/

section TimerRequests

variable {s : State} {h : Header}

/-! ## The record that a write stores -/

section Fields

variable {f : TimerFields}

/-- What a source's fields say and what the stored source says. -/
def SourceStored : TimerSourceFields → Option TimerSource → Prop
  | .absent, x => x = none
  | .line n, x => ∃ i : LineId, i.val = n ∧ x = some (.line i)
  | .station b p, x => ∃ (a : Addr) (q : Fin 16), a.val + 1 = b ∧ q.val = min 15 p ∧ x = some (.station a q)

theorem val_of_index? {n i : Nat} {k : Fin n} (hk : index? n i = some k) : k.val = i := by
  unfold index? at hk
  split at hk
  · cases hk; rfl
  · cases hk

theorem sourceStored_of_timerSourceOf {g : TimerSourceFields} {x : Option TimerSource} (hx : timerSourceOf g = some x) :
    SourceStored g x := by
  cases g with
  | absent => exact (Option.some.inj hx).symm
  | line n =>
    obtain ⟨i, hi, rfl⟩ := Option.map_eq_some_iff.1 hx
    exact ⟨i, val_of_index? hi, rfl⟩
  | station b p =>
    obtain ⟨a, ha, rfl⟩ := Option.map_eq_some_iff.1 hx
    exact ⟨a, clampPoint p, (addr?_eq_some_iff b a).1 ha, Nat.min_comm p 15, rfl⟩

/-- A source outside the part's lines and addresses. -/
def SourceOutside (g : TimerSourceFields) : Prop :=
  (∃ n : Nat, 16 ≤ n ∧ g = .line n) ∨ ∃ a p : Nat, (a = 0 ∨ 255 ≤ a) ∧ g = .station a p

theorem timerSourceOf_eq_none_iff (g : TimerSourceFields) : timerSourceOf g = none ↔ SourceOutside g := by
  cases g with
  | absent => simp [timerSourceOf, SourceOutside]
  | line n => simp [timerSourceOf, SourceOutside, index?]
  | station a p =>
    simp [timerSourceOf, SourceOutside, addr?]
    omega

theorem timerSourceOf_eq_absent_iff (g : TimerSourceFields) : timerSourceOf g = some none ↔ g = .absent := by
  cases g <;> simp [timerSourceOf]

theorem maybeIndex?_eq_none_iff {n : Nat} {o : Option Nat} :
    maybeIndex? n o = none ↔ ∃ c : Nat, n ≤ c ∧ o = some c := by
  cases o <;> simp [maybeIndex?, index?]

/-- A field outside its list or range, or a mode that needs a source without one. -/
def TimerOutside (f : TimerFields) : Prop :=
  f.mode = none ∨ f.tick = none ∨ (∃ c : Nat, 64 ≤ c ∧ f.code = some c) ∨ (∃ n : Nat, 16 ≤ n ∧ f.source = .line n) ∨
    (∃ a p : Nat, (a = 0 ∨ 255 ≤ a) ∧ f.source = .station a p) ∨
    ((f.mode = some .count ∨ f.mode = some .width) ∧ f.source = .absent)

/-- The fields of a record that a write stores. -/
structure TimerStored (f : TimerFields) (r : TimerRecord) : Prop where
  mode : some r.mode = f.mode
  tick : some r.tick = f.tick
  reload : r.reload = min 65535 (max 1 f.reload)
  code : (r.code.map fun c => c.val) = f.code
  source : SourceStored f.source r.source

theorem timerOf_eq_some {mode : TimerMode} {tick : TimerTick} {source : Option TimerSource} {code : Option Code}
    (hmode : f.mode = some mode) (htick : f.tick = some tick) (hsource : timerSourceOf f.source = some source)
    (hcode : maybeIndex? 64 f.code = some code) :
    timerOf f =
      if (mode = .count ∨ mode = .width) ∧ source = none then none
      else some ⟨mode, tick, min 65535 (max 1 f.reload), source, code⟩ := by
  simp only [timerOf, hmode, htick, hsource, hcode]
  rfl

theorem timerOf_outside (hout : TimerOutside f) : timerOf f = none := by
  cases hmode : f.mode with
  | none => simp [timerOf, hmode]
  | some mode =>
  cases htick : f.tick with
  | none => simp [timerOf, htick]
  | some tick =>
  cases hsource : timerSourceOf f.source with
  | none => simp [timerOf, hsource]
  | some source =>
  cases hcode : maybeIndex? 64 f.code with
  | none => simp [timerOf, hcode]
  | some code =>
    have hin : ¬SourceOutside f.source := fun hbad => by
      rw [(timerSourceOf_eq_none_iff _).2 hbad] at hsource
      cases hsource
    obtain hbad | hbad | hbad | hbad | hbad | ⟨hneeds, habsent⟩ := hout
    · cases hmode.symm.trans hbad
    · cases htick.symm.trans hbad
    · cases hcode.symm.trans (maybeIndex?_eq_none_iff.2 hbad)
    · exact absurd (.inl hbad) hin
    · exact absurd (.inr hbad) hin
    · rw [timerOf_eq_some hmode htick hsource hcode, if_pos]
      refine ⟨by simpa [hmode] using hneeds, ?_⟩
      exact Option.some.inj (hsource.symm.trans ((timerSourceOf_eq_absent_iff _).2 habsent))

theorem timerOf_stored (hin : ¬TimerOutside f) : ∃ r : TimerRecord, timerOf f = some r ∧ TimerStored f r := by
  simp only [TimerOutside, not_or] at hin
  obtain ⟨hmode, htick, hcode, hline, hstation, hneeds⟩ := hin
  obtain ⟨mode, hmode⟩ := Option.ne_none_iff_exists'.1 hmode
  obtain ⟨tick, htick⟩ := Option.ne_none_iff_exists'.1 htick
  obtain ⟨code, hcode⟩ := Option.ne_none_iff_exists'.1 (mt maybeIndex?_eq_none_iff.1 hcode)
  obtain ⟨source, hsource⟩ :=
    Option.ne_none_iff_exists'.1 (mt (timerSourceOf_eq_none_iff f.source).1 (not_or.2 ⟨hline, hstation⟩))
  refine ⟨⟨mode, tick, min 65535 (max 1 f.reload), source, code⟩, ?_, ?_⟩
  · rw [timerOf_eq_some hmode htick hsource hcode, if_neg]
    rintro ⟨hmode', rfl⟩
    exact hneeds ⟨by simpa [hmode] using hmode', (timerSourceOf_eq_absent_iff _).1 hsource⟩
  · exact
      { mode := hmode.symm, tick := htick.symm, reload := rfl, code := maybeIndex?_val hcode
        source := sourceStored_of_timerSourceOf hsource }

end Fields

/-! ## Start, stop and write -/

/-- A channel that is started runs from its reload, a WIDTH channel in the phase its source gives (R64, R67). -/
theorem startChannel_eq (ch : ChannelId) :
    startChannel ch s =
      s.withTimer ch
        ⟨true, (s.timers.get ch).reload,
          if (s.timers.get ch).mode = .width then
            some (if sourceActive s (s.timers.get ch).source then .timing else .waiting)
          else none,
          nextTickOf s ch⟩ := by
  by_cases hwidth : (s.timers.get ch).mode = .width
  · have hsource : (timer s ch).usedSource = (s.timers.get ch).source := usedSource_of_count (.inr hwidth)
    simp only [startChannel, startPhase, hsource, State.modTimer_eq]
    rfl
  · have hmode : (timer s ch).mode ≠ .width := hwidth
    simp only [startChannel, startPhase, if_neg hwidth, if_neg hmode, State.modTimer_eq]
    rfl

theorem judgeTimerWrite_taken {f : TimerFields} {r : TimerRecord} {ch : ChannelId} (hf : timerOf f = some r)
    (hstopped : ¬(s.timerDyn.get ch).running = true) :
    judgeTimerWrite ch.val f s = .yes { s with timers := Tab.put s.timers ch r } (.timerStored r) := by
  simp only [judgeTimerWrite, index?_val, hf, if_neg hstopped]

theorem judgeTimerWrite_busy {f : TimerFields} {r : TimerRecord} {ch : ChannelId} (hf : timerOf f = some r)
    (hrunning : (s.timerDyn.get ch).running = true) : judgeTimerWrite ch.val f s = .no .busy := by
  simp only [judgeTimerWrite, index?_val, hf, if_pos hrunning]

theorem judgeTimerWrite_range {f : TimerFields} {n : Nat} (hout : 8 ≤ n ∨ timerOf f = none) :
    judgeTimerWrite n f s = .no .range := by
  obtain hn | hf := hout
  · simp only [judgeTimerWrite, index?_of_le hn]
  · simp only [judgeTimerWrite, hf]
    split
    · next habsurd => cases habsurd
    · rfl

theorem judgeTimerStart_config {ch : ChannelId} (hconfig : s.device = .config) :
    judgeTimerStart ch.val s = .no .state :=
  (withIndex_val ..).trans (if_neg (by simp [inService, hconfig]))

theorem judgeTimerStart_taken {ch : ChannelId} (hservice : s.device ≠ .config) :
    judgeTimerStart ch.val s = .yes (startChannel ch s) (.timerCount (s.timers.get ch).reload) := by
  have hcount : ((startChannel ch s).timerDyn.get ch).count = (s.timers.get ch).reload := by
    rw [startChannel_eq, State.withTimer_get]
  rw [← hcount]
  exact (withIndex_val ..).trans (if_pos (by simp [inService, hservice]))

theorem judgeTimerStop_taken {ch : ChannelId} :
    judgeTimerStop ch.val s =
      .yes (s.withTimer ch (s.timerDyn.get ch).halted) (.timerCount (s.timerDyn.get ch).count) := by
  have hcount : ((s.withTimer ch (s.timerDyn.get ch).halted).timerDyn.get ch).count = (s.timerDyn.get ch).count := by
    rw [State.withTimer_get]
    rfl
  rw [← hcount]
  exact withIndex_val ..

end TimerRequests

/-- Settles O26: each request by its judgement, refused or taken; the fields of a write by `timerOf_outside` and
`timerOf_stored`. -/
theorem timerRequests : Obligations.TimerRequests := by
  unfold Obligations.TimerRequests
  refine ⟨⟨fun s h f r hrun hauth hf => ⟨fun ch => ?_, fun n hn => ?_⟩, fun s h ch hrun hauth => ?_⟩,
    fun f => ⟨timerOf_outside, fun hin => ?_⟩, fun s h n hrun => ⟨fun f hauth hf => ?_, fun hauth hn => ?_⟩⟩
  · by_cases hrunning : (s.timerDyn.get ch).running = true
    · rw [if_pos hrunning]
      exact exec_request_refused (q := .timerWrite ch.val f) hrun hauth (judgeTimerWrite_busy hf hrunning)
    · rw [if_neg hrunning]
      exact exec_request_taken (q := .timerWrite ch.val f) (data := fun _ => .timerStored r) hrun hauth
        (judgeTimerWrite_taken hf hrunning)
  · exact exec_request_refused (q := .timerWrite n f) hrun hauth (judgeTimerWrite_range (.inl hn))
  · intro r len active phase
    refine ⟨fun hconfig => ?_, fun hservice => ?_, ?_, fun n hn => ?_⟩
    · exact exec_request_refused (q := .timerStart ch.val) hrun hauth (judgeTimerStart_config hconfig)
    · have hnext : (s.now / len + 1) * len = nextTickOf s ch := nextTickOf_eq.symm
      rw [hnext]
      exact exec_request_taken (q := .timerStart ch.val) (data := fun _ => .timerCount r.reload) hrun hauth
        ((judgeTimerStart_taken hservice).trans (congrArg (Judged.yes · _) (startChannel_eq ch)))
    · exact exec_request_taken (q := .timerStop ch.val)
        (data := fun _ => .timerCount (s.timerDyn.get ch).count) hrun hauth judgeTimerStop_taken
    · exact exec_request_refused (q := .timerStop n) hrun hauth (withIndex_of_le hn _)
  · obtain ⟨r, hr, hstored⟩ := timerOf_stored hin
    refine ⟨r, hr, hstored.mode, hstored.tick, hstored.reload, hstored.code, ?_⟩
    have hsource := hstored.source
    cases hg : f.source <;> rw [hg] at hsource <;> exact hsource
  · exact exec_request_refused (q := .timerWrite n f) hrun hauth (judgeTimerWrite_range (.inr hf))
  · exact exec_request_refused (q := .timerStart n) hrun hauth (withIndex_of_le hn _)

end Sys2Proof.Machine
end

section

-- One proof after another: the many short ones of this section would otherwise each hold a thread while they wait.
set_option Elab.async false

namespace Sys2Proof.Machine

/-! # The LINE write (R54, R61, R147) -/

/-! ## The entry that a write stores -/

section LineFields

variable {f : LineFields}

/-! The value stored for a written one is the least listed value not below it, or the last. -/

theorem leastListed_mem {l : List Nat} (hl : l ≠ []) (v : Nat) : leastListed l v ∈ l := by
  fun_induction leastListed l v with
  | case1 => exact absurd rfl hl
  | case2 => exact List.mem_cons_self
  | case3 => exact List.mem_cons_self
  | case4 x rest v hrest hgt ih => exact List.mem_cons_of_mem _ (ih fun h => hrest h)

theorem leastListed_le {l : List Nat} (hl : l.Pairwise (· ≤ ·)) {v x : Nat} (hx : x ∈ l) (hv : v ≤ x) :
    leastListed l v ≤ x := by
  fun_induction leastListed l v with
  | case1 => cases hx
  | case2 => exact (List.mem_singleton.1 hx).ge
  | case3 y rest v hrest hle =>
    obtain rfl | hx := List.mem_cons.1 hx
    · exact Nat.le_refl _
    · exact List.rel_of_pairwise_cons hl hx
  | case4 y rest v hrest hgt ih =>
    obtain rfl | hx := List.mem_cons.1 hx
    · exact absurd hv hgt
    · exact ih hl.of_cons hx hv

theorem le_leastListed {l : List Nat} {v x : Nat} (hx : x ∈ l) (hv : v ≤ x) : v ≤ leastListed l v := by
  fun_induction leastListed l v with
  | case1 => cases hx
  | case2 => exact List.mem_singleton.1 hx ▸ hv
  | case3 y rest v hrest hle => exact hle
  | case4 y rest v hrest hgt ih =>
    obtain rfl | hx := List.mem_cons.1 hx
    · exact absurd hv hgt
    · exact ih hx hv

theorem leastListed_of_gt {l : List Nat} (hl : l ≠ []) {v : Nat} (hv : ∀ x ∈ l, x < v) :
    leastListed l v = l.getLast hl := by
  fun_induction leastListed l v with
  | case1 => exact absurd rfl hl
  | case2 => rfl
  | case3 y rest v hrest hle => exact absurd (hv y List.mem_cons_self) (Nat.not_lt.2 hle)
  | case4 y rest v hrest hgt ih =>
    rw [ih (fun h => hrest h) fun x hx => hv x (List.mem_cons_of_mem y hx), List.getLast_cons]

/-- A function outside the list, or of a ramp or zone that the part does not have. -/
def FnOutside (g : LineFnFields) : Prop :=
  g = .outside ∨ (∃ n : Nat, 4 ≤ n ∧ (g = .encoderA n ∨ g = .encoderB n ∨ g = .rampEnable n)) ∨
    ∃ n : Nat, 8 ≤ n ∧ g = .doorHold n

theorem lineFnOf_eq_none_iff (g : LineFnFields) : lineFnOf g = none ↔ FnOutside g := by
  cases g <;> simp [lineFnOf, FnOutside, index?]

/-- What a function's fields say and what the stored function is. -/
def FnStored : LineFnFields → LineFn → Prop
  | .generalIn, fn => fn = .generalIn
  | .encoderA n, fn => ∃ r : RampId, r.val = n ∧ fn = .encoderA r
  | .encoderB n, fn => ∃ r : RampId, r.val = n ∧ fn = .encoderB r
  | .stopLoop, fn => fn = .stopLoop
  | .alarmButton, fn => fn = .alarmButton
  | .rampEnable n, fn => ∃ r : RampId, r.val = n ∧ fn = .rampEnable r
  | .doorHold n, fn => ∃ z : ZoneId, z.val = n ∧ fn = .doorHold z
  | .unassigned, fn => fn = .unassigned
  | .outside, _ => False

theorem fnStored_of_lineFnOf {g : LineFnFields} {fn : LineFn} (h : lineFnOf g = some fn) : FnStored g fn := by
  have hindexed {m n : Nat} {make : Fin m → LineFn} (hmake : (index? m n).map make = some fn) :
      ∃ i : Fin m, i.val = n ∧ fn = make i := by
    obtain ⟨i, hi, rfl⟩ := Option.map_eq_some_iff.1 hmake
    exact ⟨i, val_of_index? hi, rfl⟩
  cases g with
  | generalIn | stopLoop | alarmButton | unassigned => exact (Option.some.inj h).symm
  | encoderA | encoderB | rampEnable | doorHold => exact hindexed h
  | outside => cases h

/-- A function or a code outside its list or range. -/
def LineOutside (f : LineFields) : Prop :=
  f.fn = .outside ∨ (∃ n : Nat, 4 ≤ n ∧ (f.fn = .encoderA n ∨ f.fn = .encoderB n ∨ f.fn = .rampEnable n)) ∨
    (∃ n : Nat, 8 ≤ n ∧ f.fn = .doorHold n) ∨ ∃ c : Nat, 64 ≤ c ∧ f.code = some c

theorem lineOutside_iff : LineOutside f ↔ FnOutside f.fn ∨ ∃ c : Nat, 64 ≤ c ∧ f.code = some c := by
  simp only [LineOutside, FnOutside, or_assoc]

/-- The fields of an entry that a write stores. -/
structure LineStored (f : LineFields) (e : LineEntry) : Prop where
  fn : FnStored f.fn e.fn
  enable : e.enable = f.enable
  activeHigh : e.activeHigh = f.activeHigh
  code : (e.code.map fun c => c.val) = f.code
  checkTime : e.checkTime = leastListed lineCheckTimes f.checkTime

theorem lineOf_outside (h : LineOutside f) : lineOf f = none := by
  obtain hfn | hcode := lineOutside_iff.1 h
  · simp [lineOf, (lineFnOf_eq_none_iff _).2 hfn]
  · simp [lineOf, maybeIndex?_eq_none_iff.2 hcode]

theorem lineOf_stored (h : ¬LineOutside f) : ∃ e : LineEntry, lineOf f = some e ∧ LineStored f e := by
  obtain ⟨hfn, hcode⟩ := not_or.1 (mt lineOutside_iff.2 h)
  obtain ⟨fn, hfn⟩ := Option.ne_none_iff_exists'.1 (mt (lineFnOf_eq_none_iff f.fn).1 hfn)
  obtain ⟨code, hcode⟩ := Option.ne_none_iff_exists'.1 (mt maybeIndex?_eq_none_iff.1 hcode)
  refine ⟨⟨fn, f.enable, f.activeHigh, leastListed lineCheckTimes f.checkTime, code⟩, by simp [lineOf, hfn, hcode], ?_⟩
  exact
    { fn := fnStored_of_lineFnOf hfn, enable := rfl, activeHigh := rfl, code := maybeIndex?_val hcode
      checkTime := rfl }

end LineFields

/-! ## What a write leaves of the ramps, the outputs and the codes -/

section LineWrite

variable {s t : State} {n : LineId} {e : LineEntry} {r : RampId}

/-- A ramp whose encoder has changed (R147). -/
def RampDyn.lost (d : RampDyn) : RampDyn :=
  { d with
    referenced := false
    state := if d.state = .idle ∨ d.state = .held then .unreferenced else d.state
    meter := 65535, lastPeriod := 65535, bHigh := false }

theorem RampDyn.lost_lost (d : RampDyn) : d.lost.lost = d.lost := by
  by_cases h : d.state = .idle ∨ d.state = .held <;> simp [RampDyn.lost, h]

/-- A write concerns a ramp's encoder: the line's function changes, and the old or the new one is the ramp's. -/
def ConcernsEncoder (old new : LineFn) (r : RampId) : Prop :=
  old ≠ new ∧ (old.encoderOf = some r ∨ new.encoderOf = some r)

theorem loseReference_get (q : RampId) :
    (loseReference q s).rampDyn.get r = if q = r then (s.rampDyn.get r).lost else s.rampDyn.get r := by
  rw [loseReference, State.modRamp_rampDyn, Tab.get_upd]
  split
  · next hqr => rw [hqr]; rfl
  · rfl

theorem encoderChange_frame (old new : LineFn) :
    encoderChange old new s = { s with rampDyn := (encoderChange old new s).rampDyn } := by
  unfold encoderChange
  split
  · rfl
  · dsimp only
    split <;> split <;> rfl

/-- A ramp after an encoder line of function `fn` has been given or taken. -/
def LineFn.passes (fn : LineFn) (r : RampId) (d : RampDyn) : RampDyn := if fn.encoderOf = some r then d.lost else d

/-- A changed function concerns the ramp of the old one, then that of the new one. -/
theorem encoderChange_get {old new : LineFn} (h : old ≠ new) :
    (encoderChange old new s).rampDyn.get r = new.passes r (old.passes r (s.rampDyn.get r)) := by
  have hpass (fn : LineFn) (u : State) :
      (match fn.encoderOf with | none => u | some q => loseReference q u).rampDyn.get r =
        fn.passes r (u.rampDyn.get r) := by
    unfold LineFn.passes
    cases fn.encoderOf with
    | none => rfl
    | some q => simp only [loseReference_get, Option.some.injEq]
  unfold encoderChange
  rw [if_neg h]
  exact (hpass new _).trans (congrArg _ (hpass old s))

theorem encoderChange_concerned {old new : LineFn} (h : ConcernsEncoder old new r) :
    (encoderChange old new s).rampDyn.get r = (s.rampDyn.get r).lost := by
  obtain ⟨hne, hramp⟩ := h
  rw [encoderChange_get hne]
  unfold LineFn.passes
  split_ifs with hnew hold
  · exact RampDyn.lost_lost _
  · rfl
  · rfl
  · simp_all

theorem encoderChange_unconcerned {old new : LineFn} (h : ¬ConcernsEncoder old new r) :
    (encoderChange old new s).rampDyn.get r = s.rampDyn.get r := by
  by_cases hsame : old = new
  · rw [encoderChange, if_pos hsame]
  · obtain ⟨hold, hnew⟩ := not_or.1 fun hramp => h ⟨hsame, hramp⟩
    rw [encoderChange_get hsame, LineFn.passes, if_neg hnew, LineFn.passes, if_neg hold]

/-- A passage of the stop loop to open keeps what a hold keeps: its outputs are ramp enables, DE-ENERGISED. -/
theorem HoldKeeps.judgeLoop {before : State} : HoldKeeps t (judgeLoop before t) := by
  have hoff : HoldKeeps t (deEnergiseEnables t) :=
    { core := rfl
      codes := fun _ => rfl
      outputs := fun m => by
        by_cases henable : (t.lines.get m).fn.isRampEnable = true
        · exact .inr ⟨henable, (Tab.get_of ..).trans (if_pos henable)⟩
        · exact .inl ((Tab.get_of ..).trans (if_neg henable)) }
  unfold Machine.judgeLoop
  split
  · exact hoff.holdAll
  · exact .refl

theorem judgeLoop_still {before : State} (h : (t.rampDyn.get r).state.isActive = false) :
    (judgeLoop before t).rampDyn.get r = t.rampDyn.get r := by
  unfold judgeLoop
  split
  · exact holdAll_rampDyn 2 |>.trans (RampDyn.onHold_still h)
  · rfl

/-- The counts judged across a write in CONFIG set no latch. -/
theorem recount_latch (h : s.device = .config) (old new : Option Code) (c : Code) :
    ((recount old new s).codes.get c).latch = (s.codes.get c).latch := by
  have hjudge (x : Option Code) {u : State} (hu : u.device = .config) :
      ((judgeCount old new x u).codes.get c).latch = (u.codes.get c).latch := by
    cases x with
    | none => rfl
    | some c' => exact setLineCount_latch (fun hservice => absurd hu hservice) _
  by_cases hsame : old = new
  · subst hsame
    rw [recount_same]
  · have hdevice : (judgeCount old new old s).device = .config := by
      rw [judgeCount_frame]
      exact h
    rw [recount_of_ne hsame, hjudge new hdevice, hjudge old h]

/-! ## The write as a whole (R61) -/

/-- The line rewritten, its filter fresh and its output DE-ENERGISED. -/
def State.fresh (s : State) (n : LineId) (e : LineEntry) : State :=
  (s.withLine n e (freshFilter e (s.pins.get n))).setOutput n false

/-- The line rewritten, with the counts judged across the write. -/
def State.recounted (s : State) (n : LineId) (e : LineEntry) : State :=
  recount (activeCode (s.lines.get n) (s.lineDyn.get n)) (activeCode e (freshFilter e (s.pins.get n))) (s.fresh n e)

theorem writeLine_eq :
    writeLine n e s = encoderChange (s.lines.get n).fn e.fn (judgeLoop s (s.recounted n e)) := rfl

theorem recounted_frame :
    s.recounted n e =
      { s.fresh n e with lineCounts := (s.recounted n e).lineCounts, codes := (s.recounted n e).codes } :=
  recount_frame ..

theorem recounted_rampDyn : (s.recounted n e).rampDyn = s.rampDyn := by
  rw [recounted_frame]
  rfl

theorem recounted_device : (s.recounted n e).device = s.device := by
  rw [recounted_frame]
  rfl

theorem writeLine_core : (writeLine n e s).core = (s.recounted n e).core := by
  rw [writeLine_eq, encoderChange_frame]
  exact HoldKeeps.judgeLoop.core

theorem writeLine_kept :
    (writeLine n e s).kept =
      { s.kept with
        lines := Tab.put s.lines n e
        lineDyn := (writeLine n e s).lineDyn
        lineCounts := (writeLine n e s).lineCounts } := by
  have hkept : (writeLine n e s).kept = (s.recounted n e).kept := congrArg Prod.fst writeLine_core
  have hdyn : (writeLine n e s).lineDyn = (s.recounted n e).lineDyn := congrArg Kept.lineDyn hkept
  have hcounts : (writeLine n e s).lineCounts = (s.recounted n e).lineCounts := congrArg Kept.lineCounts hkept
  rw [hdyn, hcounts, hkept, recounted_frame]
  rfl

theorem writeLine_lineDyn : (writeLine n e s).lineDyn = Tab.put s.lineDyn n (freshFilter e (s.pins.get n)) := by
  have hcore : (writeLine n e s).lineDyn = (s.recounted n e).lineDyn := congrArg (·.1.lineDyn) writeLine_core
  rw [hcore, recounted_frame]
  rfl

theorem writeLine_ga : (writeLine n e s).ga = s.ga := by
  have hcore : (writeLine n e s).ga = (s.recounted n e).ga := congrArg (·.2.2) writeLine_core
  rw [hcore, recounted_frame]
  rfl

theorem writeLine_output : (writeLine n e s).outputs.get n = false := by
  have hoff : (s.recounted n e).outputs.get n = false := by
    rw [recounted_frame]
    exact Tab.get_put_self ..
  rw [writeLine_eq, encoderChange_frame]
  obtain hsame | ⟨-, hdropped⟩ := (HoldKeeps.judgeLoop (t := s.recounted n e) (before := s)).outputs n
  · exact hsame.trans hoff
  · exact hdropped

theorem writeLine_latch (h : s.device = .config) (c : Code) :
    ((writeLine n e s).codes.get c).latch = (s.codes.get c).latch := by
  rw [writeLine_eq, encoderChange_frame]
  have hcodes := (HoldKeeps.judgeLoop (t := s.recounted n e) (before := s)).codes (recounted_device.trans h)
  exact (congrArg (fun v => (v.get c).latch) hcodes).trans (recount_latch (s := s.fresh n e) h ..)

theorem writeLine_concerned (h : ConcernsEncoder (s.lines.get n).fn e.fn r) :
    (writeLine n e s).rampDyn.get r = ((judgeLoop s (s.recounted n e)).rampDyn.get r).lost :=
  encoderChange_concerned h

theorem writeLine_concerned_still (h : ConcernsEncoder (s.lines.get n).fn e.fn r)
    (hstill : (s.rampDyn.get r).state.isActive = false) :
    (writeLine n e s).rampDyn.get r = (s.rampDyn.get r).lost := by
  rw [writeLine_concerned h, judgeLoop_still, recounted_rampDyn]
  rw [recounted_rampDyn]
  exact hstill

theorem writeLine_unconcerned_still (h : ¬ConcernsEncoder (s.lines.get n).fn e.fn r)
    (hstill : (s.rampDyn.get r).state.isActive = false) : (writeLine n e s).rampDyn.get r = s.rampDyn.get r := by
  rw [writeLine_eq, encoderChange_unconcerned h, judgeLoop_still, recounted_rampDyn]
  rw [recounted_rampDyn]
  exact hstill

/-! ## The request -/

theorem judgeLineWrite_taken {f : LineFields} (hf : lineOf f = some e) (hconfig : s.device = .config) :
    judgeLineWrite n.val f s = .yes (writeLine n e s) (.lineStored e) := by
  simp only [judgeLineWrite, index?_val, hf, inConfigOnly, if_pos hconfig]

theorem judgeLineWrite_state {f : LineFields} (hf : lineOf f = some e) (hservice : s.device ≠ .config) :
    judgeLineWrite n.val f s = .no .state := by
  simp only [judgeLineWrite, index?_val, hf, inConfigOnly, if_neg hservice]

theorem judgeLineWrite_range {f : LineFields} {i : Nat} (hout : 16 ≤ i ∨ lineOf f = none) :
    judgeLineWrite i f s = .no .range := by
  obtain hi | hf := hout
  · simp only [judgeLineWrite, index?_of_le hi]
  · simp only [judgeLineWrite, hf]
    split
    · next habsurd => cases habsurd
    · rfl

end LineWrite

/-- Settles O25: the request by its judgement, the fields by `lineOf_outside` and `lineOf_stored`; what an accepted
write leaves is said item by item by the lemmas on `writeLine`. -/
theorem lineWriteResetsLine : Obligations.LineWriteResetsLine := by
  unfold Obligations.LineWriteResetsLine
  refine ⟨fun s h n f e hrun hauth hf => ?request, fun f => ⟨lineOf_outside, fun hin => ?stored⟩,
    fun s h n f hrun hauth hout => ?range⟩
  case request =>
    intro reading
    refine ⟨fun hservice => ?_, fun hconfig => ?_⟩
    · exact exec_request_refused (q := .lineWrite n.val f) hrun hauth (judgeLineWrite_state hf hservice)
    · refine ⟨writeLine n e s, exec_request_taken (q := .lineWrite n.val f) (data := fun _ => .lineStored e) hrun hauth
        (judgeLineWrite_taken hf hconfig), writeLine_lineDyn, writeLine_output, writeLine_latch hconfig, writeLine_ga,
        fun r hne hramp => ?_, fun r hstill => ?_, writeLine_kept⟩
      · rw [writeLine_concerned ⟨hne, hramp⟩]
        exact ⟨rfl, rfl, rfl, rfl⟩
      · intro d lost
        refine ⟨fun hlost hstate => ?_, fun hlost hstate => ?_, fun hnot => writeLine_unconcerned_still hnot hstill⟩
        · rw [writeLine_concerned_still hlost hstill]
          exact congrArg (fun x => { d.lost with state := x }) (if_pos hstate)
        · rw [writeLine_concerned_still hlost hstill]
          have hkeeps : ¬(d.state = .idle ∨ d.state = .held) := by
            obtain hstate | hstate := hstate <;> simp [hstate]
          exact congrArg (fun x => { d.lost with state := x }) (if_neg hkeeps)
  case range =>
    exact exec_request_refused (q := .lineWrite n f) hrun hauth (judgeLineWrite_range hout)
  case stored =>
    obtain ⟨e, he, hstored⟩ := lineOf_stored hin
    refine ⟨e, he, ?_, hstored.enable, hstored.activeHigh, hstored.code, ?_⟩
    · have hfn := hstored.fn
      cases hg : f.fn <;> rw [hg] at hfn <;> exact hfn
    · rw [hstored.checkTime]
      have hlast : ∀ x ∈ lineCheckTimes, x ≤ 64 := by decide
      exact ⟨leastListed_mem (by decide) _,
        fun hgt => leastListed_of_gt (by decide) fun x hx => (hlast x hx).trans_lt hgt,
        fun hle => ⟨le_leastListed (x := 64) (by decide) hle, fun x hx => leastListed_le (by decide) hx⟩⟩

end Sys2Proof.Machine
end

section

set_option Elab.async false

namespace Sys2Proof.Machine

/-! # The alert stores (R75 to R85)

What the Event Controller looks for among the pending codes, what an acceptance does, and what every operation keeps of
the Alert Stack, the Pass List and AL (R76). -/

/-! ## The choice among the pending codes (R75, R77, R79) -/

section Choice

variable {s : State} {c : Code} {l : List Code}

/-- Code `c` comes before code `d`: its level is higher, or equal with a number not above (R77, R79). -/
def Precedes (s : State) (c d : Code) : Prop :=
  (s.vectors.get d).level < (s.vectors.get c).level ∨
    ((s.vectors.get d).level = (s.vectors.get c).level ∧ c.val ≤ d.val)

theorem precedes_of_higher {d : Code} (h : higher s c d = true) : Precedes s c d := by
  simp only [higher, Precedes, Bool.or_eq_true, Bool.and_eq_true, decide_eq_true_eq] at h ⊢
  omega

theorem not_higher_iff {d : Code} : ¬higher s c d = true ↔ Precedes s d c := by
  simp only [higher, Precedes, Bool.or_eq_true, Bool.and_eq_true, decide_eq_true_eq]
  omega

theorem Precedes.refl : Precedes s c c := .inr ⟨rfl, le_rfl⟩

theorem Precedes.trans {d e : Code} (h : Precedes s c d) (k : Precedes s d e) : Precedes s c e := by
  unfold Precedes at *
  omega

theorem Precedes.antisymm {d : Code} (h : Precedes s c d) (k : Precedes s d c) : c = d := by
  unfold Precedes at *
  exact Fin.ext (by omega)

theorem bestCode_eq_none_iff : bestCode s l = none ↔ l = [] := by
  cases l with
  | nil => simp [bestCode]
  | cons d rest =>
    cases hrest : bestCode s rest with
    | none => simp [bestCode, hrest]
    | some e =>
      simp only [bestCode, hrest]
      split <;> simp

/-- The code chosen is of the list and comes before every other of it. -/
theorem mem_of_bestCode (h : bestCode s l = some c) : c ∈ l ∧ ∀ d ∈ l, Precedes s c d := by
  induction l generalizing c with
  | nil => cases h
  | cons e rest ih =>
    cases hrest : bestCode s rest with
    | none =>
      obtain rfl : rest = [] := bestCode_eq_none_iff.1 hrest
      obtain rfl : e = c := by simpa [bestCode] using h
      simp [Precedes.refl]
    | some d =>
      obtain ⟨hmem, hfirst⟩ := ih hrest
      simp only [bestCode, hrest] at h
      split at h
      · next hed =>
        obtain rfl := Option.some.inj h
        have hbefore := precedes_of_higher hed
        refine ⟨List.mem_cons_self, List.forall_mem_cons.2 ⟨.refl, fun x hx => hbefore.trans (hfirst x hx)⟩⟩
      · next hed =>
        obtain rfl := Option.some.inj h
        exact ⟨List.mem_cons_of_mem _ hmem, List.forall_mem_cons.2 ⟨not_higher_iff.1 hed, hfirst⟩⟩

theorem bestCode_eq_some_iff : bestCode s l = some c ↔ c ∈ l ∧ ∀ d ∈ l, Precedes s c d := by
  refine ⟨mem_of_bestCode, fun ⟨hmem, hfirst⟩ => ?_⟩
  cases hbest : bestCode s l with
  | none =>
    rw [bestCode_eq_none_iff.1 hbest] at hmem
    cases hmem
  | some d =>
    obtain ⟨hd, hfirst'⟩ := mem_of_bestCode hbest
    rw [(hfirst d hd).antisymm (hfirst' c hmem)]

theorem isPending_config (h : s.device = .config) : isPending s c = false := by simp [isPending, inService, h]

theorem mem_pendingCodes : c ∈ pendingCodes s ↔ isPending s c = true := by
  unfold pendingCodes
  split
  · simp
  · next h =>
    rw [isPending_config (by simpa [inService] using h)]
    simp

/-- A code for the stack or the list: pending, of gate HOLD or PASS, and not code 2. -/
def Eligible (s : State) (c : Code) : Prop := isPending s c = true ∧ (s.vectors.get c).gate ≠ .dispatch ∧ c ≠ 2

/-- A code for an offer: pending, of gate DISPATCH, and not waiting for the next supervision expiry. -/
def Offered (s : State) (c : Code) : Prop :=
  isPending s c = true ∧ (s.vectors.get c).gate = .dispatch ∧ (s.codes.get c).answer ≠ some .busy

theorem mem_eligible :
    c ∈ (pendingCodes s).filter (fun c => (s.vectors.get c).gate ≠ .dispatch && c.val ≠ 2) ↔ Eligible s c := by
  simp [Eligible, mem_pendingCodes, Fin.ext_iff]

theorem mem_offered :
    c ∈ (pendingCodes s).filter
      (fun c => (s.vectors.get c).gate = .dispatch && (s.codes.get c).answer ≠ some .busy) ↔ Offered s c := by
  simp [Offered, mem_pendingCodes]

theorem candidate_eq_none_iff : candidate s = none ↔ ∀ c : Code, ¬Eligible s c := by
  simp only [candidate, bestCode_eq_none_iff, List.eq_nil_iff_forall_not_mem, mem_eligible]

theorem candidate_eq_some_iff : candidate s = some c ↔ Eligible s c ∧ ∀ d : Code, Eligible s d → Precedes s c d := by
  simp only [candidate, bestCode_eq_some_iff, mem_eligible]

theorem nextOffer_eq_none_iff : nextOffer s = none ↔ ∀ c : Code, ¬Offered s c := by
  simp only [nextOffer, bestCode_eq_none_iff, List.eq_nil_iff_forall_not_mem, mem_offered]

theorem nextOffer_eq_some_iff : nextOffer s = some c ↔ Offered s c ∧ ∀ d : Code, Offered s d → Precedes s c d := by
  simp only [nextOffer, bestCode_eq_some_iff, mem_offered]

/-- A pending code other than 2 has no record in the stack or the list (R75). -/
theorem not_recorded_of_isPending (h : isPending s c = true) (hc : c ≠ 2) :
    ∀ r ∈ s.alerts.stack ++ s.alerts.pass, r.code ≠ c := by
  have hc2 : c.val ≠ 2 := fun h => hc (Fin.ext h)
  have hfree : isHeld s c = false := by
    simp only [isPending, Bool.and_eq_true, Bool.not_eq_true'] at h
    exact h.2
  intro r hr hcode
  simp only [isHeld, hc2, if_false, Bool.or_eq_false_iff, List.any_eq_false, decide_eq_true_eq] at hfree
  rcases List.mem_append.1 hr with hr | hr
  · exact hfree.1 r hr hcode
  · exact hfree.2 r hr hcode

end Choice

/-! ## Acceptance (R77, R84, R88) -/

section Acceptance

variable {s t : State}

/-- What the next acceptance can be. -/
theorem nextAcceptance_cases (h : nextAcceptance s = some t) :
    (∃ o detail, s.alerts.gaSlot = none ∧ t = acceptAlarm o detail s) ∨
      (s.alerts.escalation = none ∧ t = acceptEscalation s) ∨
      ∃ c : Code, Eligible s c ∧ canAccept s c = true ∧ t = acceptCode c s := by
  unfold nextAcceptance at h
  split at h
  · cases h
  · split at h
    · next hslot _ => exact .inl ⟨_, _, hslot, (Option.some.inj h).symm⟩
    · split at h
      · next hescalation => exact .inr (.inl ⟨hescalation.1, (Option.some.inj h).symm⟩)
      · split at h
        · cases h
        · next c hc =>
          split at h
          · next haccept => exact .inr (.inr ⟨c, (candidate_eq_some_iff.1 hc).1, haccept, (Option.some.inj h).symm⟩)
          · cases h

theorem canAccept_iff {c : Code} :
    canAccept s c = true ↔ s.alerts.al < (s.vectors.get c).level ∧
      (((s.vectors.get c).gate = .hold ∧ s.alerts.stack.length < 4) ∨
        ((s.vectors.get c).gate = .pass ∧ s.alerts.pass.length < 8)) := by
  unfold canAccept
  cases h : (s.vectors.get c).gate <;> simp [h]

@[simp] theorem sendAlert_alerts (c : Code) (level : Nat) (gate : Gate) (a : Attributes) :
    (sendAlert c level gate a s).alerts = s.alerts := by simp [sendAlert]

@[simp] theorem setLatch_alerts (c : Code) (a : Attributes) : (setLatch c a s).alerts = s.alerts := rfl

@[simp] theorem clearLatch_alerts (c : Code) : (clearLatch c s).alerts = s.alerts := rfl

@[simp] theorem modAlerts_alerts (f : Alerts → Alerts) : (s.modAlerts f).alerts = f s.alerts := rfl

@[simp] theorem modGa_alerts (f : GeneralAlarm → GeneralAlarm) : (s.modGa f).alerts = s.alerts := rfl

end Acceptance

/-! ## The stores after a change (R76) -/

section Stores

variable {x y : Alerts} {r : AlertRecord}

@[simp] theorem topLevel_append (l : List AlertRecord) (r : AlertRecord) : topLevel (l ++ [r]) = r.level := by
  simp [topLevel]

/-- A record of a level that a store reaches below its top is not above the top. -/
theorem level_le_topLevel {l : List AlertRecord} (h : l.Pairwise fun a b => a.level < b.level) (hr : r ∈ l) :
    r.level ≤ topLevel l := by
  induction l using List.reverseRecOn with
  | nil => cases hr
  | append_singleton l b _ =>
    rw [topLevel_append]
    obtain hr | hr := List.mem_append.1 hr
    · exact ((List.pairwise_append.1 h).2.2 r hr b (List.mem_singleton_self b)).le
    · exact (List.mem_singleton.1 hr) ▸ le_rfl

theorem alertsOk_empty : AlertsOk Alerts.empty := by
  simp [AlertsOk, Alerts.empty, topLevel]

/-- The two slots have no part in the invariant. -/
theorem AlertsOk.congr (h : AlertsOk x) (hstack : y.stack = x.stack) (hpass : y.pass = x.pass) (hal : y.al = x.al) :
    AlertsOk y := by
  unfold AlertsOk at *
  rwa [hstack, hpass, hal]

/-- A HOLD record of a level above AL and of a code without a record tops a stack that has a place (R77). -/
theorem AlertsOk.push (h : AlertsOk x) (hroom : x.stack.length < 4) (hgate : r.gate = .hold) (hlevel : x.al < r.level)
    (hcode : ∀ q ∈ x.stack ++ x.pass, q.code ≠ r.code) : AlertsOk (x.withStack (x.stack ++ [r])) := by
  obtain ⟨-, hpass, hhold, hpassed, hrising, hcodes, hal⟩ := h
  refine ⟨by simpa [Alerts.withStack] using hroom, hpass, ?_, hpassed, ?_, ?_, rfl⟩
  · intro q hq
    obtain hq | hq := List.mem_append.1 hq
    · exact hhold q hq
    · exact (List.mem_singleton.1 hq) ▸ hgate
  · refine List.pairwise_append.2 ⟨hrising, List.pairwise_singleton .., fun q hq p hp => ?_⟩
    rw [List.mem_singleton.1 hp]
    exact (level_le_topLevel hrising hq).trans_lt (hal ▸ hlevel)
  · have hmoved : ((x.stack ++ [r]) ++ x.pass).Perm ((x.stack ++ x.pass) ++ [r]) := by
      simpa using List.Perm.append_left x.stack (List.perm_append_comm (l₁ := [r]) (l₂ := x.pass))
    refine (hmoved.pairwise_iff fun {_ _} hne => Ne.symm hne).2 (List.pairwise_append.2 ⟨hcodes, ?_⟩)
    exact ⟨List.pairwise_singleton .., fun q hq p hp => List.mem_singleton.1 hp ▸ hcode q hq⟩

/-- A PASS record of a code without a record ends a list that has a place (R77). -/
theorem AlertsOk.pass (h : AlertsOk x) (hroom : x.pass.length < 8) (hgate : r.gate = .pass)
    (hcode : ∀ q ∈ x.stack ++ x.pass, q.code ≠ r.code) : AlertsOk { x with pass := x.pass ++ [r] } := by
  obtain ⟨hstack, -, hhold, hpassed, hrising, hcodes, hal⟩ := h
  refine ⟨hstack, by simpa using hroom, hhold, ?_, hrising, ?_, hal⟩
  · intro q hq
    obtain hq | hq := List.mem_append.1 hq
    · exact hpassed q hq
    · exact (List.mem_singleton.1 hq) ▸ hgate
  · change (x.stack ++ (x.pass ++ [r])).Pairwise _
    rw [← List.append_assoc]
    exact List.pairwise_append.2
      ⟨hcodes, List.pairwise_singleton .., fun q hq p hp => List.mem_singleton.1 hp ▸ hcode q hq⟩

/-- Records that leave the stores, AL recomputed, leave them sound (R81). -/
theorem AlertsOk.sublist (h : AlertsOk x) {stack pass : List AlertRecord} (hstack : stack.Sublist x.stack)
    (hpass : pass.Sublist x.pass) : AlertsOk { x with stack := stack, pass := pass, al := topLevel stack } := by
  obtain ⟨hfour, height, hhold, hpassed, hrising, hcodes, -⟩ := h
  exact ⟨hstack.length_le.trans hfour, hpass.length_le.trans height, fun r hr => hhold r (hstack.subset hr),
    fun r hr => hpassed r (hpass.subset hr), hrising.sublist hstack, hcodes.sublist (hstack.append hpass), rfl⟩

theorem topLevel_map {f : AlertRecord → AlertRecord} (hf : ∀ r, (f r).level = r.level) (l : List AlertRecord) :
    topLevel (l.map f) = topLevel l := by
  induction l using List.reverseRecOn with
  | nil => rfl
  | append_singleton l r _ => simp [hf]

/-- Marking records overdue changes neither code nor level nor gate (R82). -/
theorem AlertsOk.markOverdue (h : AlertsOk x) (c : Code) : AlertsOk (x.markOverdue c) := by
  obtain ⟨hfour, height, hhold, hpassed, hrising, hcodes, hal⟩ := h
  have hmark (r : AlertRecord) : (if r.code = c then r.expired else r).code = r.code ∧
      (if r.code = c then r.expired else r).level = r.level ∧ (if r.code = c then r.expired else r).gate = r.gate := by
    split <;> exact ⟨rfl, rfl, rfl⟩
  simp only [AlertsOk, Alerts.markOverdue, List.length_map, List.forall_mem_map, List.pairwise_map, ← List.map_append,
    fun r => (hmark r).1, fun r => (hmark r).2.1, fun r => (hmark r).2.2]
  exact ⟨hfour, height, hhold, hpassed, hrising, hcodes, hal.trans (topLevel_map (fun r => (hmark r).2.1) _).symm⟩

end Stores

end Sys2Proof.Machine
end

section

set_option Elab.async false

namespace Sys2Proof.Machine

/-! # What every step keeps of the alert stores (R76)

`KeepsAlerts s t` says that a run of operations from `s` to `t` keeps the invariant of the stores. What the jobs do
keeps the core of the state, and with it the stores (`Orderly.frame`); each other operation has one rule here. -/

/-- A run of operations keeps the Alert Stack, the Pass List and AL as R76 says. -/
structure KeepsAlerts (s t : State) : Prop where
  ok : AlertsOk s.alerts → AlertsOk t.alerts

namespace KeepsAlerts

variable {s t u : State}

protected theorem refl : KeepsAlerts s s := ⟨id⟩

protected theorem trans (h : KeepsAlerts s t) (k : KeepsAlerts t u) : KeepsAlerts s u := ⟨k.ok ∘ h.ok⟩

protected theorem ite {c : Prop} [Decidable c] (ht : KeepsAlerts s t) (hu : KeepsAlerts s u) :
    KeepsAlerts s (if c then t else u) := by
  split
  · exact ht
  · exact hu

protected theorem foldl {α : Type} {l : List α} {f : State → α → State} (h : KeepsAlerts s t)
    (hf : ∀ t x, KeepsAlerts t (f t x)) : KeepsAlerts s (l.foldl f t) := by
  induction l generalizing t with
  | nil => exact h
  | cons x l ih => exact ih (h.trans (hf t x))

/-- A change outside the stores. -/
theorem then_eq (h : KeepsAlerts s t) (alerts : u.alerts = t.alerts := by simp) : KeepsAlerts s u :=
  ⟨fun hs => alerts ▸ h.ok hs⟩

/-- What a job does. -/
theorem then_job (h : KeepsAlerts s t) (k : Orderly .jobs t u) : KeepsAlerts s u :=
  h.then_eq (congrArg (·.2.1) k.frame)

/-- A change of the two slots and of nothing else of the stores. -/
theorem then_slots (h : KeepsAlerts s t) (stack : u.alerts.stack = t.alerts.stack := by rfl)
    (pass : u.alerts.pass = t.alerts.pass := by rfl) (al : u.alerts.al = t.alerts.al := by rfl) : KeepsAlerts s u :=
  ⟨fun hs => (h.ok hs).congr stack pass al⟩

/-- The stores are empty. -/
theorem of_empty (h : t.alerts = Alerts.empty) : KeepsAlerts s t := ⟨fun _ => h ▸ alertsOk_empty⟩

/-! ## The judgement (R77 to R80, R84, R88) -/

protected theorem acceptAlarm {o detail} : KeepsAlerts s (acceptAlarm o detail s) :=
  ⟨fun hs => by refine hs.congr ?_ ?_ ?_ <;> simp [Machine.acceptAlarm]⟩

protected theorem acceptEscalation : KeepsAlerts s (acceptEscalation s) :=
  ⟨fun hs => by refine hs.congr ?_ ?_ ?_ <;> simp [Machine.acceptEscalation]⟩

protected theorem acceptCode {c} (hc : Eligible s c) (h : canAccept s c = true) : KeepsAlerts s (acceptCode c s) := by
  refine ⟨fun hs => ?_⟩
  have hfree := not_recorded_of_isPending hc.1 hc.2.2
  obtain ⟨hlevel, ⟨hgate, hroom⟩ | ⟨hgate, hroom⟩⟩ := canAccept_iff.1 h
  · simpa [Machine.acceptCode, hgate] using hs.push (r := newRecord c _ .hold _ s) hroom rfl hlevel hfree
  · simpa [Machine.acceptCode, hgate] using hs.pass (r := newRecord c _ .pass _ s) hroom rfl hfree

protected theorem nextAcceptance (h : nextAcceptance s = some t) : KeepsAlerts s t := by
  obtain ⟨o, detail, -, rfl⟩ | ⟨-, rfl⟩ | ⟨c, hc, haccept, rfl⟩ := nextAcceptance_cases h
  · exact .acceptAlarm
  · exact .acceptEscalation
  · exact .acceptCode hc haccept

protected theorem acceptFor {n} : KeepsAlerts s (acceptFor n s) := by
  induction n generalizing s with
  | zero => exact .refl
  | succ n ih =>
    unfold Machine.acceptFor
    split
    · exact .refl
    · next h => exact (KeepsAlerts.nextAcceptance h).trans ih

protected theorem settle (h : KeepsAlerts s t) : KeepsAlerts s (settle t) := by
  refine h.trans ?_
  unfold Machine.settle
  generalize 32 = n
  clear h
  induction n generalizing t with
  | zero => exact .refl
  | succ n ih => exact .ite (KeepsAlerts.trans (KeepsAlerts.acceptFor.then_job Orderly.refl.offerFor) ih) .refl

/-! ## Acknowledgement, overdue records, AUTONOMOUS, the general alarm (R81 to R91) -/

protected theorem afterRemoval (h : KeepsAlerts s t) : KeepsAlerts s (afterRemoval t) := .ite h (h.then_eq rfl)

protected theorem bumpGlobal (h : KeepsAlerts s t) {i} : KeepsAlerts s (bumpGlobal i t) := h.then_eq

protected theorem ackCode {c} : KeepsAlerts s (ackCode c s) := by
  have hslots : KeepsAlerts s (s.modAlerts fun x => { x with gaSlot := none }) := KeepsAlerts.refl.then_slots
  have hstack : KeepsAlerts s (s.modAlerts fun x => x.withStack (without c x.stack)) :=
    ⟨fun hs => hs.sublist (stack := without c s.alerts.stack) List.filter_sublist (List.Sublist.refl _)⟩
  have hpass : KeepsAlerts s (s.modAlerts fun x => { x with pass := without c x.pass }) := by
    refine ⟨fun hs => ?_⟩
    obtain ⟨-, -, -, -, -, -, hal⟩ := id hs
    exact (hs.sublist (pass := without c s.alerts.pass) (List.Sublist.refl _) List.filter_sublist).congr rfl rfl hal
  unfold Machine.ackCode
  refine .ite (.ite hslots.afterRemoval KeepsAlerts.refl.bumpGlobal) (.ite ?_ ?_)
  · exact .ite KeepsAlerts.refl.then_slots KeepsAlerts.refl.bumpGlobal
  · exact .ite hstack.afterRemoval (.ite hpass.afterRemoval KeepsAlerts.refl.bumpGlobal)

protected theorem ackByte {b} : KeepsAlerts s (ackByte b s) := by
  unfold Machine.ackByte
  split
  · exact KeepsAlerts.refl.bumpGlobal
  · exact .ackCode

protected theorem ackTimerOver {c} : KeepsAlerts s (ackTimerOver c s) := by
  have hmarked : KeepsAlerts s (s.modAlerts (·.markOverdue c)) := ⟨fun hs => hs.markOverdue c⟩
  unfold Machine.ackTimerOver
  split
  · exact .refl
  · exact (hmarked.bumpGlobal (i := ctrOverdue)).then_eq rfl

protected theorem enterAutonomous (h : KeepsAlerts s t) : KeepsAlerts s (enterAutonomous t) :=
  .ite ((KeepsAlerts.of_empty rfl).then_job Orderly.refl.holdAll) h

protected theorem escalationOver : KeepsAlerts s (escalationOver s) := by
  unfold Machine.escalationOver
  split
  · exact .refl
  · exact .ite (KeepsAlerts.bumpGlobal KeepsAlerts.refl.then_slots).enterAutonomous .refl

protected theorem alarmRaise (h : KeepsAlerts s t) {o detail} : KeepsAlerts s (alarmRaise o detail t).2 := by
  unfold Machine.alarmRaise
  split
  · exact h.bumpGlobal
  · split
    · split
      · exact h.bumpGlobal
      · exact h.then_eq rfl
    · exact (h.then_eq (u := t.modGa _) rfl).then_job Orderly.refl.postCall.holdAll

protected theorem alarmClear (h : KeepsAlerts s t) : KeepsAlerts s (alarmClear t) :=
  .ite ((h.then_eq (u := t.modGa _) rfl).then_job Orderly.refl.cancelCall) h

/-! ## The Timer Bank and the Direct Line Unit -/

protected theorem sourceChanged (h : KeepsAlerts s t) {src active} : KeepsAlerts s (sourceChanged src active t) :=
  h.then_eq BankOnly.sourceChanged.eq

protected theorem raiseChannel (h : KeepsAlerts s t) {ch} : KeepsAlerts s (raiseChannel ch t) :=
  h.then_eq BankOnly.raiseChannel.eq

protected theorem modTimer (h : KeepsAlerts s t) {ch f} : KeepsAlerts s (t.modTimer ch f) := h.then_eq

protected theorem tickChannel (h : KeepsAlerts s t) {ch} : KeepsAlerts s (tickChannel ch t) := by
  unfold Machine.tickChannel
  refine .ite ?_ h
  dsimp only
  split
  case h_1 | h_2 => exact .ite h.modTimer.modTimer (.ite h.modTimer.modTimer.raiseChannel h.modTimer.modTimer.raiseChannel)
  case h_3 => exact h.modTimer
  case h_4 => exact .ite (.ite h.modTimer.modTimer h.modTimer.modTimer.raiseChannel) h.modTimer

protected theorem judgeLoop (h : KeepsAlerts s t) {before} : KeepsAlerts s (judgeLoop before t) :=
  h.then_job Orderly.refl.judgeLoop

protected theorem generalInChanged (h : KeepsAlerts s t) {n c active} :
    KeepsAlerts s (generalInChanged n c active t) := h.then_eq (by rw [generalInChanged_frame])

protected theorem modLine (h : KeepsAlerts s t) {n f} : KeepsAlerts s (t.modLine n f) := h.then_eq

protected theorem lineChanges (h : KeepsAlerts s t) {n active} : KeepsAlerts s (lineChanges n active t) := by
  unfold Machine.lineChanges
  dsimp only
  refine KeepsAlerts.sourceChanged ?_
  split
  · exact h.modLine.generalInChanged
  · exact h.modLine.judgeLoop
  · exact .ite h.modLine.alarmRaise h.modLine
  · exact h.modLine

protected theorem readLine (h : KeepsAlerts s t) {n} : KeepsAlerts s (readLine n t) :=
  .ite h.modLine.lineChanges h.modLine

protected theorem pinTakes (h : KeepsAlerts s t) {n high} : KeepsAlerts s (pinTakes n high t) := by
  have htaken : KeepsAlerts s { t with pins := Tab.put t.pins n high } := h.then_eq rfl
  exact .ite h (.ite htaken.readLine (htaken.then_job Orderly.refl.encoderPin))

protected theorem encoderChanges (h : KeepsAlerts s t) {n high} : KeepsAlerts s (encoderChanges n high t) := by
  have htaken : KeepsAlerts s { t with pins := Tab.put t.pins n high } := h.then_eq rfl
  unfold Machine.encoderChanges
  split
  · exact h.pinTakes
  · exact htaken.then_job Orderly.refl.encoderPin

protected theorem sampleLine (h : KeepsAlerts s t) {n} : KeepsAlerts s (sampleLine n t) :=
  .ite (.ite h.modLine.modLine (.ite h.modLine.lineChanges h.modLine.modLine)) h

protected theorem writeLine (h : KeepsAlerts s t) {n e} : KeepsAlerts s (writeLine n e t) :=
  h.then_eq ((congrArg (·.2.1) writeLine_core).trans (by rw [recounted_frame]; rfl))

/-! ## The mirror and the Classifier -/

protected theorem modStation (h : KeepsAlerts s t) {a f} : KeepsAlerts s (t.modStation a f) := h.then_eq

protected theorem invalidateStation (h : KeepsAlerts s t) {a} : KeepsAlerts s (invalidateStation a t) :=
  .ite (h.then_eq rfl) h

protected theorem fillMirror (h : KeepsAlerts s t) {a r src} : KeepsAlerts s (fillMirror a r src t) :=
  .ite (.ite (h.then_eq (by simp)) (h.then_eq rfl)) h

protected theorem judgeMap (h : KeepsAlerts s t) {a old new m} : KeepsAlerts s (judgeMap a old new m t) :=
  .ite (h.then_eq (by rw [raiseCode_alerts, setMapCount_frame])) (.ite (h.then_eq (by rw [setMapCount_frame])) h)

protected theorem reports (h : KeepsAlerts s t) {a old new} :
    KeepsAlerts s (timerReports a old new (roleReport a old new t)) :=
  (h.then_job Orderly.refl.roleReport).foldl fun _ _ => .ite KeepsAlerts.refl.sourceChanged .refl

protected theorem pointsBecome (h : KeepsAlerts s t) {a new} : KeepsAlerts s (pointsBecome a new t) :=
  .ite h (.ite h.modStation.reports (h.modStation.reports.foldl fun _ _ => KeepsAlerts.refl.judgeMap))

protected theorem supervisionReport (h : KeepsAlerts s t) {a silent} : KeepsAlerts s (supervisionReport a silent t) :=
  h.then_job Orderly.refl.supervisionReport

protected theorem forwardUp (h : KeepsAlerts s t) {f} : KeepsAlerts s (forwardUp f t) := h.then_eq (sendTx_alerts ..)

protected theorem filterFrame (h : KeepsAlerts s t) {p} : KeepsAlerts s (filterFrame p t) :=
  h.then_eq (bumpPort_alerts ..)

protected theorem hearStation (h : KeepsAlerts s t) {a} : KeepsAlerts s (hearStation a t) :=
  .ite h.modStation.supervisionReport h.modStation

protected theorem takeState (h : KeepsAlerts s t) {a f r} : KeepsAlerts s (takeState a f r t) := by
  unfold Machine.takeState
  dsimp only
  generalize hreported : t.modStation a _ = u
  have hu : KeepsAlerts s u := hreported ▸ h.modStation
  generalize hfiltered : (if (t.stations.get a).checkTime = 0 then pointsBecome a r.inputs u else u) = v
  have hv : KeepsAlerts s v := hfiltered ▸ .ite hu.pointsBecome hu
  exact .ite (KeepsAlerts.forwardUp (.ite hv hv.fillMirror)) (.ite hv hv.fillMirror)

protected theorem deckFrame (h : KeepsAlerts s t) {d f} : KeepsAlerts s (deckFrame d f t) := by
  unfold Machine.deckFrame
  split
  · exact h.filterFrame
  · refine .ite ?_ (.ite h.filterFrame ?_)
    · split
      · exact h.filterFrame
      · exact (h.forwardUp (f := f)).then_eq (bumpPort_alerts ..)
    · split
      · exact h.hearStation.filterFrame
      · exact h.hearStation.takeState
      · exact .ite h.hearStation.forwardUp h.hearStation.forwardUp.fillMirror

protected theorem countSilence (h : KeepsAlerts s t) {a} : KeepsAlerts s (countSilence a t) :=
  .ite (.ite (KeepsAlerts.then_eq h.modStation.modStation.supervisionReport.invalidateStation (raiseInternal_alerts ..)) h.modStation) h

protected theorem countSample (h : KeepsAlerts s t) {a} : KeepsAlerts s (countSample a t) :=
  .ite h (.ite h.modStation.modStation.pointsBecome h.modStation)

protected theorem ageMirror (h : KeepsAlerts s t) : KeepsAlerts s (ageMirror t) := h.then_eq rfl

protected theorem reofferBusy (h : KeepsAlerts s t) : KeepsAlerts s (reofferBusy t) := h.then_eq rfl

protected theorem superviseAll (h : KeepsAlerts s t) : KeepsAlerts s (superviseAll t) := by
  have hstarted : KeepsAlerts s { t with supervisionDue := nextMultiple supervisionPeriod t.now } := h.then_eq rfl
  unfold Machine.superviseAll
  refine KeepsAlerts.foldl (KeepsAlerts.reofferBusy (KeepsAlerts.ageMirror ?_)) fun t _ =>
    KeepsAlerts.refl.then_job Orderly.refl.recoverLine
  exact (hstarted.foldl fun _ _ => KeepsAlerts.refl.countSilence).foldl fun _ _ => KeepsAlerts.refl.countSample

protected theorem recountMaps (h : KeepsAlerts s t) {a r r' w w'} : KeepsAlerts s (recountMaps a r r' w w' t) :=
  h.then_eq (by rw [recountMaps_frame])

protected theorem setOwner (h : KeepsAlerts s t) {a o} : KeepsAlerts s (t.setOwner a o) := h.then_eq

protected theorem writeStation (h : KeepsAlerts s t) {a r} : KeepsAlerts s (writeStation a r t) := by
  have hwritten : KeepsAlerts s { t with stations := Tab.put t.stations a r } := h.then_eq rfl
  exact .ite hwritten.modStation.reports.invalidateStation.recountMaps
    hwritten.modStation.setOwner.invalidateStation.recountMaps

/-! ## Resets and the entry to RUN -/

protected theorem resetEvents : KeepsAlerts s (resetEvents t) := .of_empty rfl

protected theorem reportLinesAnew (h : KeepsAlerts s t) : KeepsAlerts s (reportLinesAnew t) :=
  h.then_job Orderly.refl.reportLinesAnew

protected theorem reportMapsAnew (h : KeepsAlerts s t) : KeepsAlerts s (reportMapsAnew t) :=
  h.then_job Orderly.refl.reportMapsAnew

protected theorem resetZones (h : KeepsAlerts s t) : KeepsAlerts s (resetZones t) := h.then_eq rfl

theorem noCalls (h : KeepsAlerts s t) {l} : KeepsAlerts s { t with calls := [], zoneLines := l } := h.then_eq rfl

protected theorem resetCalls (h : KeepsAlerts s t) : KeepsAlerts s (resetCalls t) :=
  noCalls (h.foldl fun _ _ => .ite (KeepsAlerts.refl.then_job Orderly.refl.sendStop) .refl)

protected theorem resetRamps (h : KeepsAlerts s t) : KeepsAlerts s (resetRamps t) :=
  h.then_job Orderly.refl.resetRamps

protected theorem resetBlocks : KeepsAlerts s (resetBlocks s) :=
  KeepsAlerts.resetEvents.reportMapsAnew.reportLinesAnew.resetZones.resetCalls.resetRamps

protected theorem enterRun (h : KeepsAlerts s t) {b} : KeepsAlerts s (enterRun b t) :=
  (h.then_eq (u := { t with device := .run }) rfl).then_job Orderly.refl.zonesEnterRun

protected theorem restartPart : KeepsAlerts s (restartPart s).2 := by
  unfold Machine.restartPart
  dsimp only
  split
  · dsimp only
    exact .resetBlocks
  · dsimp only
    exact KeepsAlerts.resetBlocks.enterRun

end KeepsAlerts
end Sys2Proof.Machine
end

section

set_option Elab.async false

namespace Sys2Proof.Machine

section Requests

variable {s t : State}

/-! ## Requests -/

/-- A request, if taken from `s`, leaves a state that keeps the alert stores sound. -/
def Judged.KeepsStores (s : State) : Judged → Prop
  | .refused _ _ => True
  | .taken t _ => KeepsAlerts s t

namespace Judged.KeepsStores

theorem no {reason : Reason} : KeepsStores s (Judged.no reason) := trivial

/-- A request that leaves the alert stores alone. -/
theorem of_eq {d : State → Data} (h : t.alerts = s.alerts := by simp) : KeepsStores s (.taken t d) :=
  KeepsAlerts.refl.then_eq h

/-- A request that a job carries out. -/
theorem of_job {d : State → Data} (h : Orderly .jobs s t) : KeepsStores s (.taken t d) := KeepsAlerts.refl.then_job h

theorem taken {d : State → Data} (h : KeepsAlerts s t) : KeepsStores s (.taken t d) := h

protected theorem withIndex {n i : Nat} {f : Fin n → Judged} (h : ∀ k, KeepsStores s (f k)) :
    KeepsStores s (withIndex i f) := by
  unfold Machine.withIndex
  split
  · exact no
  · exact h _

protected theorem ite {c : Prop} [Decidable c] {j k : Judged} (hj : KeepsStores s j) (hk : KeepsStores s k) :
    KeepsStores s (if c then j else k) := by
  split
  · exact hj
  · exact hk

protected theorem inServiceOnly {j : Judged} (h : KeepsStores s j) : KeepsStores s (inServiceOnly s j) := .ite h .no

protected theorem inConfigOnly {j : Judged} (h : KeepsStores s j) : KeepsStores s (inConfigOnly s j) := .ite h .no

protected theorem inRunOnly {j : Judged} (h : KeepsStores s j) : KeepsStores s (inRunOnly s j) := .ite h .no

protected theorem rampAnswer {j : Except Reason (RampNote × State)} {clamped : Bool}
    (h : ∀ note t, j = .ok (note, t) → Orderly .jobs s t) : KeepsStores s (rampAnswer j clamped) := by
  unfold Machine.rampAnswer
  split
  · exact .no
  · exact .of_job (h _ _ rfl)

/-! The requests that read. -/

protected theorem tableRead {tb i} : KeepsStores s (judgeTableRead tb i s) := by
  unfold judgeTableRead
  split
  · exact .no
  · exact .of_eq rfl

protected theorem statusRead {part first} : KeepsStores s (judgeStatusRead part first s) := by
  unfold judgeStatusRead
  split
  · exact .no
  · exact .of_eq rfl

protected theorem counterRead {set first clear} : KeepsStores s (judgeCounterRead set first clear s) := by
  unfold judgeCounterRead
  split
  · exact .taken (.ite (KeepsAlerts.refl.foldl fun _ _ => KeepsAlerts.refl.then_eq rfl) .refl)
  · exact .no

protected theorem mirrorPurge {scope} : KeepsStores s (judgeMirrorPurge scope s) := by
  unfold judgeMirrorPurge
  split
  · exact .of_eq rfl
  · split
    · exact .no
    · exact .taken KeepsAlerts.refl.invalidateStation
  · exact .withIndex fun _ => .of_eq rfl
  · exact .no

/-! The requests that act. -/

protected theorem start : KeepsStores s (judgeStart s) := by
  unfold judgeStart
  refine .ite .no ?_
  split
  · exact trivial
  · exact .taken KeepsAlerts.refl.enterRun

protected theorem testRaise {hd n} : KeepsStores s (judgeTestRaise hd n s) := by
  refine .withIndex fun _ => .ite .no (.ite .no (.ite .no (.ite ?_ (.ite (.of_eq rfl) ?_))))
  · exact .of_eq (raiseCode_alerts ..)
  · exact .of_eq (raiseCode_alerts ..)

protected theorem withdraw {n} : KeepsStores s (judgeWithdraw n s) :=
  .withIndex fun _ => .ite .no (.of_job Orderly.refl.withdrawCode)

protected theorem zoneOpen {n} : KeepsStores s (judgeZoneOpen n s) := by
  refine .withIndex fun _ => .inServiceOnly ?_
  split
  · exact .of_job Orderly.refl.zoneOpenJudged
  · exact .no
  · exact .ite .no (.of_eq rfl)

protected theorem call {m zs p k} : KeepsStores s (judgeCallRequest m zs p k s) := by
  unfold judgeCallRequest
  split
  · refine .inServiceOnly ?_
    split
    · exact .no
    · exact .of_job Orderly.refl.requestCall.arbitrate
  · exact .no

protected theorem rampRelease {n} : KeepsStores s (judgeRampRelease n s) := by
  refine .withIndex fun _ => ?_
  split
  · exact .no
  · next h => exact .of_job (rampReleaseJudged_orderly h)

/-! The table writes. -/

protected theorem stationWrite {n f} : KeepsStores s (judgeStationWrite n f s) := by
  unfold judgeStationWrite
  split
  · split
    · exact .no
    · exact .taken KeepsAlerts.refl.writeStation
  · exact .no

protected theorem zoneWrite {n f} : KeepsStores s (judgeZoneWrite n f s) := by
  unfold judgeZoneWrite
  split
  · exact .inConfigOnly (.of_eq rfl)
  · exact .no

protected theorem doorWrite {n f} : KeepsStores s (judgeDoorWrite n f s) := by
  unfold judgeDoorWrite
  split
  · next d r _ _ =>
    have hwritten : KeepsAlerts s (State.modDoor { s with doors := Tab.put s.doors d r } d fun _ => DoorDyn.powerOn) :=
      KeepsAlerts.refl.then_eq rfl
    exact .inConfigOnly (.taken (hwritten.then_job Orderly.refl.refreshRest.refreshRest))
  · exact .no

protected theorem rampWrite {n f} : KeepsStores s (judgeRampWrite n f s) := by
  unfold judgeRampWrite
  split
  · refine .inConfigOnly (.of_eq ?_)
    unfold writeRamp
    dsimp only
    split
    · exact orderEnable_alerts ..
    · rfl
  · exact .no

protected theorem lineWrite {n f} : KeepsStores s (judgeLineWrite n f s) := by
  unfold judgeLineWrite
  split
  · exact .inConfigOnly (.taken KeepsAlerts.refl.writeLine)
  · exact .no

protected theorem timerWrite {n f} : KeepsStores s (judgeTimerWrite n f s) := by
  unfold judgeTimerWrite
  split
  · exact .ite .no (.of_eq rfl)
  · exact .no

protected theorem vectorWrite {n f} : KeepsStores s (judgeVectorWrite n f s) := by
  unfold judgeVectorWrite
  split
  · refine .ite .no (.taken (.ite ?_ ?_))
    · exact KeepsAlerts.refl.then_eq rfl
    · exact KeepsAlerts.refl.then_eq rfl
  · exact .no

protected theorem messageWrite {n f} : KeepsStores s (judgeMessageWrite n f s) :=
  .withIndex fun _ => .ite .no (.ite .no (.of_eq rfl))

protected theorem deviceWrite {f} : KeepsStores s (judgeDeviceWrite f s) := by
  unfold judgeDeviceWrite
  split
  · exact .no
  · exact .ite (.of_eq rfl) .no

end Judged.KeepsStores

open Judged (KeepsStores)

theorem judgeRequest_keepsStores (hd : Header) (q : Request) : KeepsStores s (judgeRequest hd q s) := by
  cases q with
  | tableRead => exact .tableRead
  | stationWrite => exact .stationWrite
  | zoneWrite => exact .zoneWrite
  | doorWrite => exact .doorWrite
  | rampWrite => exact .rampWrite
  | lineWrite => exact .lineWrite
  | timerWrite => exact .timerWrite
  | vectorWrite => exact .vectorWrite
  | messageWrite => exact .messageWrite
  | deviceWrite => exact .deviceWrite
  | statusRead => exact .statusRead
  | counterRead => exact .counterRead
  | mirrorRead => exact .withIndex fun _ => .of_eq rfl
  | mirrorPurge => exact .mirrorPurge
  | start => exact .start
  | stop => exact .inServiceOnly (.taken .resetBlocks)
  | restart => exact .ite .no (.taken .restartPart)
  | resume => exact .ite .no (.of_eq rfl)
  | generalAlarm => exact .inServiceOnly (.taken KeepsAlerts.refl.alarmRaise)
  | generalAlarmClear => exact .inServiceOnly (.taken KeepsAlerts.refl.alarmClear)
  | testRaise => exact .testRaise
  | withdraw => exact .withdraw
  | timerStart => exact .withIndex fun _ => .inServiceOnly (.of_eq rfl)
  | timerStop => exact .withIndex fun _ => .of_eq rfl
  | zoneClose => exact .withIndex fun _ => .inServiceOnly (.of_job Orderly.refl.zoneCloseJudged)
  | zoneOpen => exact .zoneOpen
  | closeNow => exact .withIndex fun _ => .ite (.of_job Orderly.refl.enterClosing) .no
  | zoneClear => exact .withIndex fun _ => .of_job Orderly.refl.setClear
  | fireDeclare => exact .withIndex fun _ => .of_job Orderly.refl.setFire
  | fireClear => exact .withIndex fun _ => .ite (.of_eq rfl) (.ite .no (.of_job Orderly.refl.modZone.fireChanged))
  | fireOverride => exact .withIndex fun _ => .of_job Orderly.refl.modZone.fireChanged
  | call => exact .call
  | callCancel => exact .withIndex fun _ => .inServiceOnly (.of_job Orderly.refl.cancelCall)
  | rampMove => exact .withIndex fun _ => .inRunOnly (.rampAnswer fun _ _ => rampMoveJudged_orderly)
  | rampHome => exact .withIndex fun _ => .inRunOnly (.rampAnswer fun _ _ => rampHomeJudged_orderly)
  | rampStop => exact .withIndex fun _ => .of_job Orderly.refl.holdRamp
  | rampRelease => exact .rampRelease

namespace KeepsAlerts

protected theorem answer (h : KeepsAlerts s t) {hd name r} : KeepsAlerts s (answer hd name r t) :=
  (h.then_eq (u := sendTx ..) (sendTx_alerts ..)).settle

protected theorem serveRequest {hd q} : KeepsAlerts s (serveRequest hd q s) := by
  have hj := judgeRequest_keepsStores (s := s) hd q
  rw [serveRequest_eq]
  unfold Machine.serve
  refine .ite KeepsAlerts.refl.answer ?_
  split
  · exact KeepsAlerts.refl.answer
  · next hq =>
    rw [hq] at hj
    exact KeepsAlerts.answer (KeepsAlerts.settle hj)

protected theorem bridgeFrame {f} : KeepsAlerts s (bridgeFrame f s) := by
  unfold Machine.bridgeFrame Machine.serveFrame
  refine .ite (.ite ?_ ?_) (KeepsAlerts.refl.then_job Orderly.refl.stationFrame)
  · split
    · exact KeepsAlerts.refl.answer
    · exact .serveRequest
  · split
    · exact .ackByte
    · exact KeepsAlerts.refl.filterFrame

/-! ## Port units and commands -/

protected theorem takeHead {p} {use : Frame → State → State} (huse : ∀ t f, KeepsAlerts t (use f t)) :
    KeepsAlerts s (takeHead p use s) := by
  unfold Machine.takeHead
  split
  · exact .refl
  · exact (KeepsAlerts.refl.then_eq (s := s) (u := s.modPort p _) rfl).trans (huse _ _)

end KeepsAlerts

/-- A run of the receivers, the transmitters and the line quality monitors leaves the alert stores alone. -/
theorem alerts_of_loss (p : Port) (receiving : Bool) : (loss p receiving s).alerts = s.alerts := by
  have hfalls (t : State) : (portFalls p t).alerts = t.alerts := by cases p <;> rfl
  have hbad : (badFrame p s).alerts = s.alerts := by rw [badFrame_frame]
  unfold loss
  dsimp only
  split
  · rw [hfalls, bump_alerts, State.modPort_alerts]
    split
    · exact hbad
    · rfl
  · rfl

theorem alerts_of_frameEnds (p : Port) (bytes : List Byte) : (frameEnds p bytes s).alerts = s.alerts := by
  unfold frameEnds
  split
  · split
    · rfl
    · split
      · rw [badFrame_frame]
      · rw [acceptFrame_frame]
  · rfl

theorem alerts_of_signal (p : Port) : (signal p s).alerts = s.alerts := by
  unfold signal
  split
  · rfl
  · cases p <;> rfl

theorem alerts_of_windowEnds (d : Deck) : (windowEnds d s).alerts = s.alerts := by
  have hgrade (g : Grade) (t : State) : (changeGrade d g t).alerts = t.alerts := by
    unfold changeGrade
    dsimp only
    split <;> rw [raiseInternal_alerts] <;> rfl
  have hwindow (n : Nat) (t : State) : (startWindow d (judgeWindow d n t)).alerts = t.alerts := by
    change (judgeWindow d n t).alerts = t.alerts
    unfold judgeWindow
    dsimp only
    split
    · split
      · exact hgrade ..
      · rfl
    · split_ifs
      · exact hgrade ..
      · rfl
      · rfl
  unfold windowEnds
  split
  · rfl
  · exact hwindow ..

theorem alerts_of_transmissionEnds (p : Port) : (transmissionEnds p s).alerts = s.alerts := by
  unfold transmissionEnds
  split <;> simp

theorem keepsAlerts_of_concluded {f : State → State} (hf : KeepsAlerts s (f s)) (h : concluded s f = .next t) :
    KeepsAlerts s t := by
  cases h
  exact .ite .refl hf.settle

theorem keepsAlerts_of_request {hd : Header} {q : Request} (h : exec (requestInstr hd q) s = .next t) :
    KeepsAlerts s t := by
  rw [exec_requestInstr] at h
  cases h
  exact .ite .refl .serveRequest

theorem keepsAlerts_of_exec {c : Instr} (h : exec c s = .next t) : KeepsAlerts s t := by
  have job {f : State → State} (hf : Orderly .jobs s (f s)) : concluded s f = .next t → KeepsAlerts s t :=
    keepsAlerts_of_concluded (KeepsAlerts.refl.then_job hf)
  have still {f : State → State} (hf : (f s).alerts = s.alerts) : concluded s f = .next t → KeepsAlerts s t :=
    keepsAlerts_of_concluded (KeepsAlerts.refl.then_eq hf)
  cases c with
  | powerOn | resetAssertion =>
    cases h
    exact .of_empty rfl
  | signalReport => exact still (alerts_of_signal _) h
  | lossOfSignal => exact still (alerts_of_loss ..) h
  | bridgeLossExpiry =>
    have hstopped : KeepsAlerts s { s with bridgeLoss := .stopped } := KeepsAlerts.refl.then_eq rfl
    exact keepsAlerts_of_concluded (KeepsAlerts.ite hstopped.enterAutonomous .refl) h
  | frameEnd => exact still (alerts_of_frameEnds ..) h
  | transmissionEnd => exact still (alerts_of_transmissionEnds _) h
  | deckFrameTaken => exact keepsAlerts_of_concluded (.takeHead fun _ _ => KeepsAlerts.refl.deckFrame) h
  | bridgeFrameTaken => exact keepsAlerts_of_concluded (.takeHead fun _ _ => .bridgeFrame) h
  | supervisionExpiry => exact keepsAlerts_of_concluded KeepsAlerts.refl.superviseAll h
  | pinChange =>
    cases h
    exact KeepsAlerts.refl.pinTakes.settle
  | directLineSample => exact keepsAlerts_of_concluded KeepsAlerts.refl.sampleLine h
  | encoderEdge =>
    cases h
    exact KeepsAlerts.refl.encoderChanges.settle
  | timerTick => exact keepsAlerts_of_concluded KeepsAlerts.refl.tickChannel h
  | ackTimerExpiry => exact keepsAlerts_of_concluded .ackTimerOver h
  | escalationTimerExpiry => exact keepsAlerts_of_concluded .escalationOver h
  | closeLimitExpiry => exact job Orderly.refl.closeLimitOver h
  | retryTimerExpiry => exact job Orderly.refl.retryOver h
  | countdownExpiry => exact job Orderly.refl.countdownExpires h
  | callWaitExpiry => exact job Orderly.refl.callWaitOver h
  | startTimerExpiry => exact job Orderly.refl.startTimerOver h
  | durationTimerExpiry => exact job Orderly.refl.durationTimerOver h
  | stopTimerExpiry => exact job Orderly.refl.stopTimerOver h
  | gapTimerExpiry => exact job Orderly.refl.gapTimerOver h
  | controlPeriodExpiry => exact job Orderly.refl.controlPeriod h
  | clearanceWaitExpiry => exact job Orderly.refl.clearanceOver h
  | qualityWindowEnd => exact still (alerts_of_windowEnds _) h
  | tableRead hd tb i => exact keepsAlerts_of_request (q := .tableRead tb i) h
  | stationWrite hd n f => exact keepsAlerts_of_request (q := .stationWrite n f) h
  | zoneWrite hd n f => exact keepsAlerts_of_request (q := .zoneWrite n f) h
  | doorWrite hd n f => exact keepsAlerts_of_request (q := .doorWrite n f) h
  | rampWrite hd n f => exact keepsAlerts_of_request (q := .rampWrite n f) h
  | lineWrite hd n f => exact keepsAlerts_of_request (q := .lineWrite n f) h
  | timerWrite hd n f => exact keepsAlerts_of_request (q := .timerWrite n f) h
  | vectorWrite hd n f => exact keepsAlerts_of_request (q := .vectorWrite n f) h
  | messageWrite hd n f => exact keepsAlerts_of_request (q := .messageWrite n f) h
  | deviceWrite hd f => exact keepsAlerts_of_request (q := .deviceWrite f) h
  | statusRead hd part first => exact keepsAlerts_of_request (q := .statusRead part first) h
  | counterRead hd set first clear => exact keepsAlerts_of_request (q := .counterRead set first clear) h
  | mirrorRead hd i => exact keepsAlerts_of_request (q := .mirrorRead i) h
  | mirrorPurge hd scope => exact keepsAlerts_of_request (q := .mirrorPurge scope) h
  | start hd => exact keepsAlerts_of_request (q := .start) h
  | stop hd => exact keepsAlerts_of_request (q := .stop) h
  | restart hd => exact keepsAlerts_of_request (q := .restart) h
  | resume hd => exact keepsAlerts_of_request (q := .resume) h
  | generalAlarm hd => exact keepsAlerts_of_request (q := .generalAlarm) h
  | generalAlarmClear hd => exact keepsAlerts_of_request (q := .generalAlarmClear) h
  | testRaise hd c => exact keepsAlerts_of_request (q := .testRaise c) h
  | withdraw hd c => exact keepsAlerts_of_request (q := .withdraw c) h
  | timerStart hd n => exact keepsAlerts_of_request (q := .timerStart n) h
  | timerStop hd n => exact keepsAlerts_of_request (q := .timerStop n) h
  | zoneClose hd z cause => exact keepsAlerts_of_request (q := .zoneClose z cause) h
  | zoneOpen hd z => exact keepsAlerts_of_request (q := .zoneOpen z) h
  | closeNow hd z => exact keepsAlerts_of_request (q := .closeNow z) h
  | zoneClear hd z => exact keepsAlerts_of_request (q := .zoneClear z) h
  | fireDeclare hd z => exact keepsAlerts_of_request (q := .fireDeclare z) h
  | fireClear hd z => exact keepsAlerts_of_request (q := .fireClear z) h
  | fireOverride hd z on => exact keepsAlerts_of_request (q := .fireOverride z on) h
  | call hd m zones priority repeats => exact keepsAlerts_of_request (q := .call m zones priority repeats) h
  | callCancel hd m => exact keepsAlerts_of_request (q := .callCancel m) h
  | rampMove hd r target => exact keepsAlerts_of_request (q := .rampMove r target) h
  | rampHome hd r => exact keepsAlerts_of_request (q := .rampHome r) h
  | rampStop hd r => exact keepsAlerts_of_request (q := .rampStop r) h
  | rampRelease hd r => exact keepsAlerts_of_request (q := .rampRelease r) h

theorem keepsAlerts_of_step (h : step s = .next t) : KeepsAlerts s t := by
  unfold step at h
  split at h
  · next rest _ =>
    have htaken : KeepsAlerts s { s with pending := rest } := KeepsAlerts.refl.then_eq rfl
    exact htaken.trans (keepsAlerts_of_exec h)
  · unfold idle at h
    split at h
    · cases h
      exact .refl
    · split at h
      · exact keepsAlerts_of_exec h
      · cases h
        exact KeepsAlerts.refl.then_eq rfl

end Requests

/-- Settles O38: every operation keeps the stores sound (`KeepsAlerts`), so every step does. -/
theorem alertStoresInvariant : Obligations.AlertStoresInvariant := by
  unfold Obligations.AlertStoresInvariant
  exact ⟨fun _ _ hs h => (keepsAlerts_of_step h).ok hs, rfl, topLevel_append⟩

end Sys2Proof.Machine
end

section

set_option Elab.async false

namespace Sys2Proof.Machine

/-! # Raising codes (R72 to R75) -/

section Raising

variable {s : State} {c d : Code} {a : Attributes}

/-! ## Latches and activations (R73) -/

theorem setLatch_get_self :
    (setLatch c a s).codes.get c =
      { s.codes.get c with
        latch := true, attrs := a, answer := if (s.codes.get c).latch then (s.codes.get c).answer else none } := by
  simp [setLatch]

theorem setLatch_get_of_ne (h : d ≠ c) : (setLatch c a s).codes.get d = s.codes.get d := by
  simp [setLatch, h.symm]

/-- A latch that is set keeps both conditions of its code. -/
theorem setLatch_latched :
    ∃ k' : CodeState, (k'.latch = true ∧ k'.attrs = a ∧ k'.mapCond = (s.codes.get c).mapCond ∧
      k'.lineCond = (s.codes.get c).lineCond) ∧ setLatch c a s = { s with codes := Tab.put s.codes c k' } :=
  ⟨(setLatch c a s).codes.get c, by simp [setLatch_get_self], by simp [setLatch, State.modCode, Tab.upd]⟩

variable {withCondition : Bool}

/-- An activation of code 0, 1 or 2 or of an absent code is a vector fault. -/
theorem raiseCode_faults (hdevice : s.device ≠ .config) (h : c.val ≤ 2 ∨ (s.vectors.get c).present = false) :
    raiseCode ⟨c, a, withCondition⟩ s = vectorFault c a s := by
  by_cases hlow : c.val ≤ 2
  · simp [raiseCode, hdevice, hlow]
  · simp [raiseCode, hdevice, hlow, h.resolve_left hlow]

/-- An activation of a code of level 0 is masked. -/
theorem raiseCode_masked (hcode : 3 ≤ c.val) (hpresent : (s.vectors.get c).present = true)
    (hlevel : (s.vectors.get c).level = 0) : raiseCode ⟨c, a, withCondition⟩ s = s := by
  have hlow : ¬c.val ≤ 2 := by omega
  simp [raiseCode, hlow, hpresent, hlevel]

/-- An activation of a code of sense EDGE, or by a block that reports no condition, sets its latch. -/
theorem raiseCode_latches (hdevice : s.device ≠ .config) (hcode : 3 ≤ c.val)
    (hpresent : (s.vectors.get c).present = true) (hlevel : (s.vectors.get c).level ≠ 0)
    (h : (s.vectors.get c).sense = .edge ∨ withCondition = false) :
    raiseCode ⟨c, a, withCondition⟩ s = setLatch c a s := by
  have hlow : ¬c.val ≤ 2 := by omega
  simp [raiseCode, hdevice, hlow, hpresent, hlevel, h]

/-- An activation of a code of sense LEVEL by a block that reports its condition gives the attributes alone. -/
theorem raiseCode_attributes (hdevice : s.device ≠ .config) (hcode : 3 ≤ c.val)
    (hpresent : (s.vectors.get c).present = true) (hlevel : (s.vectors.get c).level ≠ 0)
    (hsense : (s.vectors.get c).sense = .level) :
    raiseCode ⟨c, a, true⟩ s = s.modCode c fun k => { k with attrs := a } := by
  have hlow : ¬c.val ≤ 2 := by omega
  simp [raiseCode, hdevice, hlow, hpresent, hlevel, hsense]

/-! ## Condition reports (R72, R74) -/

/-- What a report gives a code: its condition and, when the condition comes to hold, the attributes. -/
def CodeState.reported (k : CodeState) (src : CondSource) (holds : Bool) (a : Attributes) : CodeState :=
  if holds && !k.condOf src then { k.withCond src holds with attrs := a } else k.withCond src holds

theorem CodeState.reported_latch (k : CodeState) (src : CondSource) (holds : Bool) (a : Attributes) :
    (k.reported src holds a).latch = k.latch := by
  unfold CodeState.reported
  split <;> cases src <;> rfl

variable {src : CondSource} {holds : Bool}

/-- The condition of the code begins: it holds now and neither block's did before. -/
def Begins (s : State) (c : Code) (holds : Bool) : Prop :=
  holds = true ∧ (s.codes.get c).mapCond = false ∧ (s.codes.get c).lineCond = false

theorem begins_iff : (holds && !condHolds (s.codes.get c)) = true ↔ Begins s c holds := by
  simp [Begins, condHolds]

/-- A report on code 0, 1 or 2 is recorded and nothing else. -/
theorem reportCondition_low (h : c.val ≤ 2) :
    reportCondition src c holds a s = s.modCode c fun k => k.withCond src holds := if_pos h

/-- What a report on a code 3 to 63 can do. -/
theorem reportCondition_cases (h : 3 ≤ c.val) :
    let v := s.vectors.get c
    let recorded := s.modCode c fun k => k.reported src holds a
    let begins : Prop := Begins s c holds ∧ s.device ≠ .config
    (begins ∧ v.present = false ∧ reportCondition src c holds a s = vectorFault c a recorded) ∨
      (begins ∧ v.present = true ∧ (v.level ≠ 0 ∧ v.gate = .dispatch ∧ v.sense = .level) ∧
        reportCondition src c holds a s = setLatch c (recorded.codes.get c).attrs recorded) ∨
      (¬(begins ∧ (v.present = false ∨ (v.level ≠ 0 ∧ v.gate = .dispatch ∧ v.sense = .level))) ∧
        reportCondition src c holds a s = recorded) := by
  dsimp only
  have hlow : ¬c.val ≤ 2 := by omega
  have hrecorded :
      (if holds && !(s.codes.get c).condOf src then
        (s.modCode c fun k => k.withCond src holds).modCode c fun k => { k with attrs := a }
        else s.modCode c fun k => k.withCond src holds) = s.modCode c fun k => k.reported src holds a := by
    split
    · next hcomes => simp [State.modCode, Tab.upd, Tab.put_put, CodeState.reported, hcomes]
    · next hcomes => simp only [State.modCode, Tab.upd, CodeState.reported, hcomes]; rfl
  have hrun : reportCondition src c holds a s =
      let r := s.modCode c fun k => k.reported src holds a
      if (holds && !condHolds (s.codes.get c)) && inService s then
        if !(s.vectors.get c).present then vectorFault c a r
        else if (s.vectors.get c).level ≠ 0 ∧ (s.vectors.get c).gate = .dispatch ∧ (s.vectors.get c).sense = .level
        then setLatch c (r.codes.get c).attrs r else r
      else r := by
    unfold reportCondition
    simp only [hlow, if_false, hrecorded]
    rfl
  have hbegins : ((holds && !condHolds (s.codes.get c)) && inService s) = true ↔
      Begins s c holds ∧ s.device ≠ .config := by
    rw [Bool.and_eq_true, begins_iff]
    simp [inService]
  rw [hrun]
  dsimp only
  by_cases hb : Begins s c holds ∧ s.device ≠ .config
  · rw [if_pos (hbegins.2 hb)]
    cases hpresent : (s.vectors.get c).present with
    | false => exact .inl ⟨hb, rfl, rfl⟩
    | true =>
      rw [if_neg (by simp)]
      split
      · next htarget => exact .inr (.inl ⟨hb, rfl, htarget, rfl⟩)
      · next htarget => exact .inr (.inr ⟨fun h => h.2.elim nofun htarget, rfl⟩)
  · rw [if_neg (mt hbegins.1 hb)]
    exact .inr (.inr ⟨fun h => hb h.1, rfl⟩)

/-- A report reaches its own code and, by a vector fault, code 1. -/
theorem reportCondition_get_of_ne (hc : d ≠ c) (h1 : d ≠ 1) :
    (reportCondition src c holds a s).codes.get d = s.codes.get d := by
  by_cases hlow : c.val ≤ 2
  · simp [reportCondition_low hlow, hc.symm]
  · obtain ⟨-, -, hrun⟩ | ⟨-, -, -, hrun⟩ | ⟨-, hrun⟩ :=
      reportCondition_cases (s := s) (src := src) (holds := holds) (a := a) (show 3 ≤ c.val by omega)
    · simp [hrun, vectorFault, setLatch_get_of_ne h1, hc.symm]
    · simp [hrun, setLatch_get_of_ne hc, hc.symm]
    · simp [hrun, hc.symm]

theorem ne_one_of_three_le (h : 3 ≤ c.val) : c ≠ 1 := by
  rintro rfl
  exact absurd h (by decide)

/-- A condition that comes to hold gives its code the attributes of the report. -/
theorem reportCondition_attrs (h : 3 ≤ c.val) (hholds : holds = true) (hbefore : (s.codes.get c).condOf src = false) :
    ((reportCondition src c holds a s).codes.get c).attrs = a := by
  have h1 := ne_one_of_three_le h
  have hreported (k : CodeState) (hk : k.condOf src = false) : (k.reported src holds a).attrs = a := by
    simp [CodeState.reported, hholds, hk]
  obtain ⟨-, -, hrun⟩ | ⟨-, -, -, hrun⟩ | ⟨-, hrun⟩ :=
    reportCondition_cases (s := s) (src := src) (holds := holds) (a := a) h
  · simp [hrun, vectorFault, setLatch_get_of_ne h1, hreported _ hbefore]
  · simp [hrun, setLatch_get_self, hreported _ hbefore]
  · simp [hrun, hreported _ hbefore]

/-- The latch of the code and code 1 after a report that neither faults nor latches. -/
theorem reportCondition_quiet (h : 3 ≤ c.val)
    (hquiet : reportCondition src c holds a s = s.modCode c fun k => k.reported src holds a) :
    ((reportCondition src c holds a s).codes.get c).latch = (s.codes.get c).latch ∧
      (reportCondition src c holds a s).codes.get 1 = s.codes.get 1 := by
  simp [hquiet, CodeState.reported_latch, ne_one_of_three_le h]

theorem reportCondition_not_begins (h : 3 ≤ c.val) (hquiet : ¬Begins s c holds ∨ s.device = .config) :
    ((reportCondition src c holds a s).codes.get c).latch = (s.codes.get c).latch ∧
      (reportCondition src c holds a s).codes.get 1 = s.codes.get 1 := by
  obtain ⟨⟨hb, hd⟩, -⟩ | ⟨⟨hb, hd⟩, -⟩ | ⟨-, hrun⟩ :=
    reportCondition_cases (s := s) (src := src) (holds := holds) (a := a) h
  · exact (hquiet.elim (· hb) hd).elim
  · exact (hquiet.elim (· hb) hd).elim
  · exact reportCondition_quiet h hrun

/-- A condition of an absent code that begins in service is a vector fault. -/
theorem reportCondition_absent (h : 3 ≤ c.val) (hbegins : Begins s c holds) (hdevice : s.device ≠ .config)
    (habsent : (s.vectors.get c).present = false) :
    reportCondition src c holds a s = vectorFault c a (s.modCode c fun k => k.reported src holds a) := by
  obtain ⟨-, -, hrun⟩ | ⟨-, hpresent, -⟩ | ⟨hno, -⟩ :=
    reportCondition_cases (s := s) (src := src) (holds := holds) (a := a) h
  · exact hrun
  · simp [habsent] at hpresent
  · exact absurd ⟨⟨hbegins, hdevice⟩, .inl habsent⟩ hno

/-- A condition of a present code that begins in service latches the code just when it is of gate DISPATCH, sense LEVEL
and a level above 0. -/
theorem reportCondition_present (h : 3 ≤ c.val) (hbegins : Begins s c holds) (hdevice : s.device ≠ .config)
    (hpresent : (s.vectors.get c).present = true) :
    (((reportCondition src c holds a s).codes.get c).latch = true ↔ (s.codes.get c).latch = true ∨
      ((s.vectors.get c).level ≠ 0 ∧ (s.vectors.get c).gate = .dispatch ∧ (s.vectors.get c).sense = .level)) ∧
    (reportCondition src c holds a s).codes.get 1 = s.codes.get 1 := by
  have h1 := ne_one_of_three_le h
  obtain ⟨-, habsent, -⟩ | ⟨-, -, htarget, hrun⟩ | ⟨hno, hrun⟩ :=
    reportCondition_cases (s := s) (src := src) (holds := holds) (a := a) h
  · simp [habsent] at hpresent
  · simp [hrun, setLatch_get_self, setLatch_get_of_ne h1.symm, h1, htarget]
  · obtain ⟨hlatch, hone⟩ := reportCondition_quiet h hrun
    rw [hlatch]
    exact ⟨⟨.inl, fun hor => hor.resolve_right fun htarget => hno ⟨⟨hbegins, hdevice⟩, .inr htarget⟩⟩, hone⟩

/-! ## Pending codes (R75) -/

/-- A record for the code is outstanding. -/
def Held (s : State) (c : Code) : Prop :=
  if c.val = 2 then s.alerts.escalation ≠ none
  else (∃ r ∈ s.alerts.stack, r.code = c) ∨ ∃ r ∈ s.alerts.pass, r.code = c

theorem isHeld_iff : isHeld s c = true ↔ Held s c := by
  unfold isHeld Held
  split
  · simp [Option.isSome_iff_ne_none]
  · simp

theorem gate_ne_dispatch_iff {g : Gate} : g ≠ .dispatch ↔ g = .hold ∨ g = .pass := by
  cases g <;> simp

theorem isPending_iff :
    isPending s c = true ↔
      s.device ≠ .config ∧
        (c.val = 1 ∨ c.val = 2 ∨
          (3 ≤ c.val ∧ (s.vectors.get c).present = true ∧ 0 < (s.vectors.get c).level)) ∧
        ((s.codes.get c).latch = true ∨
          (((s.vectors.get c).gate = .hold ∨ (s.vectors.get c).gate = .pass) ∧ (s.vectors.get c).sense = .level ∧
            ((s.codes.get c).mapCond = true ∨ (s.codes.get c).lineCond = true))) ∧ ¬Held s c := by
  rw [← isHeld_iff, ← gate_ne_dispatch_iff]
  simp only [isPending, inService, condHolds, Bool.and_eq_true, Bool.or_eq_true, decide_eq_true_eq,
    Bool.not_eq_true', Bool.not_eq_true, or_assoc, and_assoc]

end Raising

/-- Settles O28: the branches of `raiseCode` and of `reportCondition`, and `isPending` read as a proposition. -/
theorem raisingAndPending : Obligations.RaisingAndPending := by
  unfold Obligations.RaisingAndPending
  refine ⟨⟨?_, ?_, fun s c => isPending_iff⟩, fun s a z detail => ⟨rfl, fun c => rfl⟩, fun s c a => rfl⟩
  · intro s c a withCondition
    refine ⟨fun h => raiseCode_config h _, fun hdevice h => ?_, fun _ => raiseCode_masked, fun hdevice h3 hp hl h => ?_,
      fun hdevice h3 hp hl hsense hwith => ?_⟩
    · exact raiseCode_faults hdevice h ▸ setLatch_latched
    · exact raiseCode_latches hdevice h3 hp hl h ▸ setLatch_latched
    · subst hwith
      exact raiseCode_attributes hdevice h3 hp hl hsense
  · intro s src c holds a
    refine ⟨fun d => reportCondition_get_of_ne, reportCondition_frame .., ?_, fun hlow => ?_, reportCondition_attrs,
      reportCondition_not_begins, fun h3 hbegins hdevice habsent => ?_, reportCondition_present⟩
    · cases src with
      | map => exact ⟨by simp [reportCondition_mapCond], reportCondition_map_lineCond ..⟩
      | line => exact ⟨by simp [reportCondition_lineCond], reportCondition_line_mapCond ..⟩
    · rw [reportCondition_low hlow]
      refine ⟨?_, ?_, fun h1 => by simp [h1]⟩ <;> cases src <;> simp [CodeState.withCond]
    · rw [reportCondition_absent h3 hbegins hdevice habsent]
      have h1 := ne_one_of_three_le h3
      exact ⟨by simp [vectorFault, setLatch_get_of_ne h1, CodeState.reported_latch],
        by simp [vectorFault, setLatch_get_self], by simp [vectorFault, setLatch_get_self]⟩

end Sys2Proof.Machine
end

section

set_option Elab.async false

namespace Sys2Proof.Machine

/-! # Acceptance and the judgement (R77 to R80, R84, R88) -/

section Acceptance

variable {s t : State}

/-! ## The next acceptance (R77, R84, R88) -/

/-- Alerts are accepted: the part is in RUN, the Bridge Port UP with a place for an URGENT frame. -/
def Accepts (s : State) : Prop := s.device = .run ∧ (s.port .bridge).up = true ∧ (s.port .bridge).tx.length < 32

/-- A general alarm is owed its alert (R88). -/
def AlarmOwed (s : State) : Prop := s.alerts.gaSlot = none ∧ s.ga.remembered ≠ none

/-- Code 2 is pending and its slot empty (R84). -/
def EscalationOwed (s : State) : Prop := s.alerts.escalation = none ∧ isPending s 2 = true

theorem bridgeHasPlace_iff :
    bridgeHasPlace s = true ↔ (s.port .bridge).up = true ∧ (s.port .bridge).tx.length < 32 := by
  simp [bridgeHasPlace]

theorem accepts_iff : Accepts s ↔ ¬(s.device ≠ .run ∨ bridgeHasPlace s = false) := by
  rw [Accepts, ← bridgeHasPlace_iff]
  simp

theorem nextAcceptance_closed (h : ¬Accepts s) : nextAcceptance s = none := by
  rw [accepts_iff, not_not] at h
  exact if_pos h

theorem nextAcceptance_alarm (hopen : Accepts s) {o : Origin} {detail : Word16} (hslot : s.alerts.gaSlot = none)
    (howed : s.ga.remembered = some (o, detail)) : nextAcceptance s = some (acceptAlarm o detail s) := by
  unfold nextAcceptance
  rw [if_neg (accepts_iff.1 hopen), hslot, howed]

theorem nextAcceptance_no_alarm (hopen : Accepts s) (howed : ¬AlarmOwed s) :
    nextAcceptance s =
      if s.alerts.escalation = none ∧ isPending s 2 = true then some (acceptEscalation s)
      else match candidate s with
        | none => none
        | some c => if canAccept s c then some (acceptCode c s) else none := by
  unfold nextAcceptance
  rw [if_neg (accepts_iff.1 hopen)]
  split
  · next hslot hremembered => exact absurd ⟨hslot, by simp [hremembered]⟩ howed
  · rfl

theorem nextAcceptance_escalation (hopen : Accepts s) (howed : ¬AlarmOwed s) (h : EscalationOwed s) :
    nextAcceptance s = some (acceptEscalation s) := by
  rw [nextAcceptance_no_alarm hopen howed]
  exact if_pos h

theorem nextAcceptance_no_candidate (hopen : Accepts s) (howed : ¬AlarmOwed s) (h : ¬EscalationOwed s)
    (hnone : ∀ c : Code, ¬Eligible s c) : nextAcceptance s = none := by
  rw [nextAcceptance_no_alarm hopen howed, candidate_eq_none_iff.2 hnone]
  exact if_neg h

theorem nextAcceptance_candidate (hopen : Accepts s) (howed : ¬AlarmOwed s) (h : ¬EscalationOwed s) {c : Code}
    (hbest : Eligible s c ∧ ∀ d : Code, Eligible s d → Precedes s c d) :
    nextAcceptance s = if canAccept s c then some (acceptCode c s) else none := by
  rw [nextAcceptance_no_alarm hopen howed, candidate_eq_some_iff.2 hbest]
  exact if_neg h

/-! ## What an acceptance leaves -/

theorem acceptAlarm_eq (o : Origin) (detail : Word16) :
    let a : Attributes := ⟨o, none, none, detail⟩
    acceptAlarm o detail s =
      { sendAlert 0 16 .hold a { s with ga := { s.ga with remembered := none } } with
        alerts := { s.alerts with gaSlot := some (newRecord 0 16 .hold a s) } } := by
  simp [acceptAlarm, State.modAlerts, State.modGa, alarmAttrs]

theorem acceptEscalation_eq :
    acceptEscalation s =
      { sendAlert 2 15 .hold (s.codes.get 2).attrs (clearLatch 2 s) with
        alerts := { s.alerts with escalation := some (newRecord 2 15 .hold (s.codes.get 2).attrs s) } } := by
  simp [acceptEscalation, State.modAlerts]

theorem acceptCode_hold {c : Code} (hgate : (s.vectors.get c).gate = .hold) :
    let level := (s.vectors.get c).level
    let a := (s.codes.get c).attrs
    acceptCode c s =
      { sendAlert c level .hold a (clearLatch c s) with
        alerts := { s.alerts with stack := s.alerts.stack ++ [newRecord c level .hold a s], al := level } } := by
  simp [acceptCode, State.modAlerts, hgate, Alerts.withStack, newRecord]

theorem acceptCode_pass {c : Code} (hgate : (s.vectors.get c).gate = .pass) :
    let level := (s.vectors.get c).level
    let a := (s.codes.get c).attrs
    acceptCode c s =
      { sendAlert c level .pass a (clearLatch c s) with
        alerts := { s.alerts with pass := s.alerts.pass ++ [newRecord c level .pass a s] } } := by
  simp [acceptCode, State.modAlerts, hgate]

/-! ## Every acceptance fills a place -/

/-- The empty slots, stack places and list places. -/
def freePlaces (x : Alerts) : Nat :=
  (if x.gaSlot.isNone then 1 else 0) + (if x.escalation.isNone then 1 else 0) + (4 - x.stack.length) +
    (8 - x.pass.length)

theorem freePlaces_le (x : Alerts) : freePlaces x ≤ 14 := by
  unfold freePlaces
  split_ifs <;> omega

theorem freePlaces_of_nextAcceptance (h : nextAcceptance s = some t) :
    freePlaces t.alerts < freePlaces s.alerts := by
  obtain ⟨o, detail, hslot, rfl⟩ | ⟨hescalation, rfl⟩ | ⟨c, -, haccept, rfl⟩ := nextAcceptance_cases h
  · simp only [acceptAlarm_eq, freePlaces, hslot]
    simp
  · simp only [acceptEscalation_eq, freePlaces, hescalation]
    simp
  · obtain ⟨-, ⟨hgate, hroom⟩ | ⟨hgate, hroom⟩⟩ := canAccept_iff.1 haccept
    · simp only [acceptCode_hold hgate, freePlaces, List.length_append, List.length_singleton]
      omega
    · simp only [acceptCode_pass hgate, freePlaces, List.length_append, List.length_singleton]
      omega

theorem acceptFor_of_none (h : nextAcceptance s = none) (n : Nat) : acceptFor n s = s := by
  cases n with
  | zero => rfl
  | succ n => simp [acceptFor, h]

theorem acceptFor_of_some (h : nextAcceptance s = some t) (n : Nat) : acceptFor (n + 1) s = acceptFor n t := by
  simp [acceptFor, h]

/-- Fuel for every free place is never used up. -/
theorem acceptFor_succ {n : Nat} (h : freePlaces s.alerts ≤ n) : acceptFor (n + 1) s = acceptFor n s := by
  induction n generalizing s with
  | zero =>
    cases hnext : nextAcceptance s with
    | none => rw [acceptFor_of_none hnext, acceptFor_of_none hnext]
    | some t => exact absurd (freePlaces_of_nextAcceptance hnext) (by omega)
  | succ n ih =>
    cases hnext : nextAcceptance s with
    | none => rw [acceptFor_of_none hnext, acceptFor_of_none hnext]
    | some t =>
      have hfewer := freePlaces_of_nextAcceptance hnext
      rw [acceptFor_of_some hnext, acceptFor_of_some hnext, ih (by omega)]

/-! ## The judgement (R78, log entry 5) -/

theorem offerFor_of_none (h : nextOffer s = none) (n : Nat) : offerFor n s = s := by
  cases n with
  | zero => rfl
  | succ n => simp [offerFor, h]

theorem offerFor_of_some {c : Code} (h : nextOffer s = some c) (n : Nat) :
    offerFor (n + 1) s = offerFor n (offerCode c s) := by
  simp [offerFor, h]

theorem settleFor_of_quiet (haccept : nextAcceptance s = none) (hoffer : nextOffer s = none) (n : Nat) :
    settleFor n s = s := by
  cases n with
  | zero => rfl
  | succ n => simp [settleFor, mustJudge, haccept, hoffer]

/-- Nothing to accept and nothing to offer: nothing happens. -/
theorem settle_of_quiet (haccept : nextAcceptance s = none) (hoffer : nextOffer s = none) : settle s = s :=
  settleFor_of_quiet haccept hoffer 32

theorem settle_of_mustJudge (h : mustJudge s = true) : settle s = settleFor 31 (judge s) := if_pos h

theorem judge_of_nextAcceptance (h : nextAcceptance s = some t) : judge s = judge t := by
  have hfew : freePlaces t.alerts ≤ 15 := (freePlaces_le _).trans (by decide)
  unfold judge
  rw [acceptFor_of_some h, acceptFor_succ hfew]

/-- The judgement goes on from the next acceptance. -/
theorem settle_of_nextAcceptance (h : nextAcceptance s = some t) : settle s = settle t := by
  rw [settle_of_mustJudge (by simp [mustJudge, h]), judge_of_nextAcceptance h]
  by_cases ht : mustJudge t = true
  · exact (settle_of_mustJudge ht).symm
  · obtain ⟨haccept, hoffer⟩ : nextAcceptance t = none ∧ nextOffer t = none := by simpa [mustJudge] using ht
    have hjudge : judge t = t := by rw [judge, acceptFor_of_none haccept, offerFor_of_none hoffer]
    rw [hjudge, settleFor_of_quiet haccept hoffer, settle_of_quiet haccept hoffer]

/-- An offer that leaves nothing to accept or offer ends the judgement. -/
theorem settle_of_nextOffer {c : Code} (haccept : nextAcceptance s = none) (hoffer : nextOffer s = some c)
    (haccept' : nextAcceptance (offerCode c s) = none) (hoffer' : nextOffer (offerCode c s) = none) :
    settle s = offerCode c s := by
  have hjudge : judge s = offerCode c s := by
    rw [judge, acceptFor_of_none haccept, offerFor_of_some hoffer, offerFor_of_none hoffer']
  rw [settle_of_mustJudge (by simp [mustJudge, hoffer]), hjudge, settleFor_of_quiet haccept' hoffer']

/-! ## The judgement outside RUN (R78, R79, R92) -/

theorem nextAcceptance_outside (h : s.device ≠ .run) : nextAcceptance s = none :=
  nextAcceptance_closed fun hopen => h hopen.1

theorem settle_config (h : s.device = .config) : settle s = s := by
  refine settle_of_quiet (nextAcceptance_outside (by simp [h])) (nextOffer_eq_none_iff.2 fun c hc => ?_)
  simp [Offered, isPending_config h] at hc

/-- Outside RUN a judgement makes offers alone, which reach neither the stores nor the general alarm's items. -/
theorem settle_core_outside (h : s.device ≠ .run) : (settle s).core = s.core := by
  unfold settle
  generalize 32 = n
  induction n generalizing s with
  | zero => rfl
  | succ n ih =>
    have hjudge : (judge s).core = s.core := by
      rw [judge, acceptFor_of_none (nextAcceptance_outside h)]
      exact Orderly.refl.offerFor.frame
    have hdevice : (judge s).device = s.device := congrArg (·.1.device) hjudge
    unfold settleFor
    split
    · exact (ih (hdevice ▸ h)).trans hjudge
    · rfl

end Acceptance

/-- Settles O29: the branches of `nextAcceptance`; the judgement goes on from an acceptance because the free places
bound the number of acceptances. -/
theorem acceptanceOrder : Obligations.AcceptanceOrder := by
  unfold Obligations.AcceptanceOrder
  refine ⟨fun s => ⟨nextAcceptance_closed, fun o detail hopen hslot howed => ?_, fun hopen howed h => ?_,
    nextAcceptance_no_candidate, fun c hopen howed h hbest => ?_⟩, fun s t h => ⟨settle_of_nextAcceptance h,
    fun haccept hoffer => (settle_of_nextAcceptance h).trans (settle_of_quiet haccept hoffer)⟩⟩
  · rw [nextAcceptance_alarm hopen hslot howed, acceptAlarm_eq]
    rfl
  · rw [nextAcceptance_escalation hopen howed h, acceptEscalation_eq]
    rfl
  · have hnext := nextAcceptance_candidate hopen howed h hbest
    refine ⟨fun hfull => ?_, fun hlevel hgate hroom => ?_, fun hlevel hgate hroom => ?_⟩
    · rw [hnext, if_neg]
      rw [canAccept_iff]
      rintro ⟨hlevel, ⟨hgate, hroom⟩ | ⟨hgate, hroom⟩⟩ <;> simp_all <;> omega
    · rw [hnext, if_pos (canAccept_iff.2 ⟨hlevel, .inl ⟨hgate, hroom⟩⟩), acceptCode_hold hgate, hgate]
      rfl
    · rw [hnext, if_pos (canAccept_iff.2 ⟨hlevel, .inr ⟨hgate, hroom⟩⟩), acceptCode_pass hgate, hgate]
      rfl

/-- Settles O30: a judgement keeps what `Orderly` says, and outside RUN the whole core. -/
theorem judgementFrame : Obligations.JudgementFrame := by
  unfold Obligations.JudgementFrame
  refine ⟨fun s => ⟨Orderly.settle_judgement.frame, settle_config, settle_of_quiet⟩, fun s h => ?_⟩
  have hcore := settle_core_outside h
  exact ⟨congrArg (·.2.1) hcore, congrArg (·.2.2) hcore⟩

end Sys2Proof.Machine
end

section

set_option Elab.async false

namespace Sys2Proof.Machine

/-! # The answers to offers (R79, R80, R111, R119, R141, R161) -/

section Answers

variable {s t : State} {c : Code} {z : ZoneId}

/-! ## The notice of an answer (R80) -/

/-- The notice of an answer to the offer of a code is sent: the entry asks for it, and the Bridge Port is UP with a place. -/
def Notified (s : State) (c : Code) : Prop :=
  (s.vectors.get c).notify = true ∧ (s.port .bridge).up = true ∧ (s.port .bridge).tx.length < 32

theorem notified_iff : Notified s c ↔ ((s.vectors.get c).notify && bridgeHasPlace s) = true := by
  rw [Bool.and_eq_true, bridgeHasPlace_iff, Notified]

theorem sendNotice_told {refused : Bool} (h : Notified s c) :
    sendNotice c refused s =
      sendAlert c (s.vectors.get c).level .dispatch
        (if refused then { (s.codes.get c).attrs with detail := 0xFFFF#16 } else (s.codes.get c).attrs) s :=
  if_pos (notified_iff.1 h)

theorem sendNotice_untold {refused : Bool} (h : ¬Notified s c) : sendNotice c refused s = s :=
  if_neg (mt notified_iff.2 h)

/-- The state of a code after an answer. -/
def State.answered (s : State) (c : Code) (latch : Bool) (ans : Answer) : State :=
  { s with codes := Tab.put s.codes c { s.codes.get c with latch := latch, answer := some ans } }

theorem actOnAnswer_busy : actOnAnswer c .busy s = s.answered c (s.codes.get c).latch .busy := rfl

theorem actOnAnswer_taken : actOnAnswer c .taken s = sendNotice c false (s.answered c false .taken) := rfl

theorem actOnAnswer_refused :
    actOnAnswer c .refused s = sendNotice c true (bump .global 6 1 (s.answered c false .refused)) := rfl

@[simp] theorem answered_vectors {latch : Bool} {ans : Answer} : (s.answered c latch ans).vectors = s.vectors := rfl

theorem answered_attrs {latch : Bool} {ans : Answer} :
    ((s.answered c latch ans).codes.get c).attrs = (s.codes.get c).attrs := by
  simp [State.answered]

/-- A code taken is told with its attributes. -/
theorem actOnAnswer_taken_told (h : Notified s c) :
    actOnAnswer c .taken s =
      bump .global 3 1 (sendTx .bridge .urgent
        (alertFrame c (s.vectors.get c).level .dispatch (s.codes.get c).attrs) (s.answered c false .taken)) := by
  have h' : Notified (s.answered c false .taken) c := h
  rw [actOnAnswer_taken, sendNotice_told h', answered_vectors, answered_attrs]
  rfl

/-- A code refused is told with detail FFFF hex. -/
theorem actOnAnswer_refused_told (h : Notified (bump .global 6 1 (s.answered c false .refused)) c) :
    let u := bump .global 6 1 (s.answered c false .refused)
    actOnAnswer c .refused s =
      bump .global 3 1 (sendTx .bridge .urgent
        (alertFrame c (s.vectors.get c).level .dispatch { (u.codes.get c).attrs with detail := 0xFFFF#16 }) u) := by
  rw [actOnAnswer_refused, sendNotice_told h, bump_vectors, answered_vectors]
  rfl

theorem notified_answered {latch : Bool} {ans : Answer} : Notified (s.answered c latch ans) c ↔ Notified s c := .rfl

theorem notified_bump {b : CounterSet} {i : CounterId} {n : Nat} : Notified (bump b i n s) c ↔ Notified s c := by
  simp [Notified, State.port]

/-! ## A zone's answer to an open (R119) -/

theorem zoneOpenJudged_refused (h : (s.zoneDyn.get z).fire = true ∨ (s.zoneDyn.get z).state = .opening) :
    zoneOpenJudged z s = (.refused, s) := by
  unfold zoneOpenJudged
  dsimp only
  split
  · rfl
  · next hfire => rw [h.resolve_left hfire]

/-- A zone takes an open from rest and from a routine close. -/
theorem zoneOpenJudged_taken (hfire : (s.zoneDyn.get z).fire = false) (hopening : (s.zoneDyn.get z).state ≠ .opening)
    (hroutine : (s.zoneDyn.get z).state = .calling ∨ (s.zoneDyn.get z).state = .countdown ∨
      (s.zoneDyn.get z).state = .closing → (s.zoneDyn.get z).cause = .routine) :
    ∃ t, zoneOpenJudged z s = (.taken, t) := by
  unfold zoneOpenJudged
  dsimp only
  rw [if_neg (by simp [hfire])]
  cases hstate : (s.zoneDyn.get z).state with
  | opened | partly | closed => exact ⟨_, rfl⟩
  | opening => exact absurd hstate hopening
  | calling | countdown | closing => exact ⟨_, if_pos (hroutine (by simp [hstate]))⟩

theorem zoneOpenJudged_busy (hfire : (s.zoneDyn.get z).fire = false)
    (hrunning : (s.zoneDyn.get z).state = .calling ∨ (s.zoneDyn.get z).state = .countdown ∨
      (s.zoneDyn.get z).state = .closing) (hcause : (s.zoneDyn.get z).cause ≠ .routine) :
    zoneOpenJudged z s = (.busy, s) := by
  unfold zoneOpenJudged
  dsimp only
  rw [if_neg (by simp [hfire])]
  obtain hstate | hstate | hstate := hrunning
  all_goals
    rw [hstate]
    exact if_neg hcause

/-- An open that is taken as an offer is taken as a request, and its reply shows the zone as the open leaves it. -/
theorem exec_zoneOpen_done {h : Header} (hrun : s.resetHeld = false) (hservice : s.device ≠ .config)
    (hauth : 2 ≤ h.authority) (hj : zoneOpenJudged z s = (.taken, t)) :
    exec (.zoneOpen h z.val) s =
      .next (answer h .zoneOpen (.done (.zone (t.zoneDyn.get z).state (t.zoneDyn.get z).cause false)) (settle t)) := by
  have hjudged : judgeZoneOpen z.val s = .yes t (zoneData z false t) := by
    unfold judgeZoneOpen
    rw [withIndex_val]
    simp [hj, inServiceOnly, inService, hservice]
  exact exec_request_taken (q := .zoneOpen z.val) (data := fun _ => zoneData z false t) hrun hauth hjudged

/-! ## A zone's answer to a close (R111) -/

/-- The offer of a close of a cause. -/
def closeTarget (z : ZoneId) : CloseCause → Target
  | .routine => .zoneCloseRoutine z
  | .fire => .zoneCloseFire z

theorem offerTo_close {cause : CloseCause} :
    offerTo c (closeTarget z cause) s =
      (if (zoneCloseJudged z cause s).1 then .taken else .refused, (zoneCloseJudged z cause s).2) := by
  cases cause <;> rfl

/-- A close has no effect on a close that runs, but for the upgrade of a routine close. -/
theorem zoneCloseJudged_idle {cause : CloseCause}
    (hrunning : (s.zoneDyn.get z).state = .calling ∨ (s.zoneDyn.get z).state = .countdown ∨
      (s.zoneDyn.get z).state = .closing) (hcause : cause = .routine ∨ (s.zoneDyn.get z).cause ≠ .routine) :
    zoneCloseJudged z cause s = (false, s) := by
  rw [zoneCloseJudged_running hrunning, if_neg]
  rintro ⟨rfl, hroutine⟩
  exact hcause.elim nofun (· hroutine)

theorem zoneCloseJudged_taken {cause : CloseCause}
    (h : ¬(((s.zoneDyn.get z).state = .calling ∨ (s.zoneDyn.get z).state = .countdown ∨
      (s.zoneDyn.get z).state = .closing) ∧ (cause = .routine ∨ (s.zoneDyn.get z).cause ≠ .routine))) :
    ∃ t, zoneCloseJudged z cause s = (true, t) := by
  cases hstate : (s.zoneDyn.get z).state with
  | opened | partly | closed => exact ⟨_, zoneCloseJudged_rest (by simp [hstate])⟩
  | opening => exact ⟨_, zoneCloseJudged_opening hstate⟩
  | calling | countdown | closing =>
    have hupgrade : cause = .fire ∧ (s.zoneDyn.get z).cause = .routine := by
      cases cause <;> simp_all
    exact ⟨_, (zoneCloseJudged_running (by simp [hstate])).trans (if_pos hupgrade)⟩

/-! ## The answer to a call (R127, R141) -/

theorem postCall_of_stamp? {q : CallRequest} {k : Nat} (h : (requestCall q s).1.stamp? = some k) :
    postCall q s = ((requestCall q s).1, arbitrate (requestCall q s).2) := by
  simp [postCall, h]

theorem postCall_refused {q : CallRequest} (h : (requestCall q s).1.stamp? = none) :
    postCall q s = ((requestCall q s).1, s) := by
  simp only [postCall, h]
  exact Prod.ext rfl (requestCall_refused h)

theorem offerTo_call {m : MsgId} {zones : List ZoneId} {p n : Nat} :
    offerTo c (.call m zones p n) s =
      ((postCall ⟨.event c, m, zones, p, n⟩ s).1.toAnswer, (postCall ⟨.event c, m, zones, p, n⟩ s).2) := rfl

end Answers

/-- Settles O31: an answer acts on its code and sends its notice or not; each target answers as its block judges. -/
theorem offerAnswers : Obligations.OfferAnswers := by
  unfold Obligations.OfferAnswers
  refine ⟨⟨fun s c => ?_, fun s => ⟨nextOffer_eq_none_iff, fun c => nextOffer_eq_some_iff⟩,
    fun s c haccept hoffer haccept' hoffer' => settle_of_nextOffer haccept hoffer haccept' hoffer'⟩,
    fun s c z cause => ?_, fun s c z => ?_, fun s c => ⟨fun r => rfl, rfl⟩, fun s c m zones p n => ?_⟩
  · refine ⟨actOnAnswer_busy, fun htold => ?_, fun huntold => ?_, fun huntold => ?_, fun htold => ?_⟩
    · exact actOnAnswer_taken_told htold
    · exact sendNotice_untold (mt notified_answered.1 huntold)
    · exact sendNotice_untold (mt (notified_bump.trans notified_answered).1 huntold)
    · exact actOnAnswer_refused_told ((notified_bump.trans notified_answered).2 htold)
  · intro d target running idle
    have htarget : target = closeTarget z cause := by cases cause <;> rfl
    rw [htarget, offerTo_close]
    refine ⟨fun ⟨hrunning, hcause⟩ => by rw [zoneCloseJudged_idle hrunning hcause]; rfl, fun htaken => ?_⟩
    obtain ⟨t, hj⟩ := zoneCloseJudged_taken htaken
    exact ⟨t, by rw [hj]; rfl, fun h hrun hservice hauth => exec_zoneClose_done (taken := true) hrun hauth hservice hj⟩
  · refine ⟨zoneOpenJudged_refused, zoneOpenJudged_busy, fun hfire hopening hroutine => ?_⟩
    obtain ⟨t, hj⟩ := zoneOpenJudged_taken hfire hopening hroutine
    exact ⟨t, hj, fun h hrun hservice hauth => exec_zoneOpen_done hrun hservice hauth hj⟩
  · rw [offerTo_call]
    refine ⟨fun hunused => ?_, fun hfull => ?_, fun k hk => ?_⟩
    · rw [postCall_refused (by rw [hunused]; rfl), hunused]
      rfl
    · rw [postCall_refused (by rw [hfull]; rfl), hfull]
      rfl
    · obtain hk | hk | ⟨old, hk⟩ := hk
      all_goals
        rw [postCall_of_stamp? (k := k) (by rw [hk]; rfl), hk]
        rfl


end Sys2Proof.Machine
end

section

set_option Elab.async false

namespace Sys2Proof.Machine

/-! # Acknowledgement and overdue records (R81 to R83) -/

section Acknowledgement

variable {s t : State} {c : Code} {pre post l : List AlertRecord} {r : AlertRecord}

/-! ## The record of a code in a list -/

theorem val_ne_zero (h : c ≠ 0) : ¬c.val = 0 := fun hval => h (Fin.ext hval)

theorem val_ne_two (h : c ≠ 2) : ¬c.val = 2 := fun hval => h (Fin.ext hval)

theorem any_code_iff : (l.any fun r => decide (r.code = c)) = true ↔ ∃ r ∈ l, r.code = c := by simp

theorem without_of_forall (h : ∀ q ∈ l, q.code ≠ c) : without c l = l :=
  List.filter_eq_self.2 fun q hq => decide_eq_true (h q hq)

theorem without_of_split (hcode : r.code = c) (hother : ∀ q ∈ pre ++ post, q.code ≠ c) :
    without c (pre ++ r :: post) = pre ++ post := by
  rw [← without_of_forall hother]
  simp [without, hcode]

/-- What an expiry does to a record: that of its code is overdue. -/
def AlertRecord.marked (c : Code) (r : AlertRecord) : AlertRecord := if r.code = c then r.expired else r

theorem markOverdue_eq (x : Alerts) :
    x.markOverdue c =
      { x with
        stack := x.stack.map (·.marked c), pass := x.pass.map (·.marked c), gaSlot := x.gaSlot.map (·.marked c) } := rfl

theorem map_marked_of_forall (h : ∀ q ∈ l, q.code ≠ c) : l.map (·.marked c) = l :=
  (List.map_congr_left fun q hq => if_neg (h q hq)).trans l.map_id

theorem map_marked_of_split (hcode : r.code = c) (hother : ∀ q ∈ pre ++ post, q.code ≠ c) :
    (pre ++ r :: post).map (·.marked c) = pre ++ r.expired :: post := by
  obtain ⟨hpre, hpost⟩ := List.forall_mem_append.1 hother
  have hr : r.marked c = r.expired := if_pos hcode
  rw [List.map_append, List.map_cons, map_marked_of_forall hpre, map_marked_of_forall hpost, hr]

theorem map_marked_gaSlot {slot : Option AlertRecord} (h : ∀ q, slot = some q → q.code ≠ c) :
    slot.map (·.marked c) = slot := by
  cases slot with
  | none => rfl
  | some q => exact congrArg some (if_neg (h q rfl))

/-- A record whose timer runs, of the code. -/
def AlertRecord.timed (c : Code) (r : AlertRecord) : Bool := decide (r.code = c) && r.ackTimer.isRunning

theorem timed_of_running {due : Nat} (hcode : r.code = c) (hdue : r.ackTimer = .running due) : r.timed c = true := by
  simp [AlertRecord.timed, hcode, hdue, Timer.isRunning]

theorem not_timed (h : r.code ≠ c ∨ r.ackTimer = .stopped) : r.timed c = false := by
  obtain h | h := h <;> simp [AlertRecord.timed, h, Timer.isRunning]

theorem find?_timed_of_forall (h : ∀ q ∈ l, q.code ≠ c ∨ q.ackTimer = .stopped) : l.find? (·.timed c) = none :=
  List.find?_eq_none.2 fun q hq => by simp [not_timed (h q hq)]

theorem find?_timed_of_split {due : Nat} (hcode : r.code = c) (hdue : r.ackTimer = .running due)
    (hother : ∀ q ∈ pre ++ post, q.code ≠ c) : (pre ++ r :: post).find? (·.timed c) = some r := by
  have hpre : pre.find? (·.timed c) = none :=
    find?_timed_of_forall fun q hq => .inl (hother q (List.mem_append_left _ hq))
  rw [List.find?_append, hpre, Option.none_or, List.find?_cons_of_pos (timed_of_running hcode hdue)]

/-! ## The record an expiry concerns (R82) -/

theorem timedRecord_zero : timedRecord s 0 = s.alerts.gaSlot.filter (·.timed 0) := rfl

theorem timedRecord_ne (hc : c ≠ 0) :
    timedRecord s c = (s.alerts.stack.find? (·.timed c)).or (s.alerts.pass.find? (·.timed c)) := by
  unfold timedRecord
  dsimp only
  rw [if_neg (val_ne_zero hc)]
  split
  · next r hr =>
    have hfound : s.alerts.stack.find? (·.timed c) = some r := hr
    rw [hfound]
    rfl
  · next hr =>
    have hmissing : s.alerts.stack.find? (·.timed c) = none := hr
    rw [hmissing]
    rfl

theorem timedRecord_none
    (h : ∀ q ∈ s.alerts.stack ++ s.alerts.pass ++ s.alerts.gaSlot.toList, q.code ≠ c ∨ q.ackTimer = .stopped) :
    timedRecord s c = none := by
  simp only [List.forall_mem_append, Option.mem_toList] at h
  obtain ⟨⟨hstack, hpass⟩, hslot⟩ := h
  by_cases hc : c = 0
  · subst hc
    rw [timedRecord_zero, Option.filter_eq_none_iff]
    exact fun q hq => by simp [not_timed (hslot q hq)]
  · rw [timedRecord_ne hc, find?_timed_of_forall hstack, find?_timed_of_forall hpass]
    rfl

/-- An expiry counts the record it marks and sets the latch of code 2. -/
theorem ackTimerOver_some {x : Alerts} (hr : timedRecord s c = some r) (hx : s.alerts.markOverdue c = x) :
    ackTimerOver c s =
      setLatch 2 ⟨.internal, r.attrs.station, r.attrs.zone, BitVec.ofNat 16 c.val⟩
        (bump .global 4 1 { s with alerts := x }) := by
  unfold ackTimerOver
  rw [hr, ← hx]
  rfl

theorem ackTimerOver_none (hr : timedRecord s c = none) : ackTimerOver c s = s := by
  unfold ackTimerOver
  rw [hr]

/-! ## An acknowledgement (R81) -/

/-- Some record of the stack, the list or the general-alarm slot is overdue. -/
def Late (y : Alerts) : Prop :=
  (∃ r ∈ y.stack, r.overdue = true) ∨ (∃ r ∈ y.pass, r.overdue = true) ∨ ∃ r, y.gaSlot = some r ∧ r.overdue = true

theorem anyOverdue_iff {y : Alerts} : anyOverdue y = true ↔ Late y := by
  cases hslot : y.gaSlot <;> simp [anyOverdue, Late, or_assoc, hslot]

/-- What the removal of a record leaves, with the records that remain: the latch of code 2 clear when none is overdue. -/
def Left (s : State) (y : Alerts) (t : State) : Prop :=
  (Late y → t = { s with alerts := y }) ∧
    (¬Late y → t = { s with
      alerts := y, codes := Tab.put s.codes 2 { s.codes.get 2 with latch := false, answer := none } })

theorem left_afterRemoval {y : Alerts} : Left s y (afterRemoval { s with alerts := y }) :=
  ⟨fun h => if_pos (anyOverdue_iff.2 h), fun h => if_neg (mt anyOverdue_iff.1 h)⟩

/-- The ACK of a code other than 0 and 2 looks in the stack, then in the list. -/
theorem ackCode_other (hzero : c ≠ 0) (htwo : c ≠ 2) :
    ackCode c s =
      if s.alerts.stack.any (fun r => decide (r.code = c)) then
        afterRemoval (s.modAlerts fun x => x.withStack (without c x.stack))
      else if s.alerts.pass.any (fun r => decide (r.code = c)) then
        afterRemoval (s.modAlerts fun x => { x with pass := without c x.pass })
      else bumpGlobal ctrStray s := by
  unfold ackCode
  rw [if_neg (val_ne_zero hzero), if_neg (val_ne_two htwo)]

theorem ackCode_zero :
    ackCode 0 s =
      if s.alerts.gaSlot.isSome then afterRemoval { s with alerts := { s.alerts with gaSlot := none } }
      else bump .global 5 1 s := rfl

theorem ackCode_two :
    ackCode 2 s =
      if s.alerts.escalation.isSome then { s with alerts := { s.alerts with escalation := none } }
      else bump .global 5 1 s := rfl

theorem ackCode_slot (h : s.alerts.gaSlot ≠ none) : Left s { s.alerts with gaSlot := none } (ackCode 0 s) := by
  rw [ackCode_zero, if_pos (Option.isSome_iff_ne_none.2 h)]
  exact left_afterRemoval

theorem ackCode_slot_stray (h : s.alerts.gaSlot = none) : ackCode 0 s = bump .global 5 1 s := by
  rw [ackCode_zero, if_neg (by simp [h])]

theorem ackCode_escalation (h : s.alerts.escalation ≠ none) :
    ackCode 2 s = { s with alerts := { s.alerts with escalation := none } } := by
  rw [ackCode_two, if_pos (Option.isSome_iff_ne_none.2 h)]

theorem ackCode_escalation_stray (h : s.alerts.escalation = none) : ackCode 2 s = bump .global 5 1 s := by
  rw [ackCode_two, if_neg (by simp [h])]

theorem ackCode_stack (hzero : c ≠ 0) (htwo : c ≠ 2) (hstack : s.alerts.stack = pre ++ r :: post) (hcode : r.code = c)
    (hother : ∀ q ∈ pre ++ post, q.code ≠ c) :
    Left s { s.alerts with stack := pre ++ post, al := topLevel (pre ++ post) } (ackCode c s) := by
  have hmem : ∃ q ∈ s.alerts.stack, q.code = c := ⟨r, by simp [hstack], hcode⟩
  rw [ackCode_other hzero htwo, if_pos (any_code_iff.2 hmem), ← without_of_split hcode hother, ← hstack]
  exact left_afterRemoval

theorem ackCode_pass (hzero : c ≠ 0) (htwo : c ≠ 2) (hstack : ∀ q ∈ s.alerts.stack, q.code ≠ c)
    (hpass : s.alerts.pass = pre ++ r :: post) (hcode : r.code = c) (hother : ∀ q ∈ pre ++ post, q.code ≠ c) :
    Left s { s.alerts with pass := pre ++ post } (ackCode c s) := by
  have hnone : ¬∃ q ∈ s.alerts.stack, q.code = c := fun ⟨q, hq, hqc⟩ => hstack q hq hqc
  have hmem : ∃ q ∈ s.alerts.pass, q.code = c := ⟨r, by simp [hpass], hcode⟩
  rw [ackCode_other hzero htwo, if_neg (mt any_code_iff.1 hnone), if_pos (any_code_iff.2 hmem),
    ← without_of_split hcode hother, ← hpass]
  exact left_afterRemoval

theorem ackCode_stray (hzero : c ≠ 0) (htwo : c ≠ 2) (hnone : ∀ q ∈ s.alerts.stack ++ s.alerts.pass, q.code ≠ c) :
    ackCode c s = bump .global 5 1 s := by
  obtain ⟨hstack, hpass⟩ := List.forall_mem_append.1 hnone
  rw [ackCode_other hzero htwo, if_neg, if_neg]
  · rfl
  · rw [any_code_iff]
    exact fun ⟨q, hq, hqc⟩ => hpass q hq hqc
  · rw [any_code_iff]
    exact fun ⟨q, hq, hqc⟩ => hstack q hq hqc

end Acknowledgement

/-- Settles O32: an ACK finds its record in one store, and so does an expiry. -/
theorem acksAndOverdueRecords : Obligations.AcksAndOverdueRecords := by
  unfold Obligations.AcksAndOverdueRecords
  refine ⟨fun s => ⟨ackCode_slot, ackCode_slot_stray, ackCode_escalation, ackCode_escalation_stray,
    fun c pre post r => ackCode_stack, fun c pre post r => ackCode_pass, fun c => ackCode_stray⟩,
    fun s c pre post r due hrun hc hstack hcode hdue hother hslot => ?_,
    fun s c pre post r due hrun hc hpass hcode hdue hother hslot => ?_,
    fun s r due hrun hslot hcode hdue hother => ?_, fun s c hrun hnone => ?_⟩
  · obtain ⟨hothers, hpass⟩ := List.forall_mem_append.1 hother
    refine concluded_eq hrun (ackTimerOver_some ?_ ?_)
    · rw [timedRecord_ne hc, hstack, find?_timed_of_split hcode hdue hothers]
      rfl
    · rw [markOverdue_eq, hstack, map_marked_of_split hcode hothers, map_marked_of_forall hpass, map_marked_gaSlot hslot]
      rfl
  · obtain ⟨hstack, hothers⟩ := List.forall_mem_append.1 hother
    refine concluded_eq hrun (ackTimerOver_some ?_ ?_)
    · rw [timedRecord_ne hc, hpass, find?_timed_of_forall fun q hq => .inl (hstack q hq),
        find?_timed_of_split hcode hdue hothers]
      rfl
    · rw [markOverdue_eq, hpass, map_marked_of_split hcode hothers, map_marked_of_forall hstack, map_marked_gaSlot hslot]
      rfl
  · obtain ⟨hstack, hpass⟩ := List.forall_mem_append.1 hother
    refine concluded_eq hrun (ackTimerOver_some ?_ ?_)
    · rw [timedRecord_zero, hslot]
      exact if_pos (timed_of_running hcode hdue)
    · have hr : r.marked 0 = r.expired := if_pos hcode
      rw [markOverdue_eq, hslot, map_marked_of_forall hstack, map_marked_of_forall hpass, Option.map_some, hr]
      rfl
  · exact concluded_eq hrun (ackTimerOver_none (timedRecord_none hnone))

end Sys2Proof.Machine
end

section

set_option Elab.async false

namespace Sys2Proof.Machine

/-! # The requests for a code: TEST RAISE, WITHDRAW and the write of its entry (R69, R71, R94, R95) -/

section CodeRequests

variable {s : State} {h : Header} {c : Code}

/-! ## TEST RAISE (R94) -/

theorem exec_request_unauthorised {q : Request} (hrun : s.resetHeld = false) (hauth : h.authority < leastAuthority q) :
    exec (requestInstr h q) s = .next (answer h (requestName q) (.refused .authority none) s) := by
  rw [exec_request hrun, serve_unauthorised ((authorityOf_lt_iff q).2 hauth)]

theorem judgeTestRaise_range {n : Nat} (hn : n < 3 ∨ 64 ≤ n) : judgeTestRaise h n s = .no .range := by
  by_cases hbig : 64 ≤ n
  · exact withIndex_of_le hbig _
  · have hlow : n < 3 := hn.resolve_right hbig
    exact (withIndex_val (⟨n, by omega⟩ : Fin 64) _).trans (if_pos hlow)

/-- The tests of a code 3 to 63. -/
theorem judgeTestRaise_val (hcode : 3 ≤ c.val) :
    judgeTestRaise h c.val s =
      if s.device = .config then .no .state
      else if (s.vectors.get c).present = true ∧ min 3 h.authority < (s.vectors.get c).authority then .no .authority
      else testRaise c s := by
  refine (withIndex_val c _).trans (if_neg ?_)
  omega

theorem judgeTestRaise_config (hcode : 3 ≤ c.val) (hconfig : s.device = .config) :
    judgeTestRaise h c.val s = .no .state := by
  rw [judgeTestRaise_val hcode, if_pos hconfig]

theorem judgeTestRaise_authority (hcode : 3 ≤ c.val) (hservice : s.device ≠ .config)
    (hpresent : (s.vectors.get c).present = true) (hless : min 3 h.authority < (s.vectors.get c).authority) :
    judgeTestRaise h c.val s = .no .authority := by
  rw [judgeTestRaise_val hcode, if_neg hservice, if_pos ⟨hpresent, hless⟩]

theorem judgeTestRaise_passes (hcode : 3 ≤ c.val) (hservice : s.device ≠ .config)
    (hpass : (s.vectors.get c).present = true → (s.vectors.get c).authority ≤ min 3 h.authority) :
    judgeTestRaise h c.val s = testRaise c s := by
  rw [judgeTestRaise_val hcode, if_neg hservice, if_neg fun ⟨hpresent, hless⟩ => Nat.not_lt.2 (hpass hpresent) hless]

theorem testRaise_absent (hservice : s.device ≠ .config) (habsent : (s.vectors.get c).present = false) :
    testRaise c s =
      .yes (setLatch 1 ⟨.request, none, none, BitVec.ofNat 16 c.val⟩ s) (.testRaise .vectorFault) := by
  unfold testRaise testActivation
  rw [raiseCode_faults hservice (.inr habsent)]
  simp [habsent, vectorFault]

theorem testRaise_masked (hpresent : (s.vectors.get c).present = true) (hlevel : (s.vectors.get c).level = 0) :
    testRaise c s = .yes s (.testRaise .masked) := by
  simp [testRaise, hpresent, hlevel]

theorem testRaise_latches (hservice : s.device ≠ .config) (hcode : 3 ≤ c.val)
    (hpresent : (s.vectors.get c).present = true) (hlevel : (s.vectors.get c).level ≠ 0) :
    testRaise c s =
      .taken (setLatch c ⟨.request, none, none, 0⟩ s) fun u => .testRaise (raiseState c u) := by
  unfold testRaise testActivation
  rw [raiseCode_latches hservice hcode hpresent hlevel (.inr rfl)]
  simp [hpresent, hlevel]

/-! ## WITHDRAW (R95) -/

theorem withdrawCode_edge (hsense : (s.vectors.get c).sense = .edge) :
    withdrawCode c s =
      ((s.codes.get c).latch,
        { s with codes := Tab.put s.codes c { s.codes.get c with latch := false, answer := none } }) := if_pos hsense

theorem withdrawCode_level (hsense : (s.vectors.get c).sense = .level) :
    withdrawCode c s = ((s.codes.get c).latch, s) := if_neg (by simp [hsense])

theorem judgeWithdraw_val (hc : c ≠ 0) :
    judgeWithdraw c.val s =
      .taken (withdrawCode c s).2 fun u => .withdraw (withdrawCode c s).1 (isPending u c) :=
  (withIndex_val c _).trans (if_neg (val_ne_zero hc))

theorem judgeWithdraw_range {n : Nat} (hn : n = 0 ∨ 64 ≤ n) : judgeWithdraw n s = .no .range := by
  obtain rfl | hbig := hn
  · exact (withIndex_val (0 : Fin 64) _).trans (if_pos rfl)
  · exact withIndex_of_le hbig _

/-! ## The write of an entry (R69, R71) -/

/-- A write clears the latch of a code whose entry is then absent or masked, and offers the code afresh. -/
theorem writeVector_eq (v : VectorEntry) :
    writeVector c v s =
      { s with
        vectors := Tab.put s.vectors c v
        codes := Tab.put s.codes c
          { s.codes.get c with
            latch := (s.codes.get c).latch && v.present && decide (v.level ≠ 0), answer := none } } := by
  by_cases hopen : v.present = true ∧ v.level ≠ 0
  · obtain ⟨hpresent, hlevel⟩ := hopen
    simp [writeVector, State.modCode, Tab.upd, hpresent, hlevel]
  · have hclosed : (!v.present || decide (v.level = 0)) = true := by
      cases hpresent : v.present <;> simp_all
    have hlatch : ((s.codes.get c).latch && v.present && decide (v.level ≠ 0)) = false := by
      cases hpresent : v.present <;> simp_all
    rw [writeVector, hlatch]
    exact if_pos hclosed

theorem judgeVectorWrite_taken {f : VectorFields} {v : VectorEntry} (hf : vectorOf f = some v) (hcode : 3 ≤ c.val) :
    judgeVectorWrite c.val f s = .yes (writeVector c v s) (.vectorStored v) := by
  have hlow : ¬c.val < 3 := by omega
  simp only [judgeVectorWrite, index?_val, hf, if_neg hlow]

theorem judgeVectorWrite_range {f : VectorFields} {n : Nat} (hn : n < 3 ∨ 64 ≤ n) :
    judgeVectorWrite n f s = .no .range := by
  unfold judgeVectorWrite
  split
  · next c v hc hf =>
    have hval := val_of_index? hc
    exact if_pos (by omega)
  · rfl

theorem judgeVectorWrite_outside {f : VectorFields} {n : Nat} (hf : vectorOf f = none) :
    judgeVectorWrite n f s = .no .range := by
  unfold judgeVectorWrite
  split
  · next c v hc hv => cases hf.symm.trans hv
  · rfl

/-! ## The fields of an entry (R69) -/

/-- A target outside the part's zones, ramps and messages. -/
def TargetOutside (g : TargetFields) : Prop :=
  match g with
  | .zoneCloseRoutine z => 8 ≤ z
  | .zoneCloseFire z => 8 ≤ z
  | .zoneOpen z => 8 ≤ z
  | .rampHold r => ∃ i : Nat, r = some i ∧ 4 ≤ i
  | .call m zones _ _ => 256 ≤ m ∨ zones = [] ∨ ∃ z ∈ zones, 8 ≤ z
  | .outside => True

/-- What a target's fields say and what the stored target says. -/
def TargetStored (g : TargetFields) (x : Target) : Prop :=
  match g with
  | .zoneCloseRoutine z => ∃ y : ZoneId, y.val = z ∧ x = .zoneCloseRoutine y
  | .zoneCloseFire z => ∃ y : ZoneId, y.val = z ∧ x = .zoneCloseFire y
  | .zoneOpen z => ∃ y : ZoneId, y.val = z ∧ x = .zoneOpen y
  | .rampHold r => ∃ i : Option RampId, (i.map fun j => j.val) = r ∧ x = .rampHold i
  | .call m zones p n => ∃ msg : MsgId, msg.val = m ∧
    x = .call msg ((List.finRange 8).filter fun z => zones.contains z.val) (min 15 p) (min 8 n)
  | .outside => False

theorem zoneSetOf_outside {zones : List Nat} (hout : zones = [] ∨ ∃ z ∈ zones, 8 ≤ z) : zoneSetOf zones = none :=
  if_pos (by simpa using hout)

theorem zoneSetOf_inside {zones : List Nat} (hin : ¬(zones = [] ∨ ∃ z ∈ zones, 8 ≤ z)) :
    zoneSetOf zones = some ((List.finRange 8).filter fun z => zones.contains z.val) :=
  if_neg (by simpa using hin)

theorem targetOf_outside {g : TargetFields} (hout : TargetOutside g) : targetOf g = none := by
  cases g with
  | zoneCloseRoutine z | zoneCloseFire z | zoneOpen z => exact Option.map_eq_none_iff.2 (index?_of_le hout)
  | rampHold r =>
    obtain ⟨i, hr, hi⟩ := hout
    exact Option.map_eq_none_iff.2 (maybeIndex?_eq_none_iff.2 ⟨i, hi, hr⟩)
  | call m zones p n =>
    obtain hm | hzones := hout
    · simp only [targetOf, index?_of_le hm]
    · cases hm : index? 256 m <;> simp only [targetOf, hm, zoneSetOf_outside hzones]
  | outside => rfl

theorem index?_inside {n i : Nat} (hi : ¬n ≤ i) : ∃ k : Fin n, k.val = i ∧ index? n i = some k :=
  ⟨⟨i, by omega⟩, rfl, dif_pos (by omega)⟩

theorem targetOf_inside {g : TargetFields} (hin : ¬TargetOutside g) : ∃ x, targetOf g = some x ∧ TargetStored g x := by
  cases g with
  | zoneCloseRoutine z | zoneCloseFire z | zoneOpen z =>
    obtain ⟨y, hy, hindex⟩ := index?_inside hin
    exact ⟨_, congrArg (Option.map _) hindex, y, hy, rfl⟩
  | rampHold r =>
    obtain ⟨x, hx⟩ := maybeIndex?_of_lt (n := 4) (o := r) fun i hi => Nat.not_le.1 fun hbig => hin ⟨i, hi, hbig⟩
    exact ⟨_, congrArg (Option.map _) hx, x, maybeIndex?_val hx, rfl⟩
  | call m zones p n =>
    obtain ⟨hm, hzones⟩ := not_or.1 hin
    obtain ⟨msg, hmsg, hindex⟩ := index?_inside hm
    refine ⟨_, ?_, msg, hmsg, rfl⟩
    simp only [targetOf, hindex, zoneSetOf_inside hzones, clamp, Nat.zero_max]
  | outside => exact absurd trivial hin

/-- A field outside its list or range. -/
def VectorOutside (f : VectorFields) : Prop := f.gate = none ∨ f.sense = none ∨ TargetOutside f.target

theorem vectorOf_eq_some {f : VectorFields} {gate : Gate} {sense : Sense} {target : Target} (hgate : f.gate = some gate)
    (hsense : f.sense = some sense) (htarget : targetOf f.target = some target) :
    vectorOf f =
      some ⟨f.present, gate, clamp 0 15 f.level, sense, f.notify, clamp 0 3 f.authority, target⟩ := by
  simp only [vectorOf, hgate, hsense, htarget]
  rfl

theorem vectorOf_outside {f : VectorFields} (hout : VectorOutside f) : vectorOf f = none := by
  cases hgate : f.gate with
  | none => simp [vectorOf, hgate]
  | some gate =>
  cases hsense : f.sense with
  | none => simp [vectorOf, hsense]
  | some sense =>
  have htarget : TargetOutside f.target := by simpa [VectorOutside, hgate, hsense] using hout
  simp [vectorOf, targetOf_outside htarget]

/-- The fields of an entry that a write stores. -/
structure VectorStored (f : VectorFields) (v : VectorEntry) : Prop where
  present : v.present = f.present
  gate : some v.gate = f.gate
  level : v.level = min 15 f.level
  sense : some v.sense = f.sense
  notify : v.notify = f.notify
  authority : v.authority = min 3 f.authority
  target : TargetStored f.target v.target

theorem vectorOf_inside {f : VectorFields} (hin : ¬VectorOutside f) : ∃ v, vectorOf f = some v ∧ VectorStored f v := by
  obtain ⟨hgate, hin⟩ := not_or.1 hin
  obtain ⟨hsense, htarget⟩ := not_or.1 hin
  obtain ⟨gate, hgate⟩ := Option.ne_none_iff_exists'.1 hgate
  obtain ⟨sense, hsense⟩ := Option.ne_none_iff_exists'.1 hsense
  obtain ⟨target, htarget, hstored⟩ := targetOf_inside htarget
  exact ⟨_, vectorOf_eq_some hgate hsense htarget,
    { present := rfl, gate := hgate.symm, level := by simp [clamp], sense := hsense.symm, notify := rfl
      authority := by simp [clamp], target := hstored }⟩

end CodeRequests

/-- Settles O36: each request by its tests, in order. -/
theorem testRaiseAndWithdraw : Obligations.TestRaiseAndWithdraw := by
  unfold Obligations.TestRaiseAndWithdraw
  refine ⟨fun s h hrun => ⟨fun n hauth => ?_, fun n hauth hn => ?_, fun c hauth hcode hconfig => ?_,
    fun c hauth hcode hservice => ⟨fun hpresent hless => ?_, fun habsent => ?_, fun hpresent hpass hlevel => ?_,
      fun hpresent hpass hlevel => ?_⟩⟩, fun s h hrun hauth => ⟨fun c hc => ?_, fun n hn => ?_⟩⟩
  · exact exec_request_unauthorised (q := .testRaise n) hrun hauth
  · exact exec_request_refused (q := .testRaise n) hrun hauth (judgeTestRaise_range hn)
  · exact exec_request_refused (q := .testRaise c.val) hrun hauth (judgeTestRaise_config hcode hconfig)
  · exact exec_request_refused (q := .testRaise c.val) hrun hauth
      (judgeTestRaise_authority hcode hservice hpresent hless)
  · have hpass := judgeTestRaise_passes (h := h) hcode hservice fun hpresent => by simp [habsent] at hpresent
    exact exec_request_taken (q := .testRaise c.val) (data := fun _ => .testRaise .vectorFault) hrun hauth
      (hpass.trans (testRaise_absent hservice habsent))
  · have hpass := judgeTestRaise_passes (h := h) hcode hservice fun _ => hpass
    exact exec_request_taken (q := .testRaise c.val) (data := fun _ => .testRaise .masked) hrun hauth
      (hpass.trans (testRaise_masked hpresent hlevel))
  · have hpass := judgeTestRaise_passes (h := h) hcode hservice fun _ => hpass
    exact exec_request_taken (q := .testRaise c.val) (data := fun u => .testRaise (raiseState c u)) hrun hauth
      (hpass.trans (testRaise_latches hservice hcode hpresent hlevel))
  · have hdone := exec_request_taken (q := .withdraw c.val) (h := h) hrun hauth (judgeWithdraw_val hc)
    cases hsense : (s.vectors.get c).sense with
    | edge =>
      rw [withdrawCode_edge hsense] at hdone
      exact hdone
    | level =>
      rw [withdrawCode_level hsense] at hdone
      exact hdone
  · exact exec_request_refused (q := .withdraw n) hrun hauth (judgeWithdraw_range hn)

/-- Settles O37: the write by its judgement and `writeVector_eq`; the fields by `vectorOf_outside` and
`vectorOf_inside`. -/
theorem vectorWriteKeepsConditions : Obligations.VectorWriteKeepsConditions := by
  unfold Obligations.VectorWriteKeepsConditions
  refine ⟨fun s h f v hrun hauth hf => ⟨fun c hcode => ?_, fun n hn => ?_⟩, fun f => ⟨vectorOf_outside, fun hin => ?_⟩,
    fun s h n f hrun hauth hf => ?_⟩
  · have hj := (judgeVectorWrite_taken (s := s) hf hcode).trans (congrArg (Judged.yes · _) (writeVector_eq v))
    exact exec_request_taken (q := .vectorWrite c.val f) (data := fun _ => .vectorStored v) hrun hauth hj
  · exact exec_request_refused (q := .vectorWrite n f) hrun hauth (judgeVectorWrite_range hn)
  · obtain ⟨v, hv, hstored⟩ := vectorOf_inside hin
    exact ⟨v, hv, hstored.present, hstored.gate, hstored.level, hstored.sense, hstored.notify, hstored.authority,
      hstored.target⟩
  · exact exec_request_refused (q := .vectorWrite n f) hrun hauth (judgeVectorWrite_outside hf)

end Sys2Proof.Machine
end

section

set_option Elab.async false

namespace Sys2Proof.Machine

/-! # The general alarm (R87, R89, R138, R139)

The clear of the alarm cancels its call. The ramps at rest are then left as they are: a notice of the Call Arbiter moves
a ramp from CLEARING alone (R155). -/

section StillRamps

variable {s t u : State}

/-- Each ramp that is not in motion in `s` is in `t` as it was. -/
structure KeepsStillRamps (s t : State) : Prop where
  still_eq : ∀ r : RampId, (s.rampDyn.get r).state.isActive = false → t.rampDyn.get r = s.rampDyn.get r

namespace KeepsStillRamps

protected theorem refl : KeepsStillRamps s s := ⟨fun _ _ => rfl⟩

protected theorem trans (h : KeepsStillRamps s t) (k : KeepsStillRamps t u) : KeepsStillRamps s u :=
  ⟨fun r hr => (k.still_eq r (by rw [h.still_eq r hr, hr])).trans (h.still_eq r hr)⟩

/-- A change of anything but the ramps. -/
theorem then_eq (h : KeepsStillRamps s t) (ramps : u.rampDyn = t.rampDyn := by simp) : KeepsStillRamps s u :=
  ⟨fun r hr => by rw [ramps, h.still_eq r hr]⟩

protected theorem ite {c : Prop} [Decidable c] (ht : KeepsStillRamps s t) (hu : KeepsStillRamps s u) :
    KeepsStillRamps s (if c then t else u) := by
  split
  · exact ht
  · exact hu

protected theorem foldl {α : Type} {l : List α} {f : State → α → State} (h : KeepsStillRamps s t)
    (hf : ∀ t x, KeepsStillRamps t (f t x)) : KeepsStillRamps s (l.foldl f t) := by
  induction l generalizing t with
  | nil => exact h
  | cons x l ih => exact ih (h.trans (hf t x))

/-! ## Notices -/

protected theorem modZone (h : KeepsStillRamps s t) {z f} : KeepsStillRamps s (t.modZone z f) := h.then_eq
protected theorem modDoor (h : KeepsStillRamps s t) {d f} : KeepsStillRamps s (t.modDoor d f) := h.then_eq
protected theorem modZoneLine (h : KeepsStillRamps s t) {z f} : KeepsStillRamps s (t.modZoneLine z f) := h.then_eq
protected theorem modCall (h : KeepsStillRamps s t) {k f} : KeepsStillRamps s (t.modCall k f) := h.then_eq
protected theorem removeCall (h : KeepsStillRamps s t) {k} : KeepsStillRamps s (removeCall k t) := h.then_eq rfl
protected theorem jobCommand? (h : KeepsStillRamps s t) {a b} : KeepsStillRamps s (jobCommand? a b t) := h.then_eq
protected theorem jobCommand (h : KeepsStillRamps s t) {a b} : KeepsStillRamps s (jobCommand a b t) := h.then_eq
protected theorem release? (h : KeepsStillRamps s t) {a o} : KeepsStillRamps s (release? a o t) := h.then_eq
protected theorem claim (h : KeepsStillRamps s t) {a o} : KeepsStillRamps s (claim a o t).2 := h.then_eq
protected theorem orderDoorHold (h : KeepsStillRamps s t) {z on} : KeepsStillRamps s (orderDoorHold z on t) := h.then_eq
protected theorem raiseInternal (h : KeepsStillRamps s t) {c a z d} : KeepsStillRamps s (raiseInternal c a z d t) :=
  h.then_eq

/-- A notice moves a ramp from CLEARING alone. -/
theorem of_rampNotice {q : RampId} {ref : CallRef} : KeepsStillRamps t (rampNotice q ref t) := by
  unfold Machine.rampNotice
  dsimp only
  split
  · next hclearing =>
    refine ⟨fun r hr => ?_⟩
    have hne : q ≠ r := by
      rintro rfl
      rw [hclearing.1] at hr
      cases hr
    simp [enterMoving, hne, sendEnable]
  · exact .refl

protected theorem closingDoor (h : KeepsStillRamps s t) {z d} : KeepsStillRamps s (closingDoor z d t) := by
  have hsent : KeepsStillRamps s (sendClose d t) :=
    (KeepsStillRamps.ite h.modDoor.modZone h.modDoor).jobCommand?
  exact .ite h (.ite h.modDoor (.ite h hsent))

protected theorem endClose (h : KeepsStillRamps s t) {z} : KeepsStillRamps s (endClose z t) := by
  have released : KeepsStillRamps s (releaseMembers z t) := h.foldl fun _ _ => KeepsStillRamps.refl.release?
  have rest {l : List DoorId} {f : ZoneDyn → ZoneDyn} := (released.foldl (l := l)
    (f := fun s d => s.modDoor d fun x => { x with skipped := .no }) fun _ _ => KeepsStillRamps.refl.modDoor).modZone
    (z := z) (f := f)
  exact .ite rest.raiseInternal rest.raiseInternal

protected theorem enterClosing (h : KeepsStillRamps s t) {z} : KeepsStillRamps s (enterClosing z t) :=
  have walked := h.orderDoorHold.modZone.foldl fun _ _ => KeepsStillRamps.refl.closingDoor
  .ite walked.endClose walked

protected theorem enterCountdown (h : KeepsStillRamps s t) {z} : KeepsStillRamps s (enterCountdown z t) :=
  .ite (.ite h.modZone.enterClosing h.modZone.modZone) h.modZone

protected theorem notify (h : KeepsStillRamps s t) {c n} : KeepsStillRamps s (notify c n t) := by
  unfold Machine.notify
  split
  · exact .ite (KeepsStillRamps.ite h.modZone h.modZone.raiseInternal).enterCountdown h
  · exact h.trans of_rampNotice
  · exact h
  · exact h
  · exact h

/-! ## The Call Arbiter -/

protected theorem dropLines (h : KeepsStillRamps s t) {k} : KeepsStillRamps s (dropLines k t) :=
  h.foldl fun _ _ => KeepsStillRamps.refl.modZoneLine

protected theorem completeCall (h : KeepsStillRamps s t) {k} : KeepsStillRamps s (completeCall k t) := by
  unfold Machine.completeCall
  split
  · exact h
  · exact h.dropLines.removeCall.notify

protected theorem stopLine (h : KeepsStillRamps s t) {z} : KeepsStillRamps s (stopLine z t) := by
  unfold Machine.stopLine
  split
  · exact h.modZoneLine.jobCommand?
  · exact h.modZoneLine.jobCommand?
  · exact h.modZoneLine

protected theorem failLine (h : KeepsStillRamps s t) {z cause} : KeepsStillRamps s (failLine z cause t) := by
  unfold Machine.failLine
  have stopped {c : Prop} [Decidable c] : KeepsStillRamps s (if c then sendStop z t else t) := .ite h.jobCommand? h
  refine .ite h (KeepsStillRamps.raiseInternal ?_)
  split
  · exact stopped.modZoneLine.release?
  · exact stopped.modZoneLine.release?.modCall

protected theorem playLine (h : KeepsStillRamps s t) {c z} : KeepsStillRamps s (playLine c z t) := by
  unfold Machine.playLine
  split
  · exact h.failLine
  · exact .ite h.claim.modZoneLine.jobCommand h.claim.failLine

protected theorem tryPlay (h : KeepsStillRamps s t) {k} : KeepsStillRamps s (tryPlay k t) := by
  unfold Machine.tryPlay
  split
  · exact h
  · have played {c : CallRecord} {l : List ZoneId} {f : CallRecord → CallRecord} :
        KeepsStillRamps s ((l.foldl (fun u z => Machine.playLine c z u) t).modCall k f) :=
      (h.foldl fun _ _ => KeepsStillRamps.refl.playLine).modCall
    refine .ite ?_ h
    dsimp only
    split
    · exact played
    · exact .ite played.completeCall played

protected theorem refreshCall (h : KeepsStillRamps s t) {k} : KeepsStillRamps s (refreshCall k t) := by
  have ended : KeepsStillRamps s (endRepetition k t) := by
    unfold endRepetition
    split
    · exact h
    · exact .ite h.modCall.completeCall (.ite h.modCall.modCall.tryPlay h.modCall.modCall)
  unfold Machine.refreshCall
  split
  · exact h
  · refine .ite h.completeCall ?_
    split
    case h_1 | h_2 => exact h
    case h_3 => exact .ite h h.modCall
    case h_4 | h_5 => exact .ite h.tryPlay (.ite h.modCall (.ite h.modCall ended))

protected theorem takeLines (h : KeepsStillRamps s t) {wanted winner} :
    KeepsStillRamps s (takeLines wanted winner t) := by
  have preempted {v : State} {k : Nat} : KeepsStillRamps v (preemptCall k wanted winner v) := by
    refine KeepsStillRamps.modCall (KeepsStillRamps.foldl
      (KeepsStillRamps.refl.modCall.foldl fun _ _ => KeepsStillRamps.refl.stopLine) fun _ _ => ?_)
    exact .ite KeepsStillRamps.refl.modZoneLine (.ite KeepsStillRamps.refl.modZoneLine .refl)
  refine h.foldl fun _ _ => ?_
  split
  · exact KeepsStillRamps.refl.modZoneLine
  · exact .ite .refl preempted

protected theorem startCall (h : KeepsStillRamps s t) {c} : KeepsStillRamps s (startCall c t) := by
  have sound : KeepsStillRamps s (dropFaultZones c t) := .ite h h.modCall
  exact .ite sound.completeCall sound.takeLines.modCall.tryPlay

protected theorem growCall (h : KeepsStillRamps s t) {c reserved} : KeepsStillRamps s (growCall c reserved t).2 := by
  unfold Machine.growCall
  dsimp only
  split
  · exact h
  · exact (h.foldl fun _ _ => .ite KeepsStillRamps.refl.modCall .refl).takeLines.refreshCall

protected theorem judgeCall (h : KeepsStillRamps s t) {k reserved} :
    KeepsStillRamps s (judgeCall k reserved t).2 := by
  unfold Machine.judgeCall
  split
  · exact h
  · split
    case h_1 =>
      dsimp only
      split
      · exact h.startCall
      · exact h
    case h_2 | h_3 | h_4 => exact h.growCall
    case h_5 => exact h

/-- The walk of a pass, from any zones reserved. -/
theorem walk {ks : List Nat} {reserved : List ZoneId} (h : KeepsStillRamps s t) :
    KeepsStillRamps s (ks.foldl (fun (x : List ZoneId × State) k => Machine.judgeCall k x.1 x.2) (reserved, t)).2 := by
  induction ks generalizing reserved t with
  | nil => exact h
  | cons k ks ih => exact ih h.judgeCall

protected theorem arbitrate (h : KeepsStillRamps s t) : KeepsStillRamps s (arbitrate t) := by
  unfold Machine.arbitrate
  generalize 32 = n
  induction n generalizing t with
  | zero => exact h
  | succ n ih =>
    have pass : KeepsStillRamps s (onePass t) := h.walk
    exact .ite pass (ih pass)

protected theorem cancelCall (h : KeepsStillRamps s t) {o m} : KeepsStillRamps s (cancelCall o m t).2 := by
  unfold Machine.cancelCall
  split
  · exact h
  · exact (h.foldl fun _ _ => KeepsStillRamps.refl.stopLine).dropLines.removeCall.notify.arbitrate

end KeepsStillRamps

end StillRamps

section GeneralAlarms

variable {s : State} {h : Header}

/-! ## A raise of the alarm (R87) -/

theorem alarmRaise_lost_config (hconfig : s.device = .config) (o : Origin) (w : Word16) :
    alarmRaise o w s = (true, bump .global 7 1 s) := if_pos hconfig

theorem alarmRaise_starts (hservice : s.device ≠ .config) (hga : s.ga.active = false) (o : Origin) (w : Word16) :
    alarmRaise o w s = (false, holdAll 1 (postCall alarmCall { s with ga := ⟨true, some (o, w)⟩ }).2) := by
  refine Prod.ext ?_ (alarmRaise_inactive hservice hga o w)
  rw [alarmRaise, if_neg hservice, if_neg (Bool.eq_false_iff.1 hga)]

theorem alarmRaise_active (hservice : s.device ≠ .config) (hga : s.ga.active = true) (o : Origin) (w : Word16) :
    alarmRaise o w s =
      if s.ga.remembered.isSome = true then (true, bump .global 7 1 s)
      else (false, { s with ga := ⟨s.ga.active, some (o, w)⟩ }) := by
  rw [alarmRaise, if_neg hservice, if_pos hga]
  rfl

theorem alarmRaise_remembers (hservice : s.device ≠ .config) (hga : s.ga.active = true)
    (hremembered : s.ga.remembered = none) (o : Origin) (w : Word16) :
    alarmRaise o w s = (false, { s with ga := ⟨true, some (o, w)⟩ }) := by
  rw [alarmRaise_active hservice hga, if_neg (by simp [hremembered]), hga]

theorem alarmRaise_lost (hservice : s.device ≠ .config) (hga : s.ga.active = true)
    (hremembered : s.ga.remembered ≠ none) (o : Origin) (w : Word16) :
    alarmRaise o w s = (true, bump .global 7 1 s) := by
  rw [alarmRaise_active hservice hga, if_pos (Option.isSome_iff_ne_none.2 hremembered)]

/-! ## The requests (R87, R89) -/

theorem inServiceOnly_of_ne (hservice : s.device ≠ .config) (j : Judged) : inServiceOnly s j = j :=
  if_pos (decide_eq_true hservice)

theorem inServiceOnly_config (hconfig : s.device = .config) (j : Judged) : inServiceOnly s j = .no .state :=
  if_neg (by simp [inService, hconfig])

theorem exec_generalAlarm {lost : Bool} {t : State} (hrun : s.resetHeld = false) (hauth : 2 ≤ h.authority)
    (hservice : s.device ≠ .config) (hraise : alarmRaise .request 0 s = (lost, t)) :
    exec (.generalAlarm h) s =
      .next (answer h .generalAlarm (.done (alarmData lost (settle t))) (settle t)) := by
  have hj : judgeGeneralAlarm s = .taken t (alarmData lost) := by
    rw [judgeGeneralAlarm, hraise]
    exact inServiceOnly_of_ne hservice _
  exact exec_request_taken (q := .generalAlarm) hrun hauth hj

theorem exec_generalAlarmClear (hrun : s.resetHeld = false) (hauth : 3 ≤ h.authority) (hservice : s.device ≠ .config) :
    exec (.generalAlarmClear h) s =
      .next (answer h .generalAlarmClear (.done (alarmData false (settle (alarmClear s)))) (settle (alarmClear s))) :=
  exec_request_taken (q := .generalAlarmClear) hrun hauth (inServiceOnly_of_ne hservice _)

theorem alarmClear_active (hga : s.ga.active = true) :
    alarmClear s = (cancelCall .alarm 0 { s with ga := ⟨false, none⟩ }).2 := if_pos hga

theorem alarmClear_inactive (hga : s.ga.active = false) : alarmClear s = s := if_neg (by simp [hga])

end GeneralAlarms

/-- Settles O34: a raise by the device state and the alarm's items; the cancel of the call is a job, which reaches
neither those items nor a ramp at rest. -/
theorem generalAlarmRequests : Obligations.GeneralAlarmRequests := by
  unfold Obligations.GeneralAlarmRequests
  refine ⟨⟨fun s h hrun hauth => ⟨fun hconfig => ?_, fun hservice hga => ?_, fun hservice hga hnone => ?_,
    fun hservice hga hsome => ?_⟩, fun s h hrun hauth => ⟨fun hconfig => ?_, fun hservice hga => ?_,
    fun hservice hga => ?_⟩⟩, fun s o w => ⟨fun hconfig => alarmRaise_lost_config hconfig o w,
    fun hservice hga => alarmRaise_starts hservice hga o w,
    fun hservice hga hnone => alarmRaise_remembers hservice hga hnone o w,
    fun hservice hga hsome => alarmRaise_lost hservice hga hsome o w⟩⟩
  · exact exec_request_refused (q := .generalAlarm) hrun hauth (inServiceOnly_config hconfig _)
  · exact exec_generalAlarm hrun hauth hservice (alarmRaise_starts hservice hga _ _)
  · exact exec_generalAlarm hrun hauth hservice (alarmRaise_remembers hservice hga hnone _ _)
  · exact exec_generalAlarm hrun hauth hservice (alarmRaise_lost hservice hga hsome _ _)
  · exact exec_request_refused (q := .generalAlarmClear) hrun hauth (inServiceOnly_config hconfig _)
  · have hdone := exec_generalAlarmClear hrun hauth hservice
    rw [alarmClear_inactive hga] at hdone
    exact hdone
  · have hdone := exec_generalAlarmClear hrun hauth hservice
    rw [alarmClear_active hga] at hdone
    have hcore := (Orderly.refl (e := .jobs) (s := { s with ga := ⟨false, none⟩ })).cancelCall (o := .alarm) (m := 0)
    have hstill := (KeepsStillRamps.refl (s := { s with ga := ⟨false, none⟩ })).cancelCall (o := .alarm) (m := 0)
    exact ⟨_, hdone, rfl, congrArg (·.2.2) hcore.frame, congrArg (·.2.1) hcore.frame,
      hstill.still_eq⟩

end Sys2Proof.Machine
end

section

set_option Elab.async false

namespace Sys2Proof.Machine

/-! # AUTONOMOUS (R85, R90, R91) -/

section Autonomous

variable {s t u : State} {c : Code} {l : List AlertRecord} {q : AlertRecord}

/-! ## The records discarded (R91) -/

theorem repend_edge (h : (s.vectors.get q.code).sense = .edge) : repend s q = setLatch q.code q.attrs s := if_pos h

theorem repend_get_of_ne (h : q.code ≠ c) : (repend s q).codes.get c = s.codes.get c := by
  unfold repend
  split
  · exact setLatch_get_of_ne h.symm
  · rfl

/-- A discarded record changes the codes alone. -/
theorem repend_frame : repend s q = { s with codes := (repend s q).codes } := by
  unfold repend
  split <;> rfl

theorem repend_vectors : (repend s q).vectors = s.vectors := by rw [repend_frame]

theorem foldl_repend_frame (l : List AlertRecord) :
    l.foldl repend s = { s with codes := (l.foldl repend s).codes } := by
  induction l generalizing s with
  | nil => rfl
  | cons q l ih =>
    rw [List.foldl_cons, ih, repend_frame]

theorem foldl_repend_get_of_ne (h : ∀ q ∈ l, q.code ≠ c) : (l.foldl repend s).codes.get c = s.codes.get c := by
  induction l generalizing s with
  | nil => rfl
  | cons q l ih =>
    obtain ⟨hq, hl⟩ := List.forall_mem_cons.1 h
    exact (ih hl).trans (repend_get_of_ne hq)

/-- The record latches code `c` again. -/
def latchesAgain (s : State) (c : Code) (q : AlertRecord) : Bool :=
  decide (q.code = c) && decide ((s.vectors.get c).sense = .edge)

theorem latchesAgain_iff : latchesAgain s c q = true ↔ q.code = c ∧ (s.vectors.get c).sense = .edge := by
  simp [latchesAgain]

theorem latchesAgain_repend : latchesAgain (repend s q) c = latchesAgain s c := by
  funext r
  rw [latchesAgain, repend_vectors, latchesAgain]

theorem repend_get_of_not (h : ¬latchesAgain s c q = true) : (repend s q).codes.get c = s.codes.get c := by
  by_cases hcode : q.code = c
  · subst hcode
    rw [repend, if_neg fun hedge => h (latchesAgain_iff.2 ⟨rfl, hedge⟩)]
  · exact repend_get_of_ne hcode

/-- The state of a code after the records are discarded: latched again with the attributes of its record. -/
def CodeState.discarded (k : CodeState) : Option AlertRecord → CodeState
  | none => k
  | some q => { k with latch := true, attrs := q.attrs, answer := if k.latch = true then k.answer else none }

theorem foldl_repend_get (hdistinct : l.Pairwise fun a b => a.code ≠ b.code) :
    (l.foldl repend s).codes.get c = (s.codes.get c).discarded (l.find? (latchesAgain s c)) := by
  induction l generalizing s with
  | nil => rfl
  | cons q l ih =>
    obtain ⟨hhead, htail⟩ := List.pairwise_cons.1 hdistinct
    rw [List.foldl_cons]
    by_cases h : latchesAgain s c q = true
    · obtain ⟨rfl, hedge⟩ := latchesAgain_iff.1 h
      rw [List.find?_cons_of_pos h, foldl_repend_get_of_ne fun r hr => (hhead r hr).symm, repend_edge hedge,
        setLatch_get_self]
      rfl
    · rw [List.find?_cons_of_neg h, ih htail, latchesAgain_repend, repend_get_of_not h]

/-- The general alarm after its record is discarded. -/
def discardedAlarm (s : State) : GeneralAlarm :=
  match s.alerts.gaSlot, s.ga.remembered, s.ga.active with
  | some g, none, true => ⟨true, some (g.attrs.origin, g.attrs.detail)⟩
  | _, _, _ => s.ga

theorem clearLatch_get_self : (clearLatch c s).codes.get c = { s.codes.get c with latch := false, answer := none } := by
  simp [clearLatch]

theorem clearLatch_get_of_ne {d : Code} (h : d ≠ c) : (clearLatch c s).codes.get d = s.codes.get d := by
  simp [clearLatch, h.symm]

/-- What the discard leaves but for the codes. -/
theorem discardRecords_frame :
    discardRecords s =
      { s with
        alerts := ⟨[], [], 0, none, none⟩, ga := discardedAlarm s
        codes := (clearLatch 2 ((s.alerts.stack ++ s.alerts.pass).foldl repend s)).codes } := by
  have hga : ((s.alerts.stack ++ s.alerts.pass).foldl repend s).ga = s.ga := by
    rw [foldl_repend_frame]
  unfold discardRecords discardedAlarm
  dsimp only
  rw [hga, foldl_repend_frame]
  cases hslot : s.alerts.gaSlot with
  | none => rfl
  | some g =>
    cases hremembered : s.ga.remembered with
    | some o => rfl
    | none =>
      cases hactive : s.ga.active with
      | false => rfl
      | true =>
        have hitems : s.ga = ⟨true, none⟩ := by rw [← hactive, ← hremembered]
        simp [State.modGa, clearLatch, State.modCode, hitems, Alerts.empty]

/-- The codes as the discard leaves them. -/
def discardedCodes (s : State) : Vector CodeState 64 :=
  Tab.of fun c =>
    if c = 2 then { s.codes.get c with latch := false, answer := none }
    else (s.codes.get c).discarded ((s.alerts.stack ++ s.alerts.pass).find? (latchesAgain s c))

theorem discardRecords_codes (hok : AlertsOk s.alerts) (htwo : ∀ q ∈ s.alerts.stack ++ s.alerts.pass, q.code ≠ 2) :
    (discardRecords s).codes = discardedCodes s := by
  obtain ⟨-, -, -, -, -, hdistinct, -⟩ := hok
  rw [discardRecords_frame]
  refine Tab.ext fun c => ?_
  rw [discardedCodes, Tab.get_of]
  split
  · next hc =>
    subst hc
    rw [clearLatch_get_self, foldl_repend_get_of_ne htwo]
  · next hc => exact (clearLatch_get_of_ne hc).trans (foldl_repend_get hdistinct)

theorem discardRecords_eq (hok : AlertsOk s.alerts) (htwo : ∀ q ∈ s.alerts.stack ++ s.alerts.pass, q.code ≠ 2) :
    discardRecords s =
      { s with alerts := ⟨[], [], 0, none, none⟩, ga := discardedAlarm s, codes := discardedCodes s } := by
  rw [← discardRecords_codes hok htwo, discardRecords_frame]

/-! ## What the discard latches -/

theorem setLatch_latch {a : Attributes} {d : Code} (h : (s.codes.get d).latch = true) :
    ((setLatch c a s).codes.get d).latch = true := by
  by_cases hd : d = c
  · rw [hd, setLatch_get_self]
  · rw [setLatch_get_of_ne hd, h]

theorem repend_latch (h : (s.codes.get c).latch = true) : ((repend s q).codes.get c).latch = true := by
  unfold repend
  split
  · exact setLatch_latch h
  · exact h

theorem foldl_repend_latch (h : (s.codes.get c).latch = true) : ((l.foldl repend s).codes.get c).latch = true := by
  induction l generalizing s with
  | nil => exact h
  | cons q l ih => exact ih (repend_latch h)

/-- Every discarded record of sense EDGE latches its code. -/
theorem foldl_repend_latches (hq : q ∈ l) (hedge : (s.vectors.get q.code).sense = .edge) :
    ((l.foldl repend s).codes.get q.code).latch = true := by
  induction l generalizing s with
  | nil => cases hq
  | cons r l ih =>
    obtain rfl | hq := List.mem_cons.1 hq
    · refine foldl_repend_latch (s := repend s q) ?_
      rw [repend_edge hedge, setLatch_get_self]
    · refine ih hq ?_
      rw [repend_vectors, hedge]

/-! ## What a hold keeps of the latches (R152) -/

/-- No latch is cleared between `s` and `t`, and code 2 is as it was. -/
structure KeepsLatches (s t : State) : Prop where
  latch : ∀ c : Code, (s.codes.get c).latch = true → (t.codes.get c).latch = true
  escalation : t.codes.get 2 = s.codes.get 2

namespace KeepsLatches

protected theorem refl : KeepsLatches s s := ⟨fun _ => id, rfl⟩

protected theorem trans (h : KeepsLatches s t) (k : KeepsLatches t u) : KeepsLatches s u :=
  ⟨fun c hc => k.latch c (h.latch c hc), k.escalation.trans h.escalation⟩

theorem then_eq (h : KeepsLatches s t) (codes : u.codes = t.codes := by simp) : KeepsLatches s u :=
  ⟨fun c hc => by rw [codes, h.latch c hc], by rw [codes, h.escalation]⟩

protected theorem ite {p : Prop} [Decidable p] (ht : KeepsLatches s t) (hu : KeepsLatches s u) :
    KeepsLatches s (if p then t else u) := by
  split
  · exact ht
  · exact hu

protected theorem foldl {α : Type} {l : List α} {f : State → α → State} (h : KeepsLatches s t)
    (hf : ∀ t x, KeepsLatches t (f t x)) : KeepsLatches s (l.foldl f t) := by
  induction l generalizing t with
  | nil => exact h
  | cons x l ih => exact ih (h.trans (hf t x))

protected theorem setLatch (h : KeepsLatches s t) {a : Attributes} (hc : c ≠ 2) : KeepsLatches s (setLatch c a t) :=
  h.trans ⟨fun _ => setLatch_latch, setLatch_get_of_ne hc.symm⟩

/-- An activation of code 2 is a vector fault, so it sets the latch of code 1 (R73). -/
protected theorem raiseCode (h : KeepsLatches s t) {x : Activation} : KeepsLatches s (raiseCode x t) := by
  unfold Machine.raiseCode
  dsimp only
  split_ifs with hconfig hlow habsent hmasked hlatches
  · exact h
  · exact h.setLatch (by decide)
  · exact h.setLatch (by decide)
  · exact h
  all_goals have htwo : x.code ≠ 2 := fun heq => hlow (by rw [heq]; decide)
  · exact h.setLatch htwo
  · refine h.trans ⟨fun d hd => ?_, by simp [htwo]⟩
    by_cases hd' : x.code = d
    · subst hd'
      simpa using hd
    · simpa [hd'] using hd

protected theorem raiseInternal (h : KeepsLatches s t) {c a z d} : KeepsLatches s (raiseInternal c a z d t) := by
  cases c with
  | none => exact h
  | some c => exact h.raiseCode

protected theorem bump (h : KeepsLatches s t) {b i n} : KeepsLatches s (bump b i n t) := by
  have hset {v : Word32} : KeepsLatches s (setCounter b i v t) := h.then_eq rfl
  have marked {v : Word32} {mark : Nat} : KeepsLatches s (raiseMark b i mark (setCounter b i v t)) :=
    .ite hset hset.raiseInternal
  exact .ite marked (.ite marked hset)

protected theorem jobCommand? (h : KeepsLatches s t) {a b} : KeepsLatches s (jobCommand? a b t) := by
  have sent {p : Port} {cls : TxClass} {f : TxFrame} : KeepsLatches s (sendTx p cls f t) := by
    unfold Machine.sendTx offerTx
    dsimp only
    split_ifs
    · exact h.then_eq rfl
    · exact h.bump
    · exact h.then_eq (startTransmission_codes ..)
  cases a with
  | none => exact h
  | some a =>
    unfold Machine.jobCommand? Machine.jobCommand
    dsimp only
    split
    · exact sent
    · exact h.bump

protected theorem modRamp (h : KeepsLatches s t) {r f} : KeepsLatches s (t.modRamp r f) := h.then_eq
protected theorem orderEnable (h : KeepsLatches s t) {r on} : KeepsLatches s (orderEnable r on t) := h.then_eq
protected theorem release? (h : KeepsLatches s t) {a o} : KeepsLatches s (release? a o t) := h.then_eq

protected theorem holdRamp (h : KeepsLatches s t) {r cause} : KeepsLatches s (holdRamp r cause t) := by
  unfold Machine.holdRamp
  split
  · exact h.modRamp.jobCommand?.raiseInternal
  · exact h.modRamp.jobCommand?.raiseInternal
  · exact h.modRamp.jobCommand?.jobCommand?.orderEnable.release?.raiseInternal
  · exact h

protected theorem holdAll (h : KeepsLatches s t) {cause} : KeepsLatches s (holdAll cause t) :=
  h.foldl fun _ _ => KeepsLatches.refl.holdRamp

end KeepsLatches

/-! ## The entry to AUTONOMOUS (R85, R90) -/

theorem holdAll_still {cause : Nat} (h : ∀ r : RampId, (s.rampDyn.get r).state.isActive = false) :
    holdAll cause s = s := by
  unfold holdAll
  generalize List.finRange 4 = rs
  induction rs with
  | nil => rfl
  | cons r rs ih => rw [List.foldl_cons, holdRamp_still (by simp [h r]), ih]

theorem enterAutonomous_run (h : s.device = .run) :
    enterAutonomous s = holdAll 3 (discardRecords { s with device := .autonomous }) := if_pos h

theorem enterAutonomous_outside (h : s.device ≠ .run) : enterAutonomous s = s := if_neg h

/-- What an entry to AUTONOMOUS leaves, whatever the ramps. -/
structure Entered (s t : State) : Prop where
  device : t.device = .autonomous
  alerts : t.alerts = ⟨[], [], 0, none, none⟩
  ga : t.ga = discardedAlarm s
  overdue : counter t .global 4 = counter s .global 4
  escalation : (t.codes.get 2).latch = false
  latches : ∀ q ∈ s.alerts.stack ++ s.alerts.pass, (s.vectors.get q.code).sense = .edge → q.code ≠ 2 →
    (t.codes.get q.code).latch = true
  still : ∀ r : RampId, (t.rampDyn.get r).state.isActive = false

theorem entered_autonomous (h : s.device = .run) : Entered s (enterAutonomous s) := by
  rw [enterAutonomous_run h]
  have hframe := discardRecords_frame (s := { s with device := .autonomous })
  have hlatched : ∀ q ∈ s.alerts.stack ++ s.alerts.pass, (s.vectors.get q.code).sense = .edge → _ :=
    fun q hq hedge => foldl_repend_latches (s := { s with device := .autonomous }) hq hedge
  generalize discardRecords { s with device := .autonomous } = e at hframe ⊢
  have hkeeps : HoldKeeps e (holdAll 3 e) := HoldKeeps.refl.holdAll
  have hlatches : KeepsLatches e (holdAll 3 e) := KeepsLatches.refl.holdAll
  have htally : KeepsTally e (holdAll 3 e) := KeepsTally.refl.foldl fun _ _ => KeepsTally.refl.holdRamp
  exact
    { device := by rw [hkeeps.device, hframe]
      alerts := (congrArg (·.2.1) hkeeps.core).trans (congrArg State.alerts hframe)
      ga := (congrArg (·.2.2) hkeeps.core).trans (congrArg State.ga hframe)
      overdue := (htally.counter_eq 4 (by decide) (by decide)).trans (by rw [hframe]; rfl)
      escalation := by rw [hlatches.escalation, hframe, clearLatch_get_self]
      latches := fun q hq hedge htwo => hlatches.latch _ (by rw [hframe, clearLatch_get_of_ne htwo, hlatched q hq hedge])
      still := fun r => by rw [holdAll_rampDyn]; exact RampDyn.onHold_inactive _ }

/-- The escalation record is marked, and one overdue record counted (R85). -/
def escalated (s : State) (r : AlertRecord) : State :=
  bump .global 4 1 { s with alerts := { s.alerts with escalation := some r.expired } }

theorem escalationOver_run {r : AlertRecord} {due : Nat} (hdevice : s.device = .run)
    (hr : s.alerts.escalation = some r) (hdue : r.ackTimer = .running due) :
    escalationOver s = enterAutonomous (escalated s r) := by
  unfold escalationOver
  rw [hr]
  exact if_pos ⟨hdevice, by simp [hdue, Timer.isRunning]⟩

theorem escalationOver_idle (h : s.device ≠ .run ∨ s.alerts.escalation = none) : escalationOver s = s := by
  unfold escalationOver
  split
  · rfl
  · next r hr =>
    have hdevice : s.device ≠ .run := h.resolve_right (by simp [hr])
    exact if_neg fun hrun => hdevice hrun.1

/-! ## A count does not look at the alert stores -/

/-- The state with its alert stores. -/
def State.withAlerts (s : State) (x : Alerts) : State := { s with alerts := x }

theorem raiseCode_withAlerts (a : Activation) (x : Alerts) :
    raiseCode a (s.withAlerts x) = (raiseCode a s).withAlerts x := by
  unfold raiseCode State.withAlerts
  dsimp only
  split_ifs <;> rfl

theorem raiseMark_withAlerts (b : CounterSet) (i : CounterId) (mark : Nat) (x : Alerts) :
    raiseMark b i mark (s.withAlerts x) = (raiseMark b i mark s).withAlerts x := by
  have hrecord : (s.withAlerts x).record = s.record := rfl
  have hraise (c : Option Code) (w : Word16) :
      raiseInternal c none none w (s.withAlerts x) = (raiseInternal c none none w s).withAlerts x := by
    cases c with
    | none => rfl
    | some c => exact raiseCode_withAlerts _ x
  unfold raiseMark
  rw [hrecord]
  dsimp only
  split_ifs
  · rfl
  · exact hraise ..
  · rfl
  · exact hraise ..

theorem bump_withAlerts (b : CounterSet) (i : CounterId) (n : Nat) (x : Alerts) :
    bump b i n (s.withAlerts x) = (bump b i n s).withAlerts x := by
  have hold : counter (s.withAlerts x) b i = counter s b i := rfl
  have hset (v : Word32) : setCounter b i v (s.withAlerts x) = (setCounter b i v s).withAlerts x := rfl
  unfold bump
  rw [hold]
  dsimp only
  rw [hset, raiseMark_withAlerts, raiseMark_withAlerts]
  split_ifs <;> rfl

theorem escalated_eq (r : AlertRecord) :
    escalated s r = (bump .global 4 1 s).withAlerts { s.alerts with escalation := some r.expired } :=
  bump_withAlerts ..

/-- What the count and the mark leave of the items that the entry to AUTONOMOUS takes up. -/
theorem escalated_items (r : AlertRecord) :
    (escalated s r).device = s.device ∧
      (escalated s r).alerts.stack ++ (escalated s r).alerts.pass = s.alerts.stack ++ s.alerts.pass ∧
      (escalated s r).vectors = s.vectors ∧ (escalated s r).rampDyn = s.rampDyn ∧
      discardedAlarm (escalated s r) = discardedAlarm s := by
  rw [escalated_eq]
  simp [State.withAlerts, discardedAlarm]

theorem escalated_codes {r : AlertRecord} (hmark : (bump .global 4 1 s).codes = s.codes) :
    (escalated s r).codes = s.codes := by
  rw [escalated_eq, ← hmark]
  rfl

theorem escalated_overdue (r : AlertRecord) : counter (escalated s r) .global 4 = counter s .global 4 + 1#32 := by
  rw [escalated, counter, bump_counters, BySet.at_put, if_pos rfl, Tab.get_put_self, BitVec.ofNat_add,
    BitVec.ofNat_toNat]
  rfl

theorem discardedAlarm_discards {g : AlertRecord} (hslot : s.alerts.gaSlot = some g) (hactive : s.ga.active = true)
    (hremembered : s.ga.remembered = none) : discardedAlarm s = ⟨true, some (g.attrs.origin, g.attrs.detail)⟩ := by
  simp only [discardedAlarm, hslot, hactive, hremembered]

theorem discardedAlarm_remembered {o : Origin × Word16} (hremembered : s.ga.remembered = some o) :
    discardedAlarm s = s.ga := by
  cases hslot : s.alerts.gaSlot <;> simp only [discardedAlarm, hslot, hremembered]

theorem discardedCodes_congr (hcodes : t.codes = s.codes)
    (hgone : t.alerts.stack ++ t.alerts.pass = s.alerts.stack ++ s.alerts.pass) (hvectors : t.vectors = s.vectors) :
    discardedCodes t = discardedCodes s := by
  have hagain : latchesAgain t = latchesAgain s := by
    funext c q
    rw [latchesAgain, hvectors, latchesAgain]
  rw [discardedCodes, hcodes, hgone, hagain, discardedCodes]

/-- No two records share a code, so the record that latches its code again is the one that is found. -/
theorem find?_latchesAgain (hdistinct : l.Pairwise fun a b => a.code ≠ b.code) (hq : q ∈ l)
    (hedge : (s.vectors.get q.code).sense = .edge) : l.find? (latchesAgain s q.code) = some q := by
  have hagain : latchesAgain s q.code q = true := latchesAgain_iff.2 ⟨rfl, hedge⟩
  obtain ⟨r, hr⟩ := Option.isSome_iff_exists.1 (List.find?_isSome.2 ⟨q, hq, hagain⟩)
  have hcode : r.code = q.code := (latchesAgain_iff.1 (List.find?_some hr)).1
  have hnodup : (l.map (·.code)).Nodup := List.pairwise_map.2 hdistinct
  rw [hr, List.inj_on_of_nodup_map hnodup (List.mem_of_find?_eq_some hr) hq hcode]

theorem discardedCodes_of_not (hc : c ≠ 2)
    (h : ∀ q ∈ s.alerts.stack ++ s.alerts.pass, ¬latchesAgain s c q = true) :
    (discardedCodes s).get c = s.codes.get c := by
  rw [discardedCodes, Tab.get_of, if_neg hc, List.find?_eq_none.2 h]
  rfl

theorem discardedCodes_of_edge (hok : AlertsOk s.alerts) (hq : q ∈ s.alerts.stack ++ s.alerts.pass) (htwo : q.code ≠ 2)
    (hedge : (s.vectors.get q.code).sense = .edge) :
    ((discardedCodes s).get q.code).latch = true ∧ ((discardedCodes s).get q.code).attrs = q.attrs := by
  obtain ⟨-, -, -, -, -, hdistinct, -⟩ := hok
  rw [discardedCodes, Tab.get_of, if_neg htwo, find?_latchesAgain hdistinct hq hedge]
  exact ⟨rfl, rfl⟩

/-- The escalation with no ramp in motion and no unmasked mark. -/
theorem enterAutonomous_escalated {r : AlertRecord} (hdevice : s.device = .run) (hok : AlertsOk s.alerts)
    (htwo : ∀ q ∈ s.alerts.stack ++ s.alerts.pass, q.code ≠ 2)
    (hstill : ∀ x : RampId, (s.rampDyn.get x).state.isActive = false)
    (hmark : (bump .global 4 1 s).codes = s.codes) :
    enterAutonomous (escalated s r) =
      { bump .global 4 1 s with
        device := .autonomous, alerts := ⟨[], [], 0, none, none⟩, ga := discardedAlarm s, codes := discardedCodes s } := by
  obtain ⟨hdevice', hgone, hvectors, hramps, hga⟩ := escalated_items (s := s) r
  have hok' : AlertsOk (escalated s r).alerts := by
    rw [escalated_eq]
    exact hok
  rw [enterAutonomous_run (hdevice'.trans hdevice),
    discardRecords_eq (s := { escalated s r with device := .autonomous }) hok' (by rw [hgone]; exact htwo),
    holdAll_still (by rw [hramps]; exact hstill)]
  have hcodes : discardedCodes { escalated s r with device := .autonomous } = discardedCodes s :=
    discardedCodes_congr (escalated_codes hmark) hgone hvectors
  have hga' : discardedAlarm { escalated s r with device := .autonomous } = discardedAlarm s := hga
  rw [hcodes, hga', escalated_eq]
  rfl

end Autonomous

/-- Settles O33: the entry to AUTONOMOUS discards the records (`discardRecords_frame`, `discardRecords_eq`) and holds the
ramps, and no hold clears a latch (`KeepsLatches`). -/
theorem escalationEntersAutonomous : Obligations.EscalationEntersAutonomous := by
  unfold Obligations.EscalationEntersAutonomous
  refine ⟨⟨⟨fun s r due hrun hdevice hr hdue => ?_, fun s hrun h => concluded_eq hrun (escalationOver_idle h)⟩,
    fun s r due hrun hdevice hr hdue hok htwo hstill hmark => ?_⟩, fun s => ⟨enterAutonomous_outside,
    fun hdevice hok htwo => ?_⟩⟩
  · obtain ⟨hdevice', hgone, hvectors, -, hga⟩ := escalated_items (s := s) r
    have hentered := entered_autonomous (hdevice'.trans hdevice)
    refine ⟨_, concluded_eq hrun (escalationOver_run hdevice hr hdue), hentered.device, hentered.alerts,
      hentered.overdue.trans (escalated_overdue r), hentered.escalation, fun q hq hedge => hentered.latches q ?_ ?_,
      fun g hslot hactive hremembered => ?_, fun o hremembered => ?_, hentered.still⟩
    · rw [hgone]
      exact hq
    · rw [hvectors]
      exact hedge
    · rw [hentered.ga, hga, discardedAlarm_discards hslot hactive hremembered]
    · rw [hentered.ga, hga, discardedAlarm_remembered hremembered]
  · have ht := enterAutonomous_escalated (r := r) hdevice hok htwo hstill hmark
    refine ⟨_, concluded_eq hrun ((escalationOver_run hdevice hr hdue).trans ht), fun q hq hedge => ?_,
      fun q hq hlevel => discardedCodes_of_not (htwo q hq) fun p _ hagain => ?_,
      fun c hc hother => discardedCodes_of_not hc fun p hp hagain => hother p hp (latchesAgain_iff.1 hagain).1, rfl⟩
    · exact discardedCodes_of_edge hok hq (htwo q hq) hedge
    · cases hlevel.symm.trans (latchesAgain_iff.1 hagain).2
  · rw [enterAutonomous_run hdevice, discardRecords_eq (s := { s with device := .autonomous }) hok htwo]
    rfl

end Sys2Proof.Machine
end

section

set_option Elab.async false

namespace Sys2Proof.Machine

/-! # The frames of a reset (R142, R164, R180, R181)

The part is in CONFIG when its blocks are reset, so the frames they queue reach the ports and the counters alone. -/

section ResetFrames

variable {s t u v : State} {b : CounterSet} {i : CounterId} {n : Nat}

/-! ## A count in CONFIG -/

theorem bump_config (hconfig : s.device = .config) :
    bump b i n s =
      { s with
        counters :=
          s.counters.put b (Tab.put (s.counters.at b) i (BitVec.ofNat 32 (((s.counters.at b).get i).toNat + n))) } := by
  rw [bump_frame, bump_counters, bump_codes_config hconfig]

theorem counter_bump_self : counter (bump b i n s) b i = counter s b i + BitVec.ofNat 32 n := by
  rw [counter, bump_counters, BySet.at_put, if_pos rfl, Tab.get_put_self, BitVec.ofNat_add, BitVec.ofNat_toNat]
  simp [counter]

/-! ## What the frames of the jobs reach -/

/-- Between `s` and `t` frames of jobs were queued on the deck lines and the jobs' own items reset; no counter but a
drop has risen. -/
structure Sends (s t : State) : Prop where
  frame : t = { s with
    ports := t.ports, counters := t.counters, calls := t.calls, zoneLines := t.zoneLines, rampDyn := t.rampDyn }
  core : t.core = s.core
  counter_eq : ∀ (b : CounterSet) (i : CounterId), i ≠ ctrDrops → counter t b i = counter s b i
  sending : ∀ (p : Port) (f : TxFrame), (s.port p).sending = some f → (t.port p).sending = some f
  bridge : t.port .bridge = s.port .bridge

namespace Sends

protected theorem refl : Sends s s := ⟨rfl, rfl, fun _ _ _ => rfl, fun _ _ => id, rfl⟩

protected theorem trans (h : Sends s t) (k : Sends t u) : Sends s u where
  frame := by
    rw [k.frame, h.frame]
  core := k.core.trans h.core
  counter_eq b i hi := (k.counter_eq b i hi).trans (h.counter_eq b i hi)
  sending p f hf := k.sending p f (h.sending p f hf)
  bridge := k.bridge.trans h.bridge

theorem device (h : Sends s t) : t.device = s.device := congrArg (·.1.device) h.core

theorem kept (h : Sends s t) : t.kept = s.kept := congrArg (·.1) h.core

/-- The jobs' own items are reset. -/
theorem then_jobs (h : Sends s t) {calls : List CallRecord} {lines : Vector ZoneLine 8} {ramps : Vector RampDyn 4} :
    Sends s { t with calls := calls, zoneLines := lines, rampDyn := ramps } :=
  h.trans ⟨rfl, rfl, fun _ _ _ => rfl, fun _ _ => id, rfl⟩

protected theorem foldl {α : Type} {l : List α} {f : State → α → State} (h : Sends s t)
    (hf : ∀ t x, t.device = s.device → Sends t (f t x)) : Sends s (l.foldl f t) := by
  induction l generalizing t with
  | nil => exact h
  | cons x l ih => exact ih (h.trans (hf t x h.device))

protected theorem ite {c : Prop} [Decidable c] (ht : Sends s t) (hu : Sends s u) : Sends s (if c then t else u) := by
  split
  · exact ht
  · exact hu

/-- A drop is counted. -/
protected theorem bump (hconfig : s.device = .config) : Sends s (bump b ctrDrops n s) where
  frame := by rw [bump_config hconfig]
  core := bump_core ..
  counter_eq _ _ hi := counter_bump_of_ne fun _ => hi.symm
  sending p f := by simp
  bridge := by simp

/-- The transmit queue of a deck line is changed. -/
theorem modPort {d : Deck} {f : PortUnit → PortUnit} (hup : (f (s.port (deckPort d))).up = (s.port (deckPort d)).up)
    (hrx : (f (s.port (deckPort d))).rx = (s.port (deckPort d)).rx)
    (hsending : ∀ x, (s.port (deckPort d)).sending = some x → (f (s.port (deckPort d))).sending = some x) :
    Sends s (s.modPort (deckPort d) f) where
  frame := rfl
  core := modPort_core s _ _ hup hrx
  counter_eq _ _ _ := rfl
  sending p x hx := by
    unfold State.port State.modPort
    dsimp only
    rw [ByPort.at_put]
    split
    · next hp =>
      subst hp
      exact hsending x hx
    · exact hx
  bridge := by cases d <;> rfl

theorem startTransmission {d : Deck} : Sends s (startTransmission (deckPort d) s) := by
  unfold Machine.startTransmission
  dsimp only
  split
  · next hfree =>
    split
    · exact .refl
    · refine modPort rfl rfl fun x hx => ?_
      simp [hx] at hfree
  · exact .refl

protected theorem sendTx {d : Deck} {cls : TxClass} {f : TxFrame} (hconfig : s.device = .config) :
    Sends s (sendTx (deckPort d) cls f s) := by
  unfold Machine.sendTx offerTx
  dsimp only
  split
  · dsimp only
    exact modPort rfl rfl fun _ => id
  · split
    · exact Sends.bump hconfig
    · have appended : Sends s (s.modPort (deckPort d) fun u => { u with tx := u.tx ++ [⟨cls, f⟩] }) :=
        modPort rfl rfl fun _ => id
      exact appended.trans startTransmission

protected theorem jobCommand? {a : Option Addr} {p : List Byte} (hconfig : s.device = .config) :
    Sends s (jobCommand? a p s) := by
  cases a with
  | none => exact .refl
  | some a =>
    unfold Machine.jobCommand? jobCommand
    dsimp only
    split
    · exact Sends.sendTx hconfig
    · exact Sends.bump hconfig

protected theorem resetCalls (hconfig : s.device = .config) : Sends s (resetCalls s) :=
  (Sends.refl.foldl fun _ _ hdevice => .ite (Sends.jobCommand? (hdevice.trans hconfig)) .refl).then_jobs

protected theorem resetRamps (hconfig : s.device = .config) : Sends s (resetRamps s) :=
  Sends.refl.foldl fun _ _ hdevice =>
    (Sends.ite (Sends.jobCommand? (hdevice.trans hconfig)) .refl).then_jobs

end Sends

/-! ## Which frames the resets queue -/

/-- The links of `s` and `t` are alike: the same ports, stations and grades, and as many drops. -/
structure SameLinks (s t : State) : Prop where
  ports : t.ports = s.ports
  stations : t.stations = s.stations
  quality : t.quality = s.quality
  drops : ∀ p : Port, counter t (portSet p) ctrDrops = counter s (portSet p) ctrDrops

namespace SameLinks

theorem port (h : SameLinks s t) (p : Port) : t.port p = s.port p := congrArg (·.at p) h.ports

theorem steer (h : SameLinks s t) (a : Addr) : steer a t = steer a s := by
  unfold Machine.steer steerBy isImpaired State.port
  rw [h.ports, h.stations, h.quality]

theorem modPort (h : SameLinks s t) {p : Port} {f : PortUnit → PortUnit} : SameLinks (s.modPort p f) (t.modPort p f) where
  ports := by simp [h.ports]
  stations := h.stations
  quality := h.quality
  drops := h.drops

protected theorem bump (h : SameLinks s t) {p : Port} :
    SameLinks (bump (portSet p) ctrDrops n s) (bump (portSet p) ctrDrops n t) where
  ports := by simp [h.ports]
  stations := by simp [h.stations]
  quality := by simp [h.quality]
  drops q := by
    by_cases hp : p = q
    · subst hp
      rw [counter_bump_self, counter_bump_self, h.drops]
    · have hset : portSet p = portSet q → ctrDrops ≠ ctrDrops := by cases p <;> cases q <;> simp_all [portSet]
      rw [counter_bump_of_ne hset, counter_bump_of_ne hset, h.drops]

theorem startTransmission (h : SameLinks s t) {p : Port} :
    SameLinks (startTransmission p s) (startTransmission p t) := by
  unfold Machine.startTransmission
  dsimp only
  rw [h.port p]
  split
  · split
    · exact h
    · exact h.modPort
  · exact h

protected theorem sendTx (h : SameLinks s t) {p : Port} {cls : TxClass} {f : TxFrame} :
    SameLinks (sendTx p cls f s) (sendTx p cls f t) := by
  unfold Machine.sendTx offerTx txRefuses
  dsimp only
  rw [h.port p]
  split
  · dsimp only
    exact h.modPort
  · split
    · exact h.bump
    · exact h.modPort.startTransmission

protected theorem jobCommand? (h : SameLinks s t) {a : Option Addr} {p : List Byte} :
    SameLinks (jobCommand? a p s) (jobCommand? a p t) := by
  cases a with
  | none => exact h
  | some a =>
    unfold Machine.jobCommand? jobCommand
    dsimp only
    rw [h.steer a, h.stations]
    split
    · exact h.sendTx
    · exact h.bump

/-- The jobs' own items are reset. -/
theorem then_jobs (h : SameLinks s t) {calls : List CallRecord} {lines : Vector ZoneLine 8} {ramps : Vector RampDyn 4} :
    SameLinks s { t with calls := calls, zoneLines := lines, rampDyn := ramps } :=
  ⟨h.ports, h.stations, h.quality, h.drops⟩

end SameLinks

theorem ZoneLineState.isBusy_eq (x : ZoneLineState) :
    x.isBusy = (decide (x = .starting) || decide (x = .playing) || decide (x = .stopping)) := by cases x <;> rfl

theorem RampState.isActive_eq (x : RampState) :
    x.isActive = (decide (x = .clearing) || decide (x = .moving) || decide (x = .homing)) := by cases x <;> rfl

theorem speedPayload_zero : speedPayload 0 = [0x30#8, 0x00#8, 0x00#8] := by decide

/-- STOP to the amplifiers of the lines that are or may be playing (R142). -/
def stopsOf (s v : State) : State :=
  ((List.finRange 8).filter fun z => decide ((s.zoneLines.get z).state = .starting) ||
      decide ((s.zoneLines.get z).state = .playing) || decide ((s.zoneLines.get z).state = .stopping)).foldl
    (fun v z => jobCommand? (s.zones.get z).amplifier [0x12#8] v) v

/-- SPEED 0 to the drives of the ramps in motion (R164). -/
def speedsOf (s v : State) : State :=
  ((List.finRange 4).filter fun r => decide ((s.rampDyn.get r).state = .clearing) ||
      decide ((s.rampDyn.get r).state = .moving) || decide ((s.rampDyn.get r).state = .homing)).foldl
    (fun v r => jobCommand? (s.ramps.get r).drive [0x30#8, 0x00#8, 0x00#8] v) v

theorem stopsOf_sends (h : SameLinks v t) (hlines : t.zoneLines = s.zoneLines) (hzones : t.zones = s.zones) :
    SameLinks (stopsOf s v) (resetCalls t) := by
  refine SameLinks.then_jobs (ramps := _) ?_
  simp only [stopsOf, ← ZoneLineState.isBusy_eq]
  generalize List.finRange 8 = l
  induction l generalizing v t with
  | nil => exact h
  | cons z l ih =>
    rw [List.foldl_cons, hlines]
    by_cases hbusy : (s.zoneLines.get z).state.isBusy = true
    · rw [List.filter_cons_of_pos (p := fun z => (s.zoneLines.get z).state.isBusy) hbusy, if_pos hbusy, sendStop,
        amplifier, hzones]
      exact ih h.jobCommand? (by simp [hlines]) (by simp [hzones])
    · rw [List.filter_cons_of_neg (p := fun z => (s.zoneLines.get z).state.isBusy) hbusy, if_neg hbusy]
      exact ih h hlines hzones

theorem speedsOf_sends (h : SameLinks v t) (hdyn : t.rampDyn = s.rampDyn) (hramps : t.ramps = s.ramps) :
    SameLinks (speedsOf s v) (resetRamps t) := by
  have hrows : ∀ r ∈ List.finRange 4, t.rampDyn.get r = s.rampDyn.get r := fun r _ => by rw [hdyn]
  have hnodup := List.nodup_finRange 4
  clear hdyn
  unfold resetRamps
  simp only [speedsOf, ← RampState.isActive_eq, ← speedPayload_zero]
  revert hrows hnodup
  generalize List.finRange 4 = l
  intro hrows hnodup
  induction l generalizing v t with
  | nil => exact h
  | cons r l ih =>
    obtain ⟨hr, hl⟩ := List.forall_mem_cons.1 hrows
    obtain ⟨hnotin, hnodup⟩ := List.nodup_cons.1 hnodup
    have hne {q : RampId} (hq : q ∈ l) : r ≠ q := fun heq => hnotin (heq ▸ hq)
    rw [List.foldl_cons]
    rw [hr]
    by_cases hactive : (s.rampDyn.get r).state.isActive = true
    · rw [List.filter_cons_of_pos (p := fun r => (s.rampDyn.get r).state.isActive) hactive, if_pos hactive, sendSpeed,
        drive, hramps]
      exact ih h.jobCommand?.then_jobs (by simp [hramps]) (fun q hq => by simp [hne hq, hl q hq]) hnodup
    · rw [List.filter_cons_of_neg (p := fun r => (s.rampDyn.get r).state.isActive) hactive, if_neg hactive]
      exact ih h.then_jobs (by simp [hramps]) (fun q hq => by simp [hne hq, hl q hq]) hnodup

end ResetFrames

end Sys2Proof.Machine
end

section

set_option Elab.async false

namespace Sys2Proof.Machine

/-! # The reset of every block (R17, R42, R53, R62, R97, R123, R142, R164, R180, R181) -/

section Flush

variable {s t : State} {p q : Port} {b : CounterSet} {i : CounterId}

/-! ## The queues emptied (R17) -/

/-- The port with its queues empty. -/
def PortUnit.emptied (q : PortUnit) : PortUnit := { q with rx := [], tx := [] }

/-- Every port with its queues empty. -/
def emptied (u : ByPort PortUnit) : ByPort PortUnit := ⟨u.deckA.emptied, u.deckB.emptied, u.bridge.emptied⟩

/-- The number of frames that wait at a port. -/
def waiting (s : State) (p : Port) : Nat := (s.port p).rx.length + (s.port p).tx.length

theorem flushPort_eq :
    flushPort p s = bump (portSet p) ctrFlushed (waiting s p) (s.modPort p (·.emptied)) := rfl

theorem flushPort_port_of_ne (h : p ≠ q) : (flushPort p s).port q = s.port q := by
  rw [flushPort_eq]
  simp [State.port, ByPort.at_put, h]

theorem counter_flushPort_of_ne (h : portSet p = b → i ≠ ctrFlushed) : counter (flushPort p s) b i = counter s b i :=
  counter_bump_of_ne fun hset => (h hset).symm

theorem counter_flushPort_self :
    counter (flushPort p s) (portSet p) ctrFlushed = counter s (portSet p) ctrFlushed + BitVec.ofNat 32 (waiting s p) :=
  counter_bump_self

theorem flushPorts_counter_of_ne (h : i ≠ ctrFlushed) : counter (flushPorts s) b i = counter s b i := by
  unfold flushPorts
  rw [counter_flushPort_of_ne fun _ => h, counter_flushPort_of_ne fun _ => h, counter_flushPort_of_ne fun _ => h]

theorem waiting_congr (h : t.port p = s.port p) : waiting t p = waiting s p := by rw [waiting, h, waiting]

theorem flushPorts_flushed (p : Port) :
    counter (flushPorts s) (portSet p) ctrFlushed = counter s (portSet p) ctrFlushed + BitVec.ofNat 32 (waiting s p) := by
  have hset {q r : Port} (h : q ≠ r) : portSet q = portSet r → ctrFlushed ≠ ctrFlushed := by
    cases q <;> cases r <;> simp_all [portSet]
  unfold flushPorts
  cases p with
  | deckA =>
    rw [counter_flushPort_of_ne (hset (by decide)), counter_flushPort_of_ne (hset (by decide)), counter_flushPort_self]
  | deckB =>
    rw [counter_flushPort_of_ne (hset (by decide)), counter_flushPort_self, counter_flushPort_of_ne (hset (by decide)),
      waiting_congr (flushPort_port_of_ne (by decide))]
  | bridge =>
    rw [counter_flushPort_self, counter_flushPort_of_ne (hset (by decide)), counter_flushPort_of_ne (hset (by decide)),
      waiting_congr ((flushPort_port_of_ne (by decide)).trans (flushPort_port_of_ne (by decide)))]

/-- In CONFIG a flush reaches the ports and the counters alone. -/
theorem flushPorts_frame (hconfig : s.device = .config) :
    flushPorts s = { s with ports := emptied s.ports, counters := (flushPorts s).counters } := by
  have hone {p : Port} {t : State} (ht : t.device = .config) :
      flushPort p t = { t with ports := t.ports.put p (t.port p).emptied, counters := (flushPort p t).counters } := by
    rw [flushPort_eq, bump_config (s := t.modPort p (·.emptied)) ht]
    rfl
  unfold flushPorts
  rw [hone (p := .bridge), hone (p := .deckB), hone (p := .deckA) hconfig]
  · rfl
  · rw [hone (p := .deckA) hconfig]
    exact hconfig
  · rw [hone (p := .deckB), hone (p := .deckA) hconfig]
    · exact hconfig
    · rw [hone (p := .deckA) hconfig]
      exact hconfig

end Flush

section Base

variable {s t : State}

/-! ## The blocks but for the Call Arbiter and the ramps -/

/-- The state with every block reset but the Call Arbiter and the Ramp Controller, before their frames are queued. -/
def resetBase (s : State) : State :=
  resetZones (reportLinesAnew (reportMapsAnew (resetEvents (haltTimers (deEnergiseAll (invalidateAll
    (resetStations (flushPorts { s with device := .config }))))))))

theorem resetBlocks_eq : resetBlocks s = resetRamps (resetCalls (resetBase s)) := rfl

theorem reportMapAnew_latch {c d : Code} (hconfig : s.device = .config) :
    ((reportMapAnew s c).codes.get d).latch = (s.codes.get d).latch := by
  unfold reportMapAnew
  split
  · rfl
  · split
    · rfl
    · exact reportCondition_latch (fun hservice => absurd hconfig hservice) ..

theorem reportLineAnew_latch {c d : Code} (hconfig : s.device = .config) :
    ((reportLineAnew s c).codes.get d).latch = (s.codes.get d).latch := by
  unfold reportLineAnew
  split
  · rfl
  · exact reportCondition_latch (fun hservice => absurd hconfig hservice) ..

theorem reportMapsAnew_latch {d : Code} (hconfig : s.device = .config) :
    ((reportMapsAnew s).codes.get d).latch = (s.codes.get d).latch := by
  rw [reportMapsAnew_eq]
  generalize List.finRange 64 = l
  induction l generalizing s with
  | nil => rfl
  | cons c l ih =>
    have hdevice : (reportMapAnew s c).device = .config := by rw [reportMapAnew_frame, hconfig]
    exact (ih hdevice).trans (reportMapAnew_latch hconfig)

theorem reportLinesAnew_latch {d : Code} (hconfig : s.device = .config) :
    ((reportLinesAnew s).codes.get d).latch = (s.codes.get d).latch := by
  rw [reportLinesAnew_eq]
  generalize List.finRange 64 = l
  induction l generalizing s with
  | nil => rfl
  | cons c l ih =>
    have hdevice : (reportLineAnew s c).device = .config := by rw [reportLineAnew_frame, hconfig]
    exact (ih hdevice).trans (reportLineAnew_latch hconfig)

/-- The conditions reported anew change the codes alone, and in CONFIG set no latch. -/
theorem reportAnew_eq (hcounts : ∀ c : Code, t.mapCounts.get c = activeMapTotal t c) :
    reportLinesAnew (reportMapsAnew t) = { t with codes := (reportLinesAnew (reportMapsAnew t)).codes } := by
  obtain ⟨hmaps, -⟩ := reportMapsAnew_walk (List.finRange 64) t hcounts
  obtain ⟨hlines, -⟩ := reportLinesAnew_walk (List.finRange 64) (reportMapsAnew t)
  rw [← reportMapsAnew_eq] at hmaps
  rw [← reportLinesAnew_eq] at hlines
  rw [hlines, hmaps]

/-- The state before the conditions are reported anew. -/
def resetBare (s : State) : State :=
  resetEvents (haltTimers (deEnergiseAll (invalidateAll (resetStations (flushPorts { s with device := .config })))))

theorem resetStations_eq :
    ∃ m, resetStations s = { s with
      owners := Vector.replicate 254 .free
      stationDyn := Tab.of fun a => (s.stationDyn.get a).afterReset (s.stations.get a).checkTime
      mapCounts := m } := ⟨_, rfl⟩

theorem resetEvents_bare :
    resetEvents (haltTimers (deEnergiseAll (invalidateAll s))) = { s with
      mirror := s.mirror.map (·.invalid), outputs := Vector.replicate 16 false
      timerDyn := s.timerDyn.map (·.halted), codes := Vector.replicate 64 CodeState.powerOn
      alerts := Alerts.empty, ga := GeneralAlarm.powerOn } := rfl

theorem resetBare_eq :
    ∃ (c : BySet (Vector Word32 13)) (m : Vector Nat 64),
      c = (flushPorts { s with device := .config }).counters ∧
      resetBare s = { s with
        device := .config, ports := emptied s.ports, counters := c, owners := Vector.replicate 254 .free
        stationDyn := Tab.of fun a => (s.stationDyn.get a).afterReset (s.stations.get a).checkTime
        mapCounts := m, mirror := s.mirror.map (·.invalid), outputs := Vector.replicate 16 false
        timerDyn := s.timerDyn.map (·.halted), codes := Vector.replicate 64 CodeState.powerOn
        alerts := Alerts.empty, ga := GeneralAlarm.powerOn } := by
  obtain ⟨c, hc, hflushed⟩ : ∃ c, c = (flushPorts { s with device := .config }).counters ∧
      flushPorts { s with device := .config } =
        { s with device := .config, ports := emptied s.ports, counters := c } := ⟨_, rfl, flushPorts_frame rfl⟩
  obtain ⟨m, hstations⟩ :=
    resetStations_eq (s := { s with device := .config, ports := emptied s.ports, counters := c })
  refine ⟨c, m, hc, ?_⟩
  rw [resetBare, hflushed, hstations, resetEvents_bare]

theorem resetBase_report : resetBase s = resetZones (reportLinesAnew (reportMapsAnew (resetBare s))) := rfl

theorem resetBare_mapCounts (c : Code) : (resetBare s).mapCounts.get c = activeMapTotal (resetBare s) c := by
  unfold resetBare
  have hcounts := resetStations_mapCounts (s := flushPorts { s with device := .config }) c
  generalize resetStations (flushPorts { s with device := .config }) = r at hcounts ⊢
  rw [resetEvents_bare]
  exact hcounts.trans (activeMapTotal_congr rfl (fun _ => rfl) c)

/-- A code after the reset: no latch is set, and the conditions follow the counts. -/
structure CodesFresh (t : State) : Prop where
  latch : ∀ c : Code, (t.codes.get c).latch = false
  maps : MapsAgree t
  lines : LinesAgree t

theorem codesFresh_report : CodesFresh (reportLinesAnew (reportMapsAnew (resetBare s))) := by
  obtain ⟨k, m, -, hbare⟩ := resetBare_eq (s := s)
  have hconfig : (resetBare s).device = .config := by rw [hbare]
  have hcodes (c : Code) : (resetBare s).codes.get c = CodeState.powerOn := by
    rw [hbare]
    exact Tab.get_replicate ..
  obtain ⟨hmaps, hlines⟩ := reportAnew_agree (s := resetBare s) (fun c => by rw [hcodes]; exact ⟨rfl, rfl⟩)
    resetBare_mapCounts
  have hdevice : (reportMapsAnew (resetBare s)).device = .config := by
    obtain ⟨hframe, -⟩ := reportMapsAnew_walk (List.finRange 64) (resetBare s) resetBare_mapCounts
    rw [← reportMapsAnew_eq] at hframe
    rw [hframe, hconfig]
  refine ⟨fun c => ?_, hmaps, hlines⟩
  rw [reportLinesAnew_latch hdevice, reportMapsAnew_latch hconfig, hcodes]
  rfl

/-- With every door UNKNOWN a zone is OPEN when it has no member and PARTLY OPEN otherwise (R104, R123). -/
theorem restState_unknown {z : ZoneId} (hdoors : ∀ d : DoorId, (t.doorDyn.get d).state = .unknown) :
    restState t z = if members t z = [] then .opened else .partly := by
  unfold restState
  dsimp only
  cases hmembers : members t z with
  | nil => rfl
  | cons d l => simp [hdoors]

theorem resetZones_eq :
    resetZones t = { t with
      doorDyn := Vector.replicate 24 DoorDyn.powerOn
      zoneDyn := Tab.of fun z => (t.zoneDyn.get z).afterReset (if members t z = [] then .opened else .partly) } := by
  have hrest (z : ZoneId) : restState { t with doorDyn := Vector.replicate 24 DoorDyn.powerOn } z =
      if members t z = [] then .opened else .partly := by
    refine restState_unknown fun d => ?_
    simp [DoorDyn.powerOn]
  unfold resetZones
  simp only [hrest]

/-- Every block but the Call Arbiter and the ramps after the reset. -/
theorem resetBase_eq :
    ∃ (m : Vector Nat 64) (k : Vector CodeState 64),
      resetBase s = { s with
        device := .config, ports := emptied s.ports, counters := (flushPorts { s with device := .config }).counters
        owners := Vector.replicate 254 .free
        stationDyn := Tab.of fun a => (s.stationDyn.get a).afterReset (s.stations.get a).checkTime
        mapCounts := m, mirror := s.mirror.map (·.invalid), outputs := Vector.replicate 16 false
        timerDyn := s.timerDyn.map (·.halted), codes := k, alerts := Alerts.empty, ga := GeneralAlarm.powerOn
        doorDyn := Vector.replicate 24 DoorDyn.powerOn
        zoneDyn := Tab.of fun z =>
          (s.zoneDyn.get z).afterReset (if members s z = [] then .opened else .partly) } := by
  obtain ⟨c, m, hc, hbare⟩ := resetBare_eq (s := s)
  obtain ⟨k, hreport⟩ : ∃ k, reportLinesAnew (reportMapsAnew (resetBare s)) = { resetBare s with codes := k } :=
    ⟨_, reportAnew_eq resetBare_mapCounts⟩
  refine ⟨m, k, ?_⟩
  rw [resetBase_report, hreport, hbare, resetZones_eq, hc]
  rfl

end Base

end Sys2Proof.Machine
end

section

set_option Elab.async false

namespace Sys2Proof.Machine

/-! # What the reset of every block leaves (R180, R181) -/

section Reset

variable {s t : State} {z : ZoneId} {r : RampId}

/-! ## The Call Arbiter and the Ramp Controller -/

/-- A walk whose steps do not show in a view does not show there. -/
theorem foldl_keeps {α β : Type} {f : State → α → State} {view : State → β} (h : ∀ s x, view (f s x) = view s)
    (l : List α) (s : State) : view (l.foldl f s) = view s := by
  induction l generalizing s with
  | nil => rfl
  | cons x l ih => exact (ih (f s x)).trans (h s x)

theorem resetCalls_rampDyn (t : State) : (resetCalls t).rampDyn = t.rampDyn := by
  unfold resetCalls
  dsimp only
  refine foldl_keeps (view := State.rampDyn) (fun s z => ?_) _ t
  split <;> simp [sendStop]

theorem resetRamps_calls (t : State) : (resetRamps t).calls = t.calls :=
  foldl_keeps (view := State.calls) (fun s r => by dsimp only; split <;> simp [sendSpeed]) _ t

theorem resetRamps_zoneLines (t : State) : (resetRamps t).zoneLines = t.zoneLines :=
  foldl_keeps (view := State.zoneLines) (fun s r => by dsimp only; split <;> simp [sendSpeed]) _ t

theorem resetRamps_rampDyn (t : State) : (resetRamps t).rampDyn.get r = (t.rampDyn.get r).afterReset := by
  have hstep (v : State) (q : RampId) :
      ((if (v.rampDyn.get q).state.isActive then sendSpeed q 0 v else v).modRamp q (·.afterReset)).rampDyn =
        Tab.upd v.rampDyn q (·.afterReset) := by
    split <;> simp [sendSpeed]
  obtain ⟨u, hview, hlast⟩ := foldl_finRange_view
    (f := fun (s : State) q =>
      (if (s.rampDyn.get q).state.isActive then sendSpeed q 0 s else s).modRamp q (·.afterReset))
    (view := fun v => v.rampDyn.get r) r (fun v q hq => by rw [hstep, Tab.get_upd_of_ne _ hq]) t
  refine hlast.trans ?_
  rw [hstep, Tab.get_upd_self]
  exact congrArg RampDyn.afterReset hview

theorem freshLine_congr (hzones : t.zones = s.zones) (hdyn : t.stationDyn = s.stationDyn) (z : ZoneId) :
    freshLine t z = freshLine s z := by
  unfold freshLine amplifier isHeard pointOn
  rw [hzones, hdyn]

theorem resetCalls_zoneLines (hconfig : t.device = .config) (z : ZoneId) :
    (resetCalls t).zoneLines.get z = freshLine t z := by
  have hsends : Sends t ((List.finRange 8).foldl
      (fun s z => if (s.zoneLines.get z).state.isBusy then sendStop z s else s) t) :=
    Sends.refl.foldl fun _ _ hdevice => .ite (Sends.jobCommand? (hdevice.trans hconfig)) .refl
  refine (Tab.get_of ..).trans (freshLine_congr ?_ ?_ z)
  · rw [hsends.frame]
  · rw [hsends.frame]

theorem RampDyn.afterReset_eq (d : RampDyn) :
    d.afterReset =
      let d : RampDyn := { d with overspeed := 0, direction := 0, stall := 0 }
      let still : RampDyn := { d with vset := 0, control := .stopped, clearance := .stopped, callRef := none }
      match d.state with
      | .clearing | .moving => { still with state := .held }
      | .homing => { still with state := .unreferenced, referenced := false }
      | _ => d := by
  cases hstate : d.state <;> simp [RampDyn.afterReset, RampDyn.stopped, hstate]

/-! ## The state after the reset -/

theorem resetBase_config : (resetBase s).device = .config := by
  obtain ⟨m, k, hbase⟩ := resetBase_eq (s := s)
  rw [hbase]

theorem sends_resetBlocks : Sends (resetBase s) (resetBlocks s) := by
  have hcalls : Sends (resetBase s) (resetCalls (resetBase s)) := Sends.resetCalls resetBase_config
  exact hcalls.trans (Sends.resetRamps (hcalls.device.trans resetBase_config))

theorem CodesFresh.congr (h : CodesFresh s) (codes : t.codes = s.codes) (maps : t.mapCounts = s.mapCounts)
    (lines : t.lineCounts = s.lineCounts) : CodesFresh t where
  latch c := by rw [codes, h.latch c]
  maps c := by rw [codes, maps, h.maps c]
  lines c := by rw [codes, lines, h.lines c]

theorem codesFresh_resetBlocks : CodesFresh (resetBlocks s) := by
  have hbase : CodesFresh (resetBase s) := codesFresh_report.congr (s := reportLinesAnew (reportMapsAnew (resetBare s)))
    (by rw [resetBase_report, resetZones_eq]) (by rw [resetBase_report, resetZones_eq])
    (by rw [resetBase_report, resetZones_eq])
  exact hbase.congr (by rw [sends_resetBlocks.frame]) (by rw [sends_resetBlocks.frame])
    (by rw [sends_resetBlocks.frame])

/-- Every field of the reset state that its frames do not reach. -/
theorem resetBlocks_frame :
    ∃ (m : Vector Nat 64) (k : Vector CodeState 64), ∀ u, u = resetBlocks s →
      u = { s with
        device := .config, ports := u.ports, counters := u.counters, owners := Vector.replicate 254 .free
        stationDyn := Tab.of fun a => (s.stationDyn.get a).afterReset (s.stations.get a).checkTime
        mapCounts := m, mirror := s.mirror.map (·.invalid), outputs := Vector.replicate 16 false
        timerDyn := s.timerDyn.map (·.halted), codes := k, alerts := Alerts.empty, ga := GeneralAlarm.powerOn
        doorDyn := Vector.replicate 24 DoorDyn.powerOn
        zoneDyn := Tab.of fun z => (s.zoneDyn.get z).afterReset (if members s z = [] then .opened else .partly)
        calls := u.calls, zoneLines := u.zoneLines, rampDyn := u.rampDyn } := by
  obtain ⟨m, k, hbase⟩ := resetBase_eq (s := s)
  refine ⟨m, k, ?_⟩
  rintro u rfl
  have hframe := sends_resetBlocks.frame (s := resetBase s)
  rw [hbase] at hframe
  exact hframe

theorem resetBlocks_calls : (resetBlocks s).calls = [] := resetRamps_calls _

theorem resetBlocks_zoneLines : (resetBlocks s).zoneLines.get z = freshLine (resetBlocks s) z := by
  have hlines : (resetBlocks s).zoneLines = (resetCalls (resetBase s)).zoneLines := resetRamps_zoneLines _
  rw [hlines, resetCalls_zoneLines resetBase_config]
  refine (freshLine_congr ?_ ?_ z).symm
  · rw [sends_resetBlocks.frame]
  · rw [sends_resetBlocks.frame]

theorem resetBase_rampDyn : (resetBase s).rampDyn = s.rampDyn := by
  obtain ⟨m, k, hbase⟩ := resetBase_eq (s := s)
  rw [hbase]

theorem resetBlocks_rampDyn : (resetBlocks s).rampDyn.get r = (s.rampDyn.get r).afterReset := by
  rw [resetBlocks_eq, resetRamps_rampDyn, resetCalls_rampDyn, resetBase_rampDyn]

theorem counter_congr {b : CounterSet} {i : CounterId} (h : t.counters = s.counters) : counter t b i = counter s b i := by
  rw [counter, h, counter]

theorem resetBase_counters : (resetBase s).counters = (flushPorts { s with device := .config }).counters := by
  obtain ⟨m, k, hbase⟩ := resetBase_eq (s := s)
  rw [hbase]

/-- The frames queued are STOP to the amplifiers, then SPEED 0 to the drives. -/
theorem resetBlocks_links :
    SameLinks (speedsOf s (stopsOf s { s with ports := emptied s.ports })) (resetBlocks s) := by
  obtain ⟨m, k, hbase⟩ := resetBase_eq (s := s)
  have hempty : SameLinks { s with ports := emptied s.ports } (resetBase s) :=
    { ports := by rw [hbase], stations := by rw [hbase], quality := by rw [hbase]
      drops := fun p => by
        rw [counter_congr resetBase_counters, flushPorts_counter_of_ne (by decide)]
        exact counter_congr rfl }
  have hstops : SameLinks (stopsOf s { s with ports := emptied s.ports }) (resetCalls (resetBase s)) :=
    stopsOf_sends hempty (by rw [hbase]) (by rw [hbase])
  rw [resetBlocks_eq]
  refine speedsOf_sends hstops ?_ ?_
  · rw [resetCalls_rampDyn, resetBase_rampDyn]
  · rw [(Sends.resetCalls resetBase_config).frame, hbase]

theorem resetBase_port (p : Port) : (resetBase s).port p = (s.port p).emptied := by
  obtain ⟨m, k, hbase⟩ := resetBase_eq (s := s)
  rw [hbase]
  cases p <;> rfl

theorem resetBlocks_flushed (p : Port) :
    counter (resetBlocks s) (portSet p) ctrFlushed =
      counter s (portSet p) ctrFlushed + BitVec.ofNat 32 (waiting s p) := by
  rw [sends_resetBlocks.counter_eq _ _ (by decide), counter_congr resetBase_counters, flushPorts_flushed]
  rfl

theorem resetBlocks_bridge : ((resetBlocks s).port .bridge).tx = [] := by
  rw [sends_resetBlocks.bridge, resetBase_port]
  rfl

theorem resetBlocks_sending {p : Port} {f : TxFrame} (h : (s.port p).sending = some f) :
    ((resetBlocks s).port p).sending = some f := by
  refine sends_resetBlocks.sending p f ?_
  rw [resetBase_port]
  exact h

theorem resetBlocks_kept :
    (resetBlocks s).kept = { s.kept with
      device := .config, stationDyn := (resetBlocks s).stationDyn, mapCounts := (resetBlocks s).mapCounts
      mirror := (resetBlocks s).mirror, timerDyn := (resetBlocks s).timerDyn, rx := ⟨[], [], []⟩ } := by
  have hframe := sends_resetBlocks.frame (s := resetBase s)
  have hstations : (resetBlocks s).stationDyn = (resetBase s).stationDyn := by rw [hframe]
  have hcounts : (resetBlocks s).mapCounts = (resetBase s).mapCounts := by rw [hframe]
  have hmirror : (resetBlocks s).mirror = (resetBase s).mirror := by rw [hframe]
  have htimers : (resetBlocks s).timerDyn = (resetBase s).timerDyn := by rw [hframe]
  obtain ⟨m, k, hbase⟩ := resetBase_eq (s := s)
  rw [sends_resetBlocks.kept, hstations, hcounts, hmirror, htimers, hbase]
  rfl

/-- The check reads the tables alone (R179). -/
theorem checkTables_congr (messages : t.messages = s.messages) (doors : t.doors = s.doors)
    (stations : t.stations = s.stations) (zones : t.zones = s.zones) (lines : t.lines = s.lines)
    (ramps : t.ramps = s.ramps) (vectors : t.vectors = s.vectors) : checkTables t = checkTables s := by
  unfold checkTables messageTests doorTests zoneTests rampTests lineTests vectorTests members linesOf rampUsed messageUsed
  rw [messages, doors, stations, zones, lines, ramps, vectors]

theorem checkTables_resetBlocks : checkTables (resetBlocks s) = checkTables s := by
  obtain ⟨m, k, hframe⟩ := resetBlocks_frame (s := s)
  have h := hframe _ rfl
  exact checkTables_congr (by rw [h]) (by rw [h]) (by rw [h]) (by rw [h]) (by rw [h]) (by rw [h]) (by rw [h])

end Reset

end Sys2Proof.Machine
end

section

set_option Elab.async false

namespace Sys2Proof.Machine

/-! # The entry to RUN (R121, R178, R181) -/

section Raises

variable {s t u : State} {y z : ZoneId} {c : Code} {a : Attributes}

/-! ## The raise of a fire code (R73, R105) -/

theorem raiseCode_get_of_ne {x : Activation} (hcode : x.code ≠ c) (hc : 3 ≤ c.val) :
    (raiseCode x s).codes.get c = s.codes.get c := by
  have hone : c ≠ 1 := ne_one_of_three_le hc
  unfold raiseCode vectorFault
  dsimp only
  split_ifs
  · rfl
  · exact setLatch_get_of_ne hone
  · exact setLatch_get_of_ne hone
  · rfl
  · exact setLatch_get_of_ne hcode.symm
  · simp [hcode]

/-- The fire code of a zone is raised with its attributes (R105). -/
def raiseFire (z : ZoneId) (a : Attributes) (s : State) : State :=
  match (s.zones.get z).fireCode with
  | none => s
  | some c => raiseCode ⟨c, a, false⟩ s

theorem raiseFire_frame : raiseFire z a s = { s with codes := (raiseFire z a s).codes } := by
  unfold raiseFire
  split
  · rfl
  · exact raiseCode_frame ..

theorem raiseFire_latches : KeepsLatches s (raiseFire z a s) := by
  unfold raiseFire
  split
  · exact .refl
  · exact KeepsLatches.refl.raiseCode

/-- A code that is raised: in service, of number 3 to 63, with a present entry of level above 0. -/
structure Raisable (s : State) (c : Code) : Prop where
  service : s.device ≠ .config
  code : 3 ≤ c.val
  present : (s.vectors.get c).present = true
  level : (s.vectors.get c).level ≠ 0

theorem raiseFire_get_of_ne (hc : 3 ≤ c.val) (h : (s.zones.get z).fireCode ≠ some c) :
    (raiseFire z a s).codes.get c = s.codes.get c := by
  unfold raiseFire
  split
  · rfl
  · next d hd => exact raiseCode_get_of_ne (fun heq => h (hd.trans (congrArg some heq))) hc

theorem raiseFire_get (hc : Raisable s c) (h : (s.zones.get z).fireCode = some c) :
    ((raiseFire z a s).codes.get c).latch = true ∧ ((raiseFire z a s).codes.get c).attrs = a := by
  unfold raiseFire
  rw [h]
  dsimp only
  rw [raiseCode_latches hc.service hc.code hc.present hc.level (.inr rfl), setLatch_get_self]
  exact ⟨rfl, rfl⟩

theorem raiseZone_fire :
    raiseZone z (s.zones.get z).fireCode none 1 s = raiseFire z ⟨.internal, none, some z, 1⟩ s := by
  unfold raiseZone raiseInternal raiseFire
  cases (s.zones.get z).fireCode <;> rfl

end Raises

section Kindling

variable {s t u : State} {y z : ZoneId} {c : Code}

/-! ## What the walks over the zones on fire keep -/

/-- No ramp is in motion and no zone in a procedure. -/
structure AtRest (s : State) : Prop where
  ramps : ∀ r : RampId, (s.rampDyn.get r).state.isActive = false
  zones : ∀ z : ZoneId, (s.zoneDyn.get z).state.isRest = true

/-- Between `s` and `t` fire flags were set, outputs de-energised and codes raised. -/
structure Kindles (s t : State) : Prop where
  frame : t = { s with zoneDyn := t.zoneDyn, outputs := t.outputs, codes := t.codes }
  state : ∀ z : ZoneId, (t.zoneDyn.get z).state = (s.zoneDyn.get z).state
  override : ∀ z : ZoneId, (t.zoneDyn.get z).override = (s.zoneDyn.get z).override
  outputs : ∀ n : LineId, t.outputs.get n = true → s.outputs.get n = true
  latches : KeepsLatches s t

namespace Kindles

protected theorem refl : Kindles s s := ⟨rfl, fun _ => rfl, fun _ => rfl, fun _ => id, .refl⟩

protected theorem trans (h : Kindles s t) (k : Kindles t u) : Kindles s u where
  frame := by rw [k.frame, h.frame]
  state z := (k.state z).trans (h.state z)
  override z := (k.override z).trans (h.override z)
  outputs n hn := h.outputs n (k.outputs n hn)
  latches := h.latches.trans k.latches

theorem rampDyn (h : Kindles s t) : t.rampDyn = s.rampDyn := by rw [h.frame]
theorem zones (h : Kindles s t) : t.zones = s.zones := by rw [h.frame]
theorem vectors (h : Kindles s t) : t.vectors = s.vectors := by rw [h.frame]
theorem device (h : Kindles s t) : t.device = s.device := by rw [h.frame]
theorem doorDyn (h : Kindles s t) : t.doorDyn = s.doorDyn := by rw [h.frame]
theorem doors (h : Kindles s t) : t.doors = s.doors := by rw [h.frame]

theorem burningDetector (h : Kindles s t) (z : ZoneId) : burningDetector t z = burningDetector s z := by
  rw [h.frame]
  rfl

theorem atRest (h : Kindles s t) (hrest : AtRest s) : AtRest t :=
  ⟨fun r => by rw [h.rampDyn, hrest.ramps r], fun z => by rw [h.state z, hrest.zones z]⟩

theorem raisable (h : Kindles s t) (hc : Raisable s c) : Raisable t c :=
  ⟨by rw [h.device]; exact hc.service, hc.code, by rw [h.vectors]; exact hc.present,
    by rw [h.vectors]; exact hc.level⟩

/-- A walk from rest. -/
protected theorem foldl {f : State → ZoneId → State} (hrest : AtRest s) (hf : ∀ t, AtRest t → ∀ z, Kindles t (f t z))
    (l : List ZoneId) : Kindles s (l.foldl f s) := by
  induction l generalizing s with
  | nil => exact .refl
  | cons z l ih =>
    have hstep := hf s hrest z
    exact hstep.trans (ih (hstep.atRest hrest))

theorem raiseFire {a : Attributes} : Kindles s (raiseFire z a s) := by
  have hframe := raiseFire_frame (s := s) (z := z) (a := a)
  refine ⟨?_, fun y => ?_, fun y => ?_, fun n => ?_, raiseFire_latches⟩
  all_goals rw [hframe]
  exact id

/-- A door hold is ordered de-energised. -/
theorem orderOff : Kindles s (orderDoorHold z false s) := by
  unfold orderDoorHold
  split
  · exact .refl
  · next m _ =>
    unfold orderOutput
    split
    · exact .refl
    · refine ⟨rfl, fun _ => rfl, fun _ => rfl, fun n hn => ?_, KeepsLatches.refl.then_eq rfl⟩
      by_cases hmn : m = n
      · subst hmn
        simp at hn
      · simpa [hmn] using hn

theorem setFlag : Kindles s (s.modZone z fun d => { d with fire := true }) := by
  refine ⟨rfl, fun y => ?_, fun y => ?_, fun _ => id, KeepsLatches.refl.then_eq rfl⟩
  all_goals
    by_cases hy : z = y
    · subst hy
      simp
    · simp [hy]

end Kindles

theorem fireChanged_still (h : AtRest s) : fireChanged z s = s := by
  unfold fireChanged
  generalize List.finRange 4 = l
  induction l with
  | nil => rfl
  | cons r l ih =>
    rw [List.foldl_cons, holdRamp_still (by simp [h.ramps r]), ite_self, ih]

theorem abandonOpening_rest (h : AtRest s) : abandonOpening z s = s := by
  refine if_neg fun hopening => ?_
  have hrest := h.zones z
  rw [hopening] at hrest
  cases hrest

/-- A fire flag that is set, with the part at rest (R106). -/
def ignite (z : ZoneId) (a : Attributes) (s : State) : State :=
  raiseFire z a (orderDoorHold z false (s.modZone z fun d => { d with fire := true }))

theorem kindles_flagged : Kindles s (orderDoorHold z false (s.modZone z fun d => { d with fire := true })) :=
  Kindles.setFlag.trans Kindles.orderOff

theorem kindles_ignite {a : Attributes} : Kindles s (ignite z a s) := kindles_flagged.trans Kindles.raiseFire

theorem setFire_rest {a : Attributes} (h : AtRest s) :
    setFire z a s = if (s.zoneDyn.get z).fire = true then s else ignite z a s := by
  have hflagged := (kindles_flagged (s := s) (z := z)).atRest h
  unfold setFire
  dsimp only
  rw [fireChanged_still hflagged]
  split
  · rfl
  · refine (abandonOpening_rest ?_).trans rfl
    exact (Kindles.raiseFire (a := a)).atRest hflagged

theorem ignite_zoneDyn {a : Attributes} :
    (ignite z a s).zoneDyn = Tab.upd s.zoneDyn z fun d => { d with fire := true } := by
  unfold ignite
  rw [raiseFire_frame]
  simp

theorem ignite_codes {a : Attributes} (hc : 3 ≤ c.val) (h : (s.zones.get z).fireCode ≠ some c) :
    (ignite z a s).codes.get c = s.codes.get c := by
  refine (raiseFire_get_of_ne hc ?_).trans (by simp)
  simpa using h

theorem ignite_raises {a : Attributes} (hc : Raisable s c) (h : (s.zones.get z).fireCode = some c) :
    ((ignite z a s).codes.get c).latch = true ∧ ((ignite z a s).codes.get c).attrs = a :=
  raiseFire_get (kindles_flagged.raisable hc) (by simpa using h)

/-! ## The zones found on fire at the entry (R121) -/

/-- The attributes of the fire code of a zone found on fire: FRAME and the detector of lowest address. -/
def foundAttrs (s : State) (z : ZoneId) : Attributes := ⟨.frame, burningDetector s z, some z, 0⟩

/-- A zone that is found on fire and was not set before. -/
def Found (s : State) (z : ZoneId) : Prop := (burningDetector s z).isSome = true ∧ ¬(s.zoneDyn.get z).fire = true

/-- The step of the walk that sets the zones found on fire. -/
def igniteFound (s : State) (z : ZoneId) : State :=
  match burningDetector s z with
  | some a => setFire z ⟨.frame, some a, some z, 0⟩ s
  | none => s

theorem igniteFound_found (hrest : AtRest s) (h : Found s z) : igniteFound s z = ignite z (foundAttrs s z) s := by
  obtain ⟨a, ha⟩ := Option.isSome_iff_exists.1 h.1
  unfold igniteFound foundAttrs
  rw [ha]
  exact (setFire_rest hrest).trans (if_neg h.2)

theorem igniteFound_not (hrest : AtRest s) (h : ¬Found s z) : igniteFound s z = s := by
  unfold igniteFound
  split
  · next a ha =>
    have hset : (s.zoneDyn.get z).fire = true := by
      by_contra hfire
      exact h ⟨by rw [ha]; rfl, hfire⟩
    exact (setFire_rest hrest).trans (if_pos hset)
  · rfl

theorem kindles_igniteFound (hrest : AtRest s) : Kindles s (igniteFound s z) := by
  by_cases h : Found s z
  · rw [igniteFound_found hrest h]
    exact kindles_ignite
  · rw [igniteFound_not hrest h]
    exact .refl

theorem igniteFound_fire_self (hrest : AtRest s) :
    ((igniteFound s z).zoneDyn.get z).fire = ((s.zoneDyn.get z).fire || (burningDetector s z).isSome) := by
  by_cases h : Found s z
  · rw [igniteFound_found hrest h, ignite_zoneDyn, Tab.get_upd_self, h.1, Bool.or_true]
  · rw [igniteFound_not hrest h]
    cases hfire : (s.zoneDyn.get z).fire with
    | true => rfl
    | false =>
      cases hburning : (burningDetector s z).isSome with
      | false => rfl
      | true => exact absurd ⟨hburning, by simp [hfire]⟩ h

theorem igniteFound_get_of_ne (hrest : AtRest s) (h : y ≠ z) :
    (igniteFound s y).zoneDyn.get z = s.zoneDyn.get z := by
  by_cases hfound : Found s y
  · rw [igniteFound_found hrest hfound, ignite_zoneDyn, Tab.get_upd_of_ne _ h]
  · rw [igniteFound_not hrest hfound]

/-- The walk over all zones. -/
def igniteAll (s : State) : State := (List.finRange 8).foldl igniteFound s

theorem kindles_igniteAll (hrest : AtRest s) : Kindles s (igniteAll s) :=
  Kindles.foldl hrest (fun _ ht _ => kindles_igniteFound ht) _

theorem igniteAll_fire (hrest : AtRest s) (z : ZoneId) :
    ((igniteAll s).zoneDyn.get z).fire = ((s.zoneDyn.get z).fire || (burningDetector s z).isSome) := by
  obtain ⟨-, -, hin⟩ := foldl_view (f := igniteFound) (view := fun t => t.zoneDyn.get z) (I := Kindles s)
    (l := List.finRange 8) (fun t ht y _ => ht.trans (kindles_igniteFound (ht.atRest hrest))) .refl
  obtain ⟨v, hv, hview, hlast⟩ := hin z (List.mem_finRange z) (List.nodup_finRange 8)
    fun t ht y _ hy => igniteFound_get_of_ne (ht.atRest hrest) hy
  have hfire : ((igniteAll s).zoneDyn.get z).fire = ((igniteFound v z).zoneDyn.get z).fire :=
    congrArg ZoneDyn.fire hlast
  rw [hfire, igniteFound_fire_self (hv.atRest hrest), hv.burningDetector]
  exact congrArg (fun d : ZoneDyn => d.fire || (burningDetector s z).isSome) hview

/-- A walk reaches a property at one of its elements and keeps it. -/
theorem foldl_reaches {α σ : Type} {f : σ → α → σ} {I P : σ → Prop} {l : List α} {i : α} {s : σ} (hi : i ∈ l)
    (hs : I s) (hI : ∀ t, I t → ∀ j, j ≠ i → I (f t j)) (hreach : ∀ t, I t → P (f t i))
    (hkeep : ∀ t j, P t → P (f t j)) : P (l.foldl f s) := by
  have hkept (l : List α) : ∀ t, P t → P (l.foldl f t) := by
    induction l with
    | nil => exact fun _ => id
    | cons j l ih => exact fun t ht => ih _ (hkeep t j ht)
  induction l generalizing s with
  | nil => cases hi
  | cons j l ih =>
    by_cases hj : j = i
    · subst hj
      exact hkept l _ (hreach s hs)
    · exact ih ((List.mem_cons.1 hi).resolve_left (Ne.symm hj)) (hI s hs j hj)

/-- The fire code of a zone found on fire is latched. -/
theorem igniteAll_latch (hrest : AtRest s) (hc : Raisable s c) (hfound : Found s z)
    (hcode : (s.zones.get z).fireCode = some c) : ((igniteAll s).codes.get c).latch = true := by
  have hreach := foldl_reaches (f := igniteFound) (I := fun t => Kindles s t ∧ t.zoneDyn.get z = s.zoneDyn.get z)
    (P := fun t => Kindles s t ∧ (t.codes.get c).latch = true) (List.mem_finRange z) ⟨.refl, rfl⟩
    (fun t ⟨ht, hrow⟩ y hy => ⟨ht.trans (kindles_igniteFound (ht.atRest hrest)),
      (igniteFound_get_of_ne (ht.atRest hrest) hy).trans hrow⟩)
    (fun t ⟨ht, hrow⟩ => by
      have hfound' : Found t z := by
        rw [Found, ht.burningDetector, hrow]
        exact hfound
      refine ⟨ht.trans (kindles_igniteFound (ht.atRest hrest)), ?_⟩
      rw [igniteFound_found (ht.atRest hrest) hfound']
      exact (ignite_raises (ht.raisable hc) (by rw [ht.zones]; exact hcode)).1)
    (fun t y ⟨ht, hlatch⟩ => ⟨ht.trans (kindles_igniteFound (ht.atRest hrest)),
      (kindles_igniteFound (ht.atRest hrest)).latches.latch c hlatch⟩)
  exact hreach.2

/-- Where no other zone on fire names the code, it holds the attributes of its zone. -/
theorem igniteAll_attrs (hrest : AtRest s) (hc : Raisable s c) (hfound : Found s z)
    (hcode : (s.zones.get z).fireCode = some c)
    (halone : ∀ y : ZoneId, y ≠ z → (burningDetector s y).isSome = true → (s.zones.get y).fireCode ≠ some c) :
    ((igniteAll s).codes.get c).attrs = foundAttrs s z := by
  obtain ⟨-, -, hin⟩ := foldl_view (f := igniteFound) (view := fun t => (t.zoneDyn.get z, t.codes.get c))
    (I := Kindles s) (l := List.finRange 8) (fun t ht y _ => ht.trans (kindles_igniteFound (ht.atRest hrest))) .refl
  obtain ⟨v, hv, hview, hlast⟩ := hin z (List.mem_finRange z) (List.nodup_finRange 8) fun t ht y _ hy => by
    refine Prod.ext (igniteFound_get_of_ne (ht.atRest hrest) hy) ?_
    by_cases hfoundy : Found t y
    · have hother := halone y hy (by rw [← ht.burningDetector y]; exact hfoundy.1)
      rw [igniteFound_found (ht.atRest hrest) hfoundy]
      exact ignite_codes hc.code (by rw [ht.zones]; exact hother)
    · rw [igniteFound_not (ht.atRest hrest) hfoundy]
  obtain ⟨hrow, -⟩ := Prod.mk.inj hview
  obtain ⟨-, hlast⟩ := Prod.mk.inj hlast
  have hfoundv : Found v z := by
    rw [Found, hv.burningDetector, hrow]
    exact hfound
  have hcodes : (igniteAll s).codes.get c = (igniteFound v z).codes.get c := hlast
  rw [hcodes, igniteFound_found (hv.atRest hrest) hfoundv,
    (ignite_raises (hv.raisable hc) (by rw [hv.zones]; exact hcode)).2, foundAttrs, hv.burningDetector, foundAttrs]

end Kindling

end Sys2Proof.Machine
end

section

set_option Elab.async false

namespace Sys2Proof.Machine

/-! # The entry to RUN: doors, zones and door holds (R104, R110, R121, R181) -/

section Entry

variable {s t u : State} {y z : ZoneId} {c : Code} {n : LineId}

/-! ## The zones that were on fire before (R121) -/

/-- The walk that raises the fire codes of zones set before. -/
def raiseSet (l : List ZoneId) (s : State) : State :=
  l.foldl (fun s z => raiseZone z (s.zones.get z).fireCode none 1 (fireChanged z s)) s

/-- The attributes of the fire code of a zone set before. -/
def setAttrs (z : ZoneId) : Attributes := ⟨.internal, none, some z, 1⟩

theorem raiseSet_step (hrest : AtRest s) :
    raiseZone z (s.zones.get z).fireCode none 1 (fireChanged z s) = raiseFire z (setAttrs z) s := by
  rw [fireChanged_still hrest, raiseZone_fire, setAttrs]

theorem raiseSet_eq (hrest : AtRest s) (l : List ZoneId) :
    raiseSet l s = l.foldl (fun s z => raiseFire z (setAttrs z) s) s := by
  unfold raiseSet
  induction l generalizing s with
  | nil => rw [List.foldl_nil, List.foldl_nil]
  | cons z l ih =>
    rw [List.foldl_cons, List.foldl_cons, raiseSet_step hrest, ih (Kindles.raiseFire.atRest hrest)]

theorem kindles_raiseSet (hrest : AtRest s) (l : List ZoneId) : Kindles s (raiseSet l s) := by
  rw [raiseSet_eq hrest]
  exact Kindles.foldl hrest (fun _ _ _ => Kindles.raiseFire) l

theorem raiseSet_zoneDyn (hrest : AtRest s) (l : List ZoneId) : (raiseSet l s).zoneDyn = s.zoneDyn := by
  rw [raiseSet_eq hrest]
  exact foldl_keeps (view := State.zoneDyn) (fun s z => by rw [raiseFire_frame]) l s

theorem raiseSet_latch {l : List ZoneId} (hrest : AtRest s) (hc : Raisable s c) (hz : z ∈ l)
    (hcode : (s.zones.get z).fireCode = some c) : ((raiseSet l s).codes.get c).latch = true := by
  rw [raiseSet_eq hrest]
  exact foldl_reaches (I := Kindles s) (P := fun t => (t.codes.get c).latch = true) hz .refl
    (fun t ht _ _ => ht.trans Kindles.raiseFire)
    (fun t ht => (raiseFire_get (ht.raisable hc) (by rw [ht.zones]; exact hcode)).1)
    fun t _ hlatch => raiseFire_latches.latch c hlatch

theorem raiseSet_attrs {l : List ZoneId} (hrest : AtRest s) (hc : Raisable s c) (hz : z ∈ l) (hnodup : l.Nodup)
    (hcode : (s.zones.get z).fireCode = some c)
    (halone : ∀ y ∈ l, y ≠ z → (s.zones.get y).fireCode ≠ some c) :
    ((raiseSet l s).codes.get c).attrs = setAttrs z := by
  rw [raiseSet_eq hrest]
  obtain ⟨-, -, hin⟩ := foldl_view (f := fun s z => raiseFire z (setAttrs z) s) (view := fun t => t.codes.get c)
    (I := Kindles s) (l := l) (fun t ht y _ => ht.trans Kindles.raiseFire) .refl
  obtain ⟨v, hv, -, hlast⟩ := hin z hz hnodup fun t ht y hy hne =>
    raiseFire_get_of_ne hc.code (by rw [ht.zones]; exact halone y hy hne)
  rw [hlast]
  exact (raiseFire_get (hv.raisable hc) (by rw [hv.zones]; exact hcode)).2

theorem raiseSet_get_of_ne {l : List ZoneId} (hrest : AtRest s) (hc : 3 ≤ c.val)
    (halone : ∀ y ∈ l, (s.zones.get y).fireCode ≠ some c) : (raiseSet l s).codes.get c = s.codes.get c := by
  rw [raiseSet_eq hrest]
  induction l generalizing s with
  | nil => rfl
  | cons y l ih =>
    obtain ⟨hy, hl⟩ := List.forall_mem_cons.1 halone
    have hstep : Kindles s (raiseFire y (setAttrs y) s) := Kindles.raiseFire
    rw [List.foldl_cons, ih (hstep.atRest hrest) fun x hx => by rw [hstep.zones]; exact hl x hx]
    exact raiseFire_get_of_ne hc hy

/-! ## Doors and rest states (R100, R104) -/

/-- A door in use with no command in force takes its derived state. -/
def deriveDoor (s : State) (d : DoorId) : State :=
  if (doorStation s d).isSome ∧ (s.doorDyn.get d).command = .none then
    let st := derivedOf s d
    s.modDoor d fun x => { x with state := st, held := false }
  else s

def deriveDoors (s : State) : State := (List.finRange 24).foldl deriveDoor s

/-- Only the doors differ. -/
def DoorsOnly (s t : State) : Prop := t = { s with doorDyn := t.doorDyn }

theorem DoorsOnly.trans (h : DoorsOnly s t) (k : DoorsOnly t u) : DoorsOnly s u := by
  unfold DoorsOnly at *
  rw [k, h]

theorem deriveDoor_doorsOnly (s : State) (d : DoorId) : DoorsOnly s (deriveDoor s d) := by
  unfold deriveDoor
  split <;> rfl

theorem deriveDoor_of_ne {d e : DoorId} (h : e ≠ d) : (deriveDoor s e).doorDyn.get d = s.doorDyn.get d := by
  unfold deriveDoor
  split
  · simp [h]
  · rfl

theorem deriveDoor_self {d : DoorId} {a : Addr} (hstation : (s.doors.get d).station = some a)
    (hcommand : (s.doorDyn.get d).command = .none) :
    ((deriveDoor s d).doorDyn.get d).state = derivedDoor s a := by
  have hderived : derivedOf s d = derivedDoor s a := by
    unfold derivedOf doorStation
    rw [hstation]
  unfold deriveDoor
  rw [if_pos ⟨by rw [doorStation, hstation]; rfl, hcommand⟩, hderived]
  simp

theorem derivedDoor_congr (h : t.stationDyn = s.stationDyn) (a : Addr) : derivedDoor t a = derivedDoor s a := by
  unfold derivedDoor isHeard pointOn
  rw [h]

theorem deriveDoors_doorsOnly : DoorsOnly s (deriveDoors s) := by
  unfold deriveDoors
  generalize List.finRange 24 = l
  induction l generalizing s with
  | nil => rfl
  | cons d l ih => exact (deriveDoor_doorsOnly s d).trans ih

theorem deriveDoors_state {d : DoorId} {a : Addr} (hstation : (s.doors.get d).station = some a)
    (hcommand : (s.doorDyn.get d).command = .none) :
    ((deriveDoors s).doorDyn.get d).state = derivedDoor s a := by
  obtain ⟨-, -, hin⟩ := foldl_view (f := deriveDoor) (view := fun t => t.doorDyn.get d) (I := DoorsOnly s)
    (l := List.finRange 24) (s := s) (fun t ht e _ => ht.trans (deriveDoor_doorsOnly t e)) rfl
  obtain ⟨v, hv, hview, hlast⟩ := hin d (List.mem_finRange d) (List.nodup_finRange 24)
    fun t _ e _ he => deriveDoor_of_ne he
  have hdoors : v.doors = s.doors := by rw [hv]
  have hstations : v.stationDyn = s.stationDyn := by rw [hv]
  have hstate : ((deriveDoors s).doorDyn.get d).state = ((deriveDoor v d).doorDyn.get d).state :=
    congrArg DoorDyn.state hlast
  rw [hstate, deriveDoor_self (by rw [hdoors]; exact hstation) ((congrArg DoorDyn.command hview).trans hcommand),
    derivedDoor_congr hstations]

/-- Only the zones' items differ. -/
def ZonesOnly (s t : State) : Prop := t = { s with zoneDyn := t.zoneDyn }

theorem ZonesOnly.trans (h : ZonesOnly s t) (k : ZonesOnly t u) : ZonesOnly s u := by
  unfold ZonesOnly at *
  rw [k, h]

/-- The walk in which every zone takes its rest state. -/
def refreshAll (s : State) : State := (List.finRange 8).foldl (fun s z => refreshRest z s) s

theorem refreshRest_zonesOnly (s : State) (z : ZoneId) : ZonesOnly s (refreshRest z s) := by
  unfold refreshRest
  split <;> rfl

theorem refreshRest_of_ne (h : y ≠ z) : (refreshRest y s).zoneDyn.get z = s.zoneDyn.get z := by
  unfold refreshRest
  split
  · simp [h]
  · rfl

theorem refreshRest_self (h : (s.zoneDyn.get z).state.isRest = true) :
    (refreshRest z s).zoneDyn.get z = { s.zoneDyn.get z with state := restState s z } := by
  rw [refreshRest, if_pos h]
  simp

theorem refreshAll_zonesOnly : ZonesOnly s (refreshAll s) := by
  unfold refreshAll
  generalize List.finRange 8 = l
  induction l generalizing s with
  | nil => rfl
  | cons z l ih => exact (refreshRest_zonesOnly s z).trans ih

theorem refreshAll_get (hrest : ∀ z : ZoneId, (s.zoneDyn.get z).state.isRest = true) (z : ZoneId) :
    (refreshAll s).zoneDyn.get z = { s.zoneDyn.get z with state := restState s z } := by
  obtain ⟨-, -, hin⟩ := foldl_view (f := fun s z => refreshRest z s) (view := fun t => t.zoneDyn.get z)
    (I := ZonesOnly s) (l := List.finRange 8) (s := s) (fun t ht y _ => ht.trans (refreshRest_zonesOnly t y)) rfl
  obtain ⟨v, hv, hview, hlast⟩ := hin z (List.mem_finRange z) (List.nodup_finRange 8)
    fun t _ y _ hy => refreshRest_of_ne hy
  have hrow : v.zoneDyn.get z = s.zoneDyn.get z := hview
  have hstate : restState v z = restState s z := restState_congr (by rw [hv]) (by rw [hv]) z
  refine hlast.trans ?_
  rw [refreshRest_self (by rw [hrow]; exact hrest z), hrow, hstate]

theorem restState_isRest (s : State) (z : ZoneId) : (restState s z).isRest = true := by
  unfold restState
  dsimp only
  split_ifs <;> rfl

/-! ## The door holds energised at a RESTART (R110, R181) -/

/-- The zone's door hold is energised: no fire, and a door may be open. -/
def Holds (s : State) (z : ZoneId) : Prop :=
  (s.zoneDyn.get z).fire = false ∧ ((s.zoneDyn.get z).state = .opened ∨ (s.zoneDyn.get z).state = .partly)

/-- The step of the walk that energises the door holds. -/
def energiseHold (s : State) (z : ZoneId) : State :=
  let d := s.zoneDyn.get z
  if d.fire = false ∧ (d.state = .opened ∨ d.state = .partly) then orderDoorHold z true s else s

def energiseHolds (s : State) : State := (List.finRange 8).foldl energiseHold s

/-- Only the outputs differ. -/
def OutputsOnly (s t : State) : Prop := t = { s with outputs := t.outputs }

theorem OutputsOnly.trans (h : OutputsOnly s t) (k : OutputsOnly t u) : OutputsOnly s u := by
  unfold OutputsOnly at *
  rw [k, h]

theorem energiseHold_outputsOnly (s : State) (z : ZoneId) : OutputsOnly s (energiseHold s z) := by
  unfold energiseHold
  dsimp only
  split
  · exact orderDoorHold_frame ..
  · rfl

theorem energiseHolds_outputsOnly : OutputsOnly s (energiseHolds s) := by
  unfold energiseHolds
  generalize List.finRange 8 = l
  induction l generalizing s with
  | nil => rfl
  | cons z l ih => exact (energiseHold_outputsOnly s z).trans ih

/-- An order for the hold of another zone does not reach the line. -/
theorem orderDoorHold_of_ne {on : Bool} (hfn : (s.lines.get n).fn = .doorHold z) (h : y ≠ z) :
    (orderDoorHold y on s).outputs.get n = s.outputs.get n := by
  unfold orderDoorHold
  split
  · rfl
  · next m _ =>
    by_cases hmn : m = n
    · subst hmn
      have hother : (s.lines.get m).fn ≠ .doorHold y := by
        rw [hfn]
        exact fun heq => h (LineFn.doorHold.inj heq).symm
      rw [orderOutput, if_pos hother]
    · unfold orderOutput
      split_ifs <;> simp [hmn]

theorem orderDoorHold_on (hservice : s.device ≠ .config) (hline : (s.zones.get z).doorHold = some n)
    (hfn : (s.lines.get n).fn = .doorHold z) : (orderDoorHold z true s).outputs.get n = true := by
  unfold orderDoorHold
  rw [hline]
  simp [orderOutput, hfn, inService, hservice, LineFn.isRampEnable]

theorem energiseHold_of_ne (hfn : (s.lines.get n).fn = .doorHold z) (h : y ≠ z) :
    (energiseHold s y).outputs.get n = s.outputs.get n := by
  unfold energiseHold
  dsimp only
  split
  · exact orderDoorHold_of_ne hfn h
  · rfl

/-- From outputs that are off, the line of a zone's door hold is energised just when the zone is one that holds. -/
theorem energiseHolds_iff (hservice : s.device ≠ .config) (hline : (s.zones.get z).doorHold = some n)
    (hfn : (s.lines.get n).fn = .doorHold z) (hoff : s.outputs.get n = false) :
    (energiseHolds s).outputs.get n = true ↔ Holds s z := by
  obtain ⟨-, -, hin⟩ := foldl_view (f := energiseHold) (view := fun t => t.outputs.get n) (I := OutputsOnly s)
    (l := List.finRange 8) (s := s) (fun t ht y _ => ht.trans (energiseHold_outputsOnly t y)) rfl
  obtain ⟨v, hv, hview, hlast⟩ := hin z (List.mem_finRange z) (List.nodup_finRange 8) fun t ht y _ hy =>
    energiseHold_of_ne (by rw [ht]; exact hfn) hy
  have hlines : (v.lines.get n).fn = .doorHold z := by rw [hv]; exact hfn
  have hzones : (v.zones.get z).doorHold = some n := by rw [hv]; exact hline
  have hdevice : v.device ≠ .config := by rw [hv]; exact hservice
  have hrow : v.zoneDyn = s.zoneDyn := by rw [hv]
  have hend : (energiseHolds s).outputs.get n = (energiseHold v z).outputs.get n := hlast
  rw [hend]
  unfold energiseHold Holds
  dsimp only
  rw [hrow]
  split
  · next hholds => simp [orderDoorHold_on hdevice hzones hlines, hholds]
  · next hnot =>
    have hviewn : v.outputs.get n = false := hview.trans hoff
    simp [hviewn, hnot]

/-! ## The entry as a whole -/

/-- The state in which the doors and zones have taken their states. -/
def derived (s : State) : State := refreshAll (deriveDoors s)

/-- The zones whose fire flag was set before the entry. -/
def wasSet (s : State) : List ZoneId := (List.finRange 8).filter fun z => (s.zoneDyn.get z).fire

theorem zonesEnterRun_false (s : State) : zonesEnterRun false s = raiseSet (wasSet (derived s)) (igniteAll (derived s)) :=
  rfl

theorem zonesEnterRun_true (s : State) :
    zonesEnterRun true s = energiseHolds (raiseSet (wasSet (derived s)) (igniteAll (derived s))) := rfl

end Entry

end Sys2Proof.Machine
end

section

set_option Elab.async false

namespace Sys2Proof.Machine

/-! # The device states (R93, R178, R180, R181) -/

section Entered

variable {s t u : State} {z : ZoneId} {c : Code}

/-! ## The doors and zones at the entry -/

theorem derived_frame : derived s = { s with doorDyn := (derived s).doorDyn, zoneDyn := (derived s).zoneDyn } := by
  have hdoors : deriveDoors s = { s with doorDyn := (deriveDoors s).doorDyn } := deriveDoors_doorsOnly
  have hzones : derived s = { deriveDoors s with zoneDyn := (derived s).zoneDyn } := refreshAll_zonesOnly
  rw [hzones, hdoors]

theorem derived_doorDyn : (derived s).doorDyn = (deriveDoors s).doorDyn := by
  have hzones : derived s = { deriveDoors s with zoneDyn := (derived s).zoneDyn } := refreshAll_zonesOnly
  rw [hzones]

theorem derived_get (hrest : AtRest s) (z : ZoneId) :
    (derived s).zoneDyn.get z = { s.zoneDyn.get z with state := restState (derived s) z } := by
  have hdoors : deriveDoors s = { s with doorDyn := (deriveDoors s).doorDyn } := deriveDoors_doorsOnly
  have hrows : (deriveDoors s).zoneDyn = s.zoneDyn := by rw [hdoors]
  have hrecords : (derived s).doors = (deriveDoors s).doors := by rw [derived_frame, hdoors]
  have hstate : restState (derived s) z = restState (deriveDoors s) z := restState_congr hrecords derived_doorDyn z
  have hget := refreshAll_get (s := deriveDoors s) (fun y => by rw [hrows]; exact hrest.zones y) z
  rw [hstate, ← hrows]
  exact hget

theorem derived_state (hrest : AtRest s) (z : ZoneId) :
    ((derived s).zoneDyn.get z).state = restState (derived s) z := by rw [derived_get hrest]

theorem derived_rampDyn : (derived s).rampDyn = s.rampDyn := by rw [derived_frame]

theorem derived_atRest (hrest : AtRest s) : AtRest (derived s) where
  ramps r := by rw [derived_rampDyn, hrest.ramps r]
  zones z := by rw [derived_state hrest, restState_isRest]

/-! ## The state in which the zones on fire are raised -/

/-- The entry but for the door holds that a RESTART energises. -/
def entryRaised (s : State) : State := raiseSet (wasSet (derived s)) (igniteAll (derived s))

theorem kindles_entryRaised (hrest : AtRest s) : Kindles (derived s) (entryRaised s) := by
  have hignited := kindles_igniteAll (derived_atRest hrest)
  exact hignited.trans (kindles_raiseSet (hignited.atRest (derived_atRest hrest)) _)

/-- What is raised after the doors and zones were derived. -/
theorem Kindles.frame_of_derived {d w : State} (h : Kindles d w)
    (hd : d = { s with doorDyn := d.doorDyn, zoneDyn := d.zoneDyn }) :
    w = { s with doorDyn := w.doorDyn, zoneDyn := w.zoneDyn, outputs := w.outputs, codes := w.codes } := by
  rw [h.frame, hd]

theorem entryRaised_frame (hrest : AtRest s) :
    entryRaised s = { s with
      doorDyn := (entryRaised s).doorDyn, zoneDyn := (entryRaised s).zoneDyn
      outputs := (entryRaised s).outputs, codes := (entryRaised s).codes } :=
  (kindles_entryRaised hrest).frame_of_derived derived_frame

theorem entryRaised_door (hrest : AtRest s) {d : DoorId} {a : Addr} (hstation : (s.doors.get d).station = some a)
    (hcommand : (s.doorDyn.get d).command = .none) :
    ((entryRaised s).doorDyn.get d).state = derivedDoor s a := by
  rw [(kindles_entryRaised hrest).doorDyn, derived_doorDyn]
  exact deriveDoors_state hstation hcommand

theorem entryRaised_state (hrest : AtRest s) (z : ZoneId) :
    ((entryRaised s).zoneDyn.get z).state = restState (entryRaised s) z := by
  have hkindles := kindles_entryRaised hrest
  rw [hkindles.state, derived_state hrest, restState_congr hkindles.doors hkindles.doorDyn]

theorem entryRaised_override (hrest : AtRest s) (z : ZoneId) :
    ((entryRaised s).zoneDyn.get z).override = (s.zoneDyn.get z).override := by
  rw [(kindles_entryRaised hrest).override, derived_get hrest]

theorem burningDetector_congr (hstations : t.stations = s.stations) (hdyn : t.stationDyn = s.stationDyn) (z : ZoneId) :
    burningDetector t z = burningDetector s z := by
  unfold burningDetector pointOn
  rw [hstations, hdyn]

theorem derived_burning (z : ZoneId) : burningDetector (derived s) z = burningDetector s z :=
  burningDetector_congr (by rw [derived_frame]) (by rw [derived_frame]) z

theorem derived_fire (hrest : AtRest s) (z : ZoneId) : ((derived s).zoneDyn.get z).fire = (s.zoneDyn.get z).fire := by
  rw [derived_get hrest]

theorem entryRaised_fire (hrest : AtRest s) (z : ZoneId) :
    ((entryRaised s).zoneDyn.get z).fire = ((s.zoneDyn.get z).fire || (burningDetector s z).isSome) := by
  have hignited := (kindles_igniteAll (derived_atRest hrest)).atRest (derived_atRest hrest)
  rw [entryRaised, raiseSet_zoneDyn hignited, igniteAll_fire (derived_atRest hrest), derived_fire hrest, derived_burning]

theorem mem_wasSet (hrest : AtRest s) : z ∈ wasSet (derived s) ↔ (s.zoneDyn.get z).fire = true := by
  simp [wasSet, derived_fire hrest]

/-- The fire code of a zone on fire is latched; where no other zone on fire names it, with its zone's attributes. -/
theorem entryRaised_code (hrest : AtRest s) (hc : Raisable s c)
    (hfire : ((entryRaised s).zoneDyn.get z).fire = true) (hcode : (s.zones.get z).fireCode = some c) :
    ((entryRaised s).codes.get c).latch = true ∧
      ((∀ y : ZoneId, y ≠ z → ((entryRaised s).zoneDyn.get y).fire = true → (s.zones.get y).fireCode ≠ some c) →
        ((entryRaised s).codes.get c).attrs =
          if (s.zoneDyn.get z).fire = true then ⟨.internal, none, some z, 1⟩
          else ⟨.frame, burningDetector s z, some z, 0⟩) := by
  have hderived := derived_atRest hrest
  have hkindles := kindles_igniteAll hderived
  have hignited := hkindles.atRest hderived
  have hzones : (derived s).zones = s.zones := by rw [derived_frame]
  have hc' : Raisable (derived s) c := by
    rw [derived_frame]
    exact ⟨hc.service, hc.code, hc.present, hc.level⟩
  have hset {y : ZoneId} (hy : (s.zoneDyn.get y).fire = true) : ((entryRaised s).zoneDyn.get y).fire = true := by
    rw [entryRaised_fire hrest, hy, Bool.true_or]
  by_cases hbefore : (s.zoneDyn.get z).fire = true
  · have hmem : z ∈ wasSet (derived s) := (mem_wasSet hrest).2 hbefore
    have hnamed : ((igniteAll (derived s)).zones.get z).fireCode = some c := by rw [hkindles.zones, hzones, hcode]
    refine ⟨raiseSet_latch hignited (hkindles.raisable hc') hmem hnamed, fun halone => ?_⟩
    rw [if_pos hbefore]
    refine raiseSet_attrs hignited (hkindles.raisable hc') hmem ((List.nodup_finRange 8).filter _) hnamed
      fun y hy hne => ?_
    rw [hkindles.zones, hzones]
    exact halone y hne (hset ((mem_wasSet hrest).1 hy))
  · rw [entryRaised_fire hrest, Bool.eq_false_iff.2 hbefore, Bool.false_or] at hfire
    have hfound : Found (derived s) z := by
      rw [Found, derived_burning, derived_fire hrest]
      exact ⟨hfire, hbefore⟩
    have hnamed : ((derived s).zones.get z).fireCode = some c := by rw [hzones, hcode]
    refine ⟨(kindles_raiseSet hignited _).latches.latch c (igniteAll_latch hderived hc' hfound hnamed), fun halone => ?_⟩
    have hburns {y : ZoneId} (hy : (burningDetector s y).isSome = true) :
        ((entryRaised s).zoneDyn.get y).fire = true := by rw [entryRaised_fire hrest, hy, Bool.or_true]
    have hkeeps : (entryRaised s).codes.get c = (igniteAll (derived s)).codes.get c := by
      refine raiseSet_get_of_ne hignited hc.code fun y hy => ?_
      have hyset := (mem_wasSet hrest).1 hy
      rw [hkindles.zones, hzones]
      exact halone y (fun heq => hbefore (heq ▸ hyset)) (hset hyset)
    have hattrs := igniteAll_attrs hderived hc' hfound hnamed fun y hne hy => by
      rw [hzones]
      rw [derived_burning] at hy
      exact halone y hne (hburns hy)
    rw [if_neg hbefore, hkeeps, hattrs, foundAttrs, derived_burning]

theorem entryRaised_outputs (hrest : AtRest s) {n : LineId} (h : (entryRaised s).outputs.get n = true) :
    s.outputs.get n = true := by
  have hderived := (kindles_entryRaised hrest).outputs n h
  rw [derived_frame] at hderived
  exact hderived

/-! ## The entry to RUN -/

/-- What an entry to RUN from `u` leaves; a RESTART then energises door holds. -/
structure EntersRun (restart : Bool) (u t : State) : Prop where
  frame : t = { u with
    device := .run, doorDyn := t.doorDyn, zoneDyn := t.zoneDyn, outputs := t.outputs, codes := t.codes }
  door : ∀ (d : DoorId) (a : Addr), (u.doors.get d).station = some a → (u.doorDyn.get d).command = .none →
    (t.doorDyn.get d).state = derivedDoor u a
  zone : ∀ z : ZoneId, (t.zoneDyn.get z).state = restState t z ∧
    (t.zoneDyn.get z).fire = ((u.zoneDyn.get z).fire || (burningDetector u z).isSome) ∧
    (t.zoneDyn.get z).override = (u.zoneDyn.get z).override
  code : ∀ (z : ZoneId) (c : Code), (t.zoneDyn.get z).fire = true → (u.zones.get z).fireCode = some c → 3 ≤ c.val →
    (u.vectors.get c).present = true → 0 < (u.vectors.get c).level → (t.codes.get c).latch = true ∧
      ((∀ y : ZoneId, y ≠ z → (t.zoneDyn.get y).fire = true → (u.zones.get y).fireCode ≠ some c) →
        (t.codes.get c).attrs = if (u.zoneDyn.get z).fire = true then ⟨.internal, none, some z, 1⟩
          else ⟨.frame, burningDetector u z, some z, 0⟩)
  start : restart = false → ∀ n : LineId, t.outputs.get n = true → u.outputs.get n = true
  restart : restart = true → ∀ (z : ZoneId) (n : LineId), (u.zones.get z).doorHold = some n →
    (u.lines.get n).fn = .doorHold z →
    (t.outputs.get n = true ↔ (t.zoneDyn.get z).fire = false ∧ (t.zoneDyn.get z).state ≠ .closed)

theorem AtRest.inRun (hrest : AtRest u) : AtRest { u with device := .run } := ⟨hrest.ramps, hrest.zones⟩

/-- Raised in RUN. -/
theorem raisable_inRun (hcode : 3 ≤ c.val) (hpresent : (u.vectors.get c).present = true)
    (hlevel : 0 < (u.vectors.get c).level) : Raisable { u with device := .run } c :=
  ⟨nofun, hcode, hpresent, Nat.ne_of_gt hlevel⟩

theorem entersRun_start (hrest : AtRest u) : EntersRun false u (enterRun false u) := by
  have hrun : enterRun false u = entryRaised { u with device := .run } := zonesEnterRun_false _
  rw [hrun]
  have hrest' := hrest.inRun
  exact
    { frame := entryRaised_frame hrest'
      door := fun _ _ hstation hcommand => entryRaised_door hrest' hstation hcommand
      zone := fun z => ⟨entryRaised_state hrest' z, entryRaised_fire hrest' z, entryRaised_override hrest' z⟩
      code := fun _ _ hfire hcode hc hpresent hlevel =>
        entryRaised_code hrest' (raisable_inRun hc hpresent hlevel) hfire hcode
      start := fun _ _ => entryRaised_outputs hrest'
      restart := nofun }

theorem isRest_not_closed {x : ZoneStatus} (h : x.isRest = true) : x = .opened ∨ x = .partly ↔ x ≠ .closed := by
  cases x <;> simp_all [ZoneStatus.isRest]

theorem OutputsOnly.frame_of_inRun (h : OutputsOnly s t)
    (hs : s = { u with
      device := .run, doorDyn := s.doorDyn, zoneDyn := s.zoneDyn, outputs := s.outputs, codes := s.codes }) :
    t = { u with
      device := .run, doorDyn := t.doorDyn, zoneDyn := t.zoneDyn, outputs := t.outputs, codes := t.codes } := by
  unfold OutputsOnly at h
  rw [h, hs]

theorem entersRun_restart (hrest : AtRest u) (hoff : ∀ n : LineId, u.outputs.get n = false) :
    EntersRun true u (enterRun true u) := by
  have hrest' := hrest.inRun
  have hrun : enterRun true u = energiseHolds (entryRaised { u with device := .run }) := zonesEnterRun_true _
  have honly : OutputsOnly (entryRaised { u with device := .run }) (enterRun true u) := by
    rw [hrun]
    exact energiseHolds_outputsOnly
  have hdoors : (enterRun true u).doorDyn = (entryRaised { u with device := .run }).doorDyn := by rw [honly]
  have hzones : (enterRun true u).zoneDyn = (entryRaised { u with device := .run }).zoneDyn := by rw [honly]
  have hcodes : (enterRun true u).codes = (entryRaised { u with device := .run }).codes := by rw [honly]
  have hrecords : (enterRun true u).doors = (entryRaised { u with device := .run }).doors := by rw [honly]
  have hframe := entryRaised_frame hrest'
  refine
    { frame := honly.frame_of_inRun hframe
      door := fun d a hstation hcommand => by
        rw [hdoors]
        exact entryRaised_door hrest' hstation hcommand
      zone := fun z => by
        rw [hzones, restState_congr hrecords hdoors]
        exact ⟨entryRaised_state hrest' z, entryRaised_fire hrest' z, entryRaised_override hrest' z⟩
      code := fun z c hfire hcode hc hpresent hlevel => by
        rw [hzones] at hfire
        rw [hcodes, hzones]
        exact entryRaised_code hrest' (raisable_inRun hc hpresent hlevel) hfire hcode
      start := nofun
      restart := fun _ z n hline hfn => ?_ }
  · have hstate : ((entryRaised { u with device := .run }).zoneDyn.get z).state.isRest = true := by
      rw [entryRaised_state hrest']
      exact restState_isRest ..
    have hdark : (entryRaised { u with device := .run }).outputs.get n = false :=
      Bool.eq_false_iff.2 fun hon => by
        have hbefore : u.outputs.get n = true := entryRaised_outputs hrest' hon
        rw [hoff n] at hbefore
        cases hbefore
    have hservice : (entryRaised { u with device := .run }).device ≠ .config := by
      rw [hframe]
      nofun
    rw [hzones, hrun, energiseHolds_iff hservice (by rw [hframe]; exact hline) (by rw [hframe]; exact hfn) hdark, Holds,
      isRest_not_closed hstate]

end Entered

end Sys2Proof.Machine
end

section

set_option Elab.async false

namespace Sys2Proof.Machine

/-! # START, STOP, RESTART and RESUME (R93, R178, R180, R181) -/

section DeviceRequests

variable {s t u : State} {h : Header} {z : ZoneId}

/-! ## Detectors and doors (R100, R107) -/

/-- The first element of a finite range that a test admits. -/
theorem find?_finRange_iff {n : Nat} {p : Fin n → Bool} {i : Fin n} :
    (List.finRange n).find? p = some i ↔ p i = true ∧ ∀ j : Fin n, j < i → ¬p j = true := by
  rw [List.find?_eq_some_iff_getElem]
  refine and_congr_right fun _ => ⟨?_, fun hfirst => ⟨i.val, by simp, by simp, fun j hj => ?_⟩⟩
  · rintro ⟨k, hk, hi, hfirst⟩ j hj
    have hval : k = i.val := by rw [← hi]; simp
    simpa using hfirst j.val (by rw [hval]; exact hj)
  · simpa using hfirst ⟨j, by omega⟩ hj

/-- A detector of the zone has its ALARM point active. -/
def Burns (s : State) (z : ZoneId) (a : Addr) : Prop :=
  (s.stations.get a).role = .detector ∧ (s.stations.get a).zone = some z ∧
    (s.stationDyn.get a).filtered.getLsbD 0 = true

theorem burns_iff {a : Addr} :
    ((s.stations.get a).role = .detector && (s.stations.get a).zone = some z && pointOn s a 0) = true ↔
      Burns s z a := by
  simp [Burns, pointOn, and_assoc]

theorem burningDetector_eq_some_iff {a : Addr} :
    burningDetector s z = some a ↔ Burns s z a ∧ ∀ b : Addr, b < a → ¬Burns s z b := by
  unfold burningDetector
  rw [find?_finRange_iff]
  simp only [burns_iff]

theorem burningDetector_eq_none_iff : burningDetector s z = none ↔ ∀ a : Addr, ¬Burns s z a := by
  unfold burningDetector
  rw [List.find?_eq_none]
  simp only [burns_iff, List.mem_finRange, true_implies]

theorem derivedDoor_eq (a : Addr) :
    derivedDoor s a =
      let d := s.stationDyn.get a
      if d.status = .silent then .unknown
      else if d.filtered.getLsbD 4 = true then .failed
      else if d.filtered.getLsbD 0 = true ∧ d.filtered.getLsbD 1 = false then .closed
      else if d.filtered.getLsbD 1 = true ∧ d.filtered.getLsbD 0 = false then .opened
      else .between := by
  cases hstatus : (s.stationDyn.get a).status <;> simp [derivedDoor, isHeard, pointOn, hstatus]

/-! ## What the reset of every block leaves -/

/-- The reset of every block, as the requests show it. -/
structure BlocksReset (s u : State) : Prop where
  kept : u.kept = { s.kept with
    device := .config, stationDyn := u.stationDyn, mapCounts := u.mapCounts, mirror := u.mirror
    timerDyn := u.timerDyn, rx := ⟨[], [], []⟩ }
  port : ∀ p : Port, counter u (portSet p) 12 = counter s (portSet p) 12 +
      BitVec.ofNat 32 ((s.port p).rx.length + (s.port p).tx.length) ∧
    ∀ f : TxFrame, (s.port p).sending = some f → (u.port p).sending = some f
  bridge : (u.port .bridge).tx = []
  links : SameLinks (speedsOf s (stopsOf s { s with ports := emptied s.ports })) u
  station : ∀ a : Addr, u.owners.get a = .free ∧
    u.stationDyn.get a = { s.stationDyn.get a with
      filtered := (s.stationDyn.get a).raw, candidates := 0, countdown := (s.stations.get a).checkTime / 100
      silence := 0, status := .heard }
  mirror : ∀ i : Fin 64, u.mirror.get i = { s.mirror.get i with valid := false }
  output : ∀ n : LineId, u.outputs.get n = false
  timer : ∀ ch : ChannelId, u.timerDyn.get ch = { s.timerDyn.get ch with running := false, phase := none }
  alerts : u.alerts = ⟨[], [], 0, none, none⟩
  ga : u.ga = ⟨false, none⟩
  code : ∀ c : Code, (u.codes.get c).latch = false ∧ ((u.codes.get c).mapCond = true ↔ 0 < u.mapCounts.get c) ∧
    ((u.codes.get c).lineCond = true ↔ 0 < s.lineCounts.get c)
  door : ∀ d : DoorId, u.doorDyn.get d = ⟨.unknown, .none, .stopped, .stopped, 0, false, .no, false⟩
  zone : ∀ z : ZoneId, (u.zoneDyn.get z).state = (if members s z = [] then .opened else .partly) ∧
    (u.zoneDyn.get z).cause = .none ∧ (u.zoneDyn.get z).clear = false ∧ (u.zoneDyn.get z).remaining = 0 ∧
    (u.zoneDyn.get z).awaitingClear = false ∧ (u.zoneDyn.get z).callRef = none ∧
    (u.zoneDyn.get z).callWait = .stopped ∧ (u.zoneDyn.get z).fire = (s.zoneDyn.get z).fire ∧
    (u.zoneDyn.get z).override = (s.zoneDyn.get z).override
  calls : u.calls = []
  line : ∀ z : ZoneId, u.zoneLines.get z = freshLine u z
  ramp : ∀ r : RampId, u.rampDyn.get r = (s.rampDyn.get r).afterReset

theorem blocksReset_resetBlocks : BlocksReset s (resetBlocks s) := by
  obtain ⟨m, k, hframe⟩ := resetBlocks_frame (s := s)
  replace hframe := hframe _ rfl
  have hfresh := codesFresh_resetBlocks (s := s)
  have hlineCounts : (resetBlocks s).lineCounts = s.lineCounts := by rw [hframe]
  have howners : (resetBlocks s).owners = Vector.replicate 254 .free := by rw [hframe]
  have hstations : (resetBlocks s).stationDyn =
      Tab.of fun a => (s.stationDyn.get a).afterReset (s.stations.get a).checkTime := by rw [hframe]
  have hmirror : (resetBlocks s).mirror = s.mirror.map (·.invalid) := by rw [hframe]
  have houtputs : (resetBlocks s).outputs = Vector.replicate 16 false := by rw [hframe]
  have htimers : (resetBlocks s).timerDyn = s.timerDyn.map (·.halted) := by rw [hframe]
  have hdoors : (resetBlocks s).doorDyn = Vector.replicate 24 DoorDyn.powerOn := by rw [hframe]
  have hzones : (resetBlocks s).zoneDyn =
      Tab.of fun z => (s.zoneDyn.get z).afterReset (if members s z = [] then .opened else .partly) := by rw [hframe]
  exact
    { kept := resetBlocks_kept
      port := fun p => ⟨resetBlocks_flushed p, fun _ => resetBlocks_sending⟩
      bridge := resetBlocks_bridge
      links := resetBlocks_links
      station := fun a => ⟨by rw [howners, Tab.get_replicate], by rw [hstations, Tab.get_of]; rfl⟩
      mirror := fun i => by rw [hmirror, Tab.get_map]; rfl
      output := fun n => by rw [houtputs, Tab.get_replicate]
      timer := fun ch => by rw [htimers, Tab.get_map]; rfl
      alerts := by rw [hframe]; rfl
      ga := by rw [hframe]; rfl
      code := fun c => ⟨hfresh.latch c, hfresh.maps c, hlineCounts ▸ hfresh.lines c⟩
      door := fun d => by rw [hdoors, Tab.get_replicate]; rfl
      zone := fun z => by rw [hzones, Tab.get_of]; exact ⟨rfl, rfl, rfl, rfl, rfl, rfl, rfl, rfl, rfl⟩
      calls := resetBlocks_calls
      line := fun _ => resetBlocks_zoneLines
      ramp := fun _ => resetBlocks_rampDyn }

theorem RampDyn.afterReset_inactive (d : RampDyn) : d.afterReset.state.isActive = false := by
  cases hstate : d.state <;> simp [RampDyn.afterReset, RampDyn.stopped, RampState.isActive, hstate]

/-- Every station is HEARD after the reset, so a line is FAULT by its amplifier's FAULT point alone (R142). -/
theorem BlocksReset.freshLine_eq (hreset : BlocksReset s u) (z : ZoneId) :
    u.zoneLines.get z = ⟨match (s.zones.get z).amplifier with
      | none => .fault
      | some a => if pointOn u a 1 = true then .fault else .free, none, .stopped, .stopped, .stopped⟩ := by
  have hzones : u.zones = s.zones := congrArg Kept.zones hreset.kept
  have hheard (a : Addr) : isHeard u a = true := by
    rw [isHeard, (hreset.station a).2]
    rfl
  rw [hreset.line z]
  unfold freshLine amplifier
  rw [hzones]
  cases (s.zones.get z).amplifier with
  | none => rfl
  | some a => cases hpoint : pointOn u a 1 <;> simp [hheard, hpoint]

theorem BlocksReset.atRest (hreset : BlocksReset s u) : AtRest u where
  ramps r := by rw [hreset.ramp r, RampDyn.afterReset_inactive]
  zones z := by
    obtain ⟨hstate, -⟩ := hreset.zone z
    rw [hstate]
    split <;> rfl

theorem resetBlocks_device : (resetBlocks s).device = .config := sends_resetBlocks.device.trans resetBase_config

/-! ## What the entry to RUN keeps -/

section Entered

variable {b : Bool}

theorem EntersRun.kept (h : EntersRun b u t) : t.kept = { u.kept with device := .run } := by rw [h.frame]; rfl

theorem EntersRun.device (h : EntersRun b u t) : t.device = .run := by rw [h.frame]

theorem EntersRun.alerts (h : EntersRun b u t) : t.alerts = u.alerts := by rw [h.frame]

theorem EntersRun.ga (h : EntersRun b u t) : t.ga = u.ga := by rw [h.frame]

theorem EntersRun.calls (h : EntersRun b u t) : t.calls = u.calls := by rw [h.frame]

theorem EntersRun.rampDyn (h : EntersRun b u t) : t.rampDyn = u.rampDyn := by rw [h.frame]

theorem EntersRun.zoneLines (h : EntersRun b u t) : t.zoneLines = u.zoneLines := by rw [h.frame]

theorem EntersRun.owners (h : EntersRun b u t) : t.owners = u.owners := by rw [h.frame]

end Entered

/-! ## The requests -/

theorem bridgeUp_iff : bridgeUp s = (s.port .bridge).up := rfl

theorem judgeStart_refused (hstate : s.device ≠ .config ∨ (s.port .bridge).up = false) : judgeStart s = .no .state :=
  if_pos hstate

theorem judgeStart_open (hconfig : s.device = .config) (hup : (s.port .bridge).up = true) :
    ¬(s.device ≠ .config ∨ bridgeUp s = false) := by
  rw [bridgeUp_iff, hup]
  simp [hconfig]

theorem judgeStart_fails {f : CheckFailure} (hconfig : s.device = .config) (hup : (s.port .bridge).up = true)
    (hcheck : checkTables s = some f) : judgeStart s = .refused .table (some f) := by
  unfold judgeStart
  rw [if_neg (judgeStart_open hconfig hup), hcheck]

theorem judgeStart_passes (hconfig : s.device = .config) (hup : (s.port .bridge).up = true)
    (hcheck : checkTables s = none) : judgeStart s = .yes (enterRun false s) .none := by
  unfold judgeStart
  rw [if_neg (judgeStart_open hconfig hup), hcheck]

theorem restartPart_fails {f : CheckFailure} (hcheck : checkTables s = some f) :
    restartPart s = (some f, resetBlocks s) := by
  unfold restartPart
  dsimp only
  rw [checkTables_resetBlocks, hcheck]

theorem restartPart_passes (hcheck : checkTables s = none) :
    restartPart s = (none, enterRun true (resetBlocks s)) := by
  unfold restartPart
  dsimp only
  rw [checkTables_resetBlocks, hcheck]

theorem judgeRestart_refused (hstate : s.device = .config ∨ (s.port .bridge).up = false) :
    judgeRestart s = .no .state := if_pos hstate

theorem judgeRestart_taken {f : Option CheckFailure} (hservice : s.device ≠ .config)
    (hup : (s.port .bridge).up = true) (hpart : restartPart s = (f, t)) :
    judgeRestart s = .yes t (.restarted t.device f) := by
  have hopen : ¬(s.device = .config ∨ bridgeUp s = false) := by
    rw [bridgeUp_iff, hup]
    simp [hservice]
  unfold judgeRestart
  rw [if_neg hopen, hpart]

theorem judgeResume_taken (hautonomous : s.device = .autonomous) (hup : (s.port .bridge).up = true) :
    judgeResume s = .yes { s with device := .run } .none := by
  refine if_neg ?_
  rw [bridgeUp_iff, hup]
  simp [hautonomous]

theorem judgeResume_refused (hstate : s.device ≠ .autonomous ∨ (s.port .bridge).up = false) :
    judgeResume s = .no .state := if_pos hstate

/-- A request that fails the consistency check is refused with the failure. -/
theorem exec_start_fails {f : CheckFailure} (hrun : s.resetHeld = false) (hauth : 3 ≤ h.authority)
    (hj : judgeStart s = .refused .table (some f)) :
    exec (.start h) s = .next (answer h .start (.refused .table (some f)) s) := by
  have hauth' : ¬authorityOf h < leastAuthority .start := by
    rw [authorityOf_lt_iff]
    exact Nat.not_lt.2 hauth
  refine (exec_request hrun .start).trans (congrArg _ ?_)
  exact (congrArg (serve h _ _ · s) hj).trans (serve_refused hauth')

theorem exec_restart_done {f : Option CheckFailure} {d : DeviceState} (hrun : s.resetHeld = false)
    (hauth : 3 ≤ h.authority) (hservice : s.device ≠ .config) (hup : (s.port .bridge).up = true)
    (hpart : restartPart s = (f, t)) (hdevice : t.device = d) :
    exec (.restart h) s = .next (answer h .restart (.done (.restarted d f)) (settle t)) := by
  subst hdevice
  exact exec_request_taken (q := .restart) (data := fun _ => .restarted t.device f) hrun hauth
    (judgeRestart_taken hservice hup hpart)

end DeviceRequests

/-! ## The obligation -/

/-- Settles O35: every request is judged to its new state, whose parts the reset of every block and the entry to RUN
give one by one. -/
theorem deviceStates : Obligations.DeviceStates := by
  unfold Obligations.DeviceStates
  refine ⟨⟨?_, fun s h hrun hauth => ⟨?_, ?_⟩⟩,
    fun s z => ⟨fun a => burningDetector_eq_some_iff, burningDetector_eq_none_iff⟩, fun s a => derivedDoor_eq a⟩
  case refine_2 =>
    exact fun hautonomous hup => exec_request_taken (q := .resume) (data := fun _ => .none) hrun hauth
      (judgeResume_taken hautonomous hup)
  case refine_3 => exact fun hstate => exec_request_refused (q := .resume) hrun hauth (judgeResume_refused hstate)
  intro reset entered
  have hreset {s u : State} (h : BlocksReset s u) : reset s u :=
    ⟨h.kept, h.port, h.bridge, ⟨h.links.ports, h.links.drops⟩, h.station, h.mirror, h.output, h.timer, h.alerts, h.ga,
      h.code, h.door, h.zone, h.calls, h.freshLine_eq, fun r => (h.ramp r).trans (RampDyn.afterReset_eq _)⟩
  have hentered {b : Bool} {u t : State} (h : EntersRun b u t) : entered b u t :=
    ⟨h.kept, h.alerts, h.ga, h.calls, h.rampDyn, h.zoneLines, h.owners, h.door, h.zone, h.code, h.start, h.restart⟩
  refine ⟨fun s h hrun hauth => ⟨?_, ?_, ?_⟩, fun s h hrun hauth => ⟨?_, ?_⟩, fun s h hrun hauth => ⟨?_, ?_, ?_⟩⟩
  case refine_1 => exact fun hstate => exec_request_refused (q := .start) hrun hauth (judgeStart_refused hstate)
  case refine_2 => exact fun f hconfig hup hcheck => exec_start_fails hrun hauth (judgeStart_fails hconfig hup hcheck)
  case refine_3 =>
    intro hconfig hup hcheck hramps hzones
    exact ⟨enterRun false s, exec_request_taken (q := .start) (data := fun _ => .none) hrun hauth
      (judgeStart_passes hconfig hup hcheck), hentered (entersRun_start ⟨hramps, hzones⟩)⟩
  case refine_4 =>
    exact fun hconfig => exec_request_refused (q := .stop) hrun hauth (inServiceOnly_config hconfig _)
  case refine_5 =>
    intro hservice
    exact ⟨resetBlocks s, exec_request_taken (q := .stop) (data := fun _ => .none) hrun hauth
      (inServiceOnly_of_ne hservice _), hreset blocksReset_resetBlocks⟩
  case refine_6 => exact fun hstate => exec_request_refused (q := .restart) hrun hauth (judgeRestart_refused hstate)
  case refine_7 =>
    intro f hservice hup hcheck
    exact ⟨resetBlocks s, exec_restart_done hrun hauth hservice hup (restartPart_fails hcheck) resetBlocks_device,
      hreset blocksReset_resetBlocks⟩
  case refine_8 =>
    intro hservice hup hcheck
    have hblocks : BlocksReset s (resetBlocks s) := blocksReset_resetBlocks
    have hruns : EntersRun true (resetBlocks s) (enterRun true (resetBlocks s)) :=
      entersRun_restart hblocks.atRest hblocks.output
    exact ⟨resetBlocks s, enterRun true (resetBlocks s),
      exec_restart_done hrun hauth hservice hup (restartPart_passes hcheck) hruns.device, hreset hblocks, hentered hruns⟩

end Sys2Proof.Machine
end
